-- ==== Sys2Proof/Word.lean ====
section
/-! DEFINITION. The word types of the LZM-2448 model (register words are 32 bits wide, 01_architecture.md R15). -/

namespace Sys2Proof

/-- One byte of memory or of a frame. -/
abbrev Byte := BitVec 8

/-- One 32-bit register word. -/
abbrev Word := BitVec 32

/-- A 64-bit waypoint entry (R84). -/
abbrev Entry := BitVec 64

end Sys2Proof
end

