-- ==== Sys2Proof/Syntax.lean ====
section
/-! DEFINITION. The commands of the block: one constructor of `Instr` per row of spec/opcode_table.json, with the
operands that a row's rule gives it, and the types of those operands. -/

namespace Sys2Proof

/-- The two lane dies (R1, R6). -/
inductive LaneId where
  | a
  | b
deriving DecidableEq, Repr

/-- Who writes a register: a host through one of the four ports, the lane's service core (which also serves the
monitor), or the configuration loader applying image records (R7, R110, R306). -/
inductive Writer where
  | host (p : Fin 4)
  | core
  | image
deriving DecidableEq, Repr

/-- What the pins show of one transition of a crank or cam input when the Odometer acts on it (R26 to R29). The stamp is
not an operand: the Odometer acts D_IN after it (R59), so it is the lane's time less that delay. -/
structure EdgeIn where
  /-- The input, or its zero crossing, rises; else it falls (R26, R27). -/
  rising : Bool := false
  /-- Peak of the lobe before the transition in mV, in variable-reluctance mode (R26). -/
  peak : Nat := 0
  /-- How long the input held its new level, in TCLK (R28). -/
  held : Nat := 0
  /-- At the return edge of pulse-width mode, the width of the crank pulse in TCLK (R29). -/
  width : Nat := 0
  /-- Level of DIR_x at the stamped time (R29, quadrature). -/
  dirHigh : Bool := false
deriving DecidableEq, Repr

/-- The end of a drive link at which a command's frame arrives (R105, R237). -/
structure LinkEnd where
  /-- The drive die. -/
  die : Fin 12
  /-- The frame fails its link check (R237). -/
  bad : Bool := false
deriving DecidableEq, Repr

/-- A part of a lane's start that ends, with what the parts of the self-test that leave no trace gave (R294 step 5). -/
structure BootEnd where
  lane : LaneId
  /-- The decoders and the spare words passed (log entry 40). -/
  memOk : Bool := true
deriving DecidableEq, Repr

/-- What RESP brings (R416, R417). -/
structure RespArg where
  /-- The response. -/
  bytes : List Byte
  /-- The erasure after a correct one comes to its end; else a reset or a loss of supply cuts it short (R417). -/
  done : Bool := true
deriving DecidableEq, Repr

/-- The registers that R33 and R78 protect while the Odometer is enabled. -/
inductive OdoCfgReg where
  | wheel | camwin | gapratio | timeout | sensor | dir | interp | spdwin
deriving DecidableEq, Repr

/-- The element that a hardware trip names (R134). -/
inductive TripPoint where
  | channel (n : Fin 192)
  | pair (n : Fin 192)
  | quadHigh (q : Fin 48)
  | lowSideTemp (n : Fin 192)
deriving DecidableEq, Repr

/-- The settings that travel as R159 and R185 state: one boost rail's, or the spark sets of one drive die. -/
inductive SetTarget where
  | rail (k : Fin 4)
  | sparkSets (d : Fin 12)
deriving DecidableEq, Repr

/-- One sigma-delta modulator of a lane (R186). -/
inductive Modulator where
  | ac (a : Fin 24)
  | sc (m : Fin 8)
deriving DecidableEq, Repr

/-- The acquisition registers that R213 protects. -/
inductive AdcProtReg where
  | acCtrl (a : Fin 24) | acWin (a : Fin 24) | acFbase (a : Fin 24) | acFstride (a : Fin 24) | acRbase (a : Fin 24)
  | scQbase (m : Fin 8) | scQctrl (m : Fin 8)
deriving DecidableEq, Repr

/-- A value of the 2-bit authority selection (R232). -/
inductive Voted where
  | none | laneA | laneB | safe
deriving DecidableEq, Repr

/-- What a voter drives: a valid level, or something that is none of the four (R232). -/
inductive VoterOut where
  | level (v : Voted)
  | invalid
deriving DecidableEq, Repr

/-- A voter's health at a decision: it follows the rules, or it drives a stuck output (R232). -/
inductive VoterFault where
  | healthy
  | stuck (o : VoterOut)
deriving DecidableEq, Repr

/-- A host request frame but for its opcode, which the command names (R322): header fields, payload and CRC as
they came over the link; `quad` is the width of the assertion (R320). -/
structure Frame where
  quad : Bool := true
  tag : BitVec 8 := 0
  len : BitVec 16 := 0
  addr : BitVec 32 := 0
  arg : BitVec 32 := 0
  payload : List Byte := []
  crc : BitVec 32 := 0
deriving DecidableEq, Repr

/-- The byway registers that R384 protects while the engine runs. -/
inductive BywCfgReg where
  | raten | rated | pincfg | qcfg
deriving DecidableEq, Repr

/-- How a two-wire controller command ends (R387, R389). -/
inductive TwiOutcome where
  /-- Every byte transferred; the bytes that were read. -/
  | done (rd : List Byte)
  /-- No acknowledgement of byte `byte`, after the bytes `rd` were read. -/
  | nack (byte : Nat) (rd : List Byte)
  /-- Arbitration lost at byte `byte`, position `bit` (R389), after the bytes `rd` were read. -/
  | arbLost (byte : Nat) (bit : BitVec 4) (rd : List Byte)
deriving DecidableEq, Repr

/-- The two-wire registers that R396 protects. -/
inductive TwiCfgReg where
  | tim0 | tim1 | tout | taddr | twin
deriving DecidableEq, Repr

/-- The keys of the key store (R292). -/
inductive KeyName where
  | a | e | c
deriving DecidableEq, Repr

/-- How a line reaches the monitor (R412, R413). -/
inductive MonLine where
  /-- A well-formed line of the row's command. -/
  | good
  /-- A character of the line has a framing error: the line is discarded. -/
  | framing
  /-- The line is empty or too long: it is discarded. -/
  | discarded
  /-- The line names no command of R414. -/
  | unknown
  /-- The line names a command of R414 with bad syntax. -/
  | misspelt
deriving DecidableEq, Repr

/-- The argument of the monitor's OPT command (R414). -/
inductive OptArg where
  | p | e | t (m : Fin 6)
deriving DecidableEq, Repr

/-- The commands, in the order of spec/opcode_table.json. -/
inductive Instr where
  /-- REGISTER_WRITE (R7). A host, service-core or image write to a register that has no row of its own is applied according to the field access codes. -/
  | registerWrite (l : LaneId) (m : Writer) (addr : BitVec 32) (v : Word)
  /-- COLD_POWER_UP (R294). Supply good after OFF starts every step of the lane start-up sequence, including the fuse load and the memory clearing. -/
  | coldPowerUp (l : LaneId)
  /-- MEMORY_INIT_DONE (R290). Cold initialisation of the arrays and spare words completes and INIT_DONE is set. -/
  | memoryInitDone (b : BootEnd)
  /-- PLL_LOCK (R294). The reference and root PLL lock, LANE_TIME starts and Crosswalk training begins. -/
  | pllLock (b : BootEnd)
  /-- PLL_LOCK_TIMEOUT (R400). The PLL has not locked within 10 ms, so the lane is held in reset and retried every 100 ms. -/
  | pllLockTimeout (l : LaneId)
  /-- DIGEST_EXCHANGE (R250). The other lane's sequence number and digest arrive and decide eligibility, DIGEST fences and rejoin. -/
  | digestExchange (l : LaneId)
  /-- PARTNER_REPORT_TIMEOUT (R297). The partner has not reported within 150 ms, so the lane presents STANDBY. -/
  | partnerReportTimeout (l : LaneId)
  /-- IMAGE_REPAIR (R310). After READY the service core validates and rewrites failing or stale image copies. -/
  | imageRepair (l : LaneId)
  /-- JOURNAL_PAGE_WRITE (R313). The journal page buffer is written when full, 1 s after its first record, or at once for a CONTAINED or FATAL fault record.
  `fails`: the NAND device fails the first program of it (R303, R313). -/
  | journalPageWrite (l : LaneId) (fails : Bool)
  /-- SNAPSHOT (R312). A SNAPSHOT journal record is written hourly or on a change of remap or erasure. -/
  | snapshot (l : LaneId)
  /-- PATROL (R314). Every PATROL_H hours the store pages are read and worn or disturbed blocks are refreshed. -/
  | patrol (l : LaneId)
  /-- SCRUB_INTERVAL (R288). At the SCRUB_H interval the service core starts a whole-array scrub pass. -/
  | scrubInterval (l : LaneId)
  /-- INSTALL (R315). A write of the install key starts checking the staged image and writing three copies into the other slot. -/
  | install (l : LaneId)
  /-- INSTALL_DONE (R315). The install completes or fails and sets its result.
  `fails`: the NAND device fails a program of a copy (R303, R318). -/
  | installDone (l : LaneId) (fails : Bool)
  /-- CRANK_EDGE (R35). The Odometer acts on an accepted crank edge: it stamps the edge, evaluates the gap, tracks synchronisation and predicts the period. -/
  | crankEdge (l : LaneId) (sec : Bool) (e : EdgeIn)
  /-- DIRECTION_CONFIRMED (R49). DIR_CONFIRM contrary teeth confirm a new direction, as a commanded or an unexpected reversal. -/
  | directionConfirmed (l : LaneId) (e : EdgeIn)
  /-- CAM_EDGE (R37). An accepted cam edge is evaluated as a cam reference and judged against the cam window. -/
  | camEdge (l : LaneId) (e : EdgeIn)
  /-- VIRTUAL_EDGE (R45). The virtual edge of a sensor switch is acted on at its computed time. -/
  | virtualEdge (l : LaneId)
  /-- HOLD_SPAN_END (R73). A virtual span end in HOLD is acted on at t0 + Pp. -/
  | holdSpanEnd (l : LaneId)
  /-- STALL (R47). The tooth timeout expires on the tracked sensors, so a stall is declared and the Odometer goes to STOPPED. -/
  | stall (l : LaneId)
  /-- SILENT (R46). A sensor delivers no edge while the other delivers 4 teeth, so it is declared SILENT. -/
  | silent (l : LaneId) (sec : Bool)
  /-- HOLD_LIMIT (R41). HOLD_LIMIT milestones pass in HOLD without verification, so the Odometer enters LOST. -/
  | holdLimit (l : LaneId)
  /-- CONFLICT_LIMIT (R39). CONFLICT_LIMIT consecutive conflicting cycles send the Odometer to LOST. -/
  | conflictLimit (l : LaneId)
  /-- CAM_MISS (R39). The cam window passes in FULL_SYNC with no reference, so CAM_MISS is set. -/
  | camMiss (l : LaneId)
  /-- CAM_SILENT (R37). Two revolutions pass in CRANK_SYNC with no cam reference, so CAM_SILENT is set. -/
  | camSilent (l : LaneId)
  /-- ODO_ENABLE (R78). A write of EN = 1 to ODO_CTRL enables the Odometer, or is refused with CFG_REJ. -/
  | odoEnable (l : LaneId) (v : Word)
  /-- ODO_DISABLE (R41). A write of EN = 0 to ODO_CTRL sends the Odometer to STOPPED, treated as a stall. -/
  | odoDisable (l : LaneId) (v : Word)
  /-- RESYNC (R41). A write of 1 to RESYNC sends the Odometer to SEEK. -/
  | resync (l : LaneId) (v : Word)
  /-- ODO_CONFIG_WRITE (R33). A write to a wheel, timeout, sensor, direction, interpolation or speed-window register while EN = 1 is ignored and sets CFG_REJ. -/
  | odoConfigWrite (l : LaneId) (reg : OdoCfgReg) (v : Word)
  /-- GEO_RESET (R64). A write of 1 to GEO_RESET sets every geometry factor to nominal and clears ODO_GEOSTAT. -/
  | geoReset (l : LaneId) (v : Word)
  /-- GEOMETRY_WRITE (R64). A host write to a geometry entry is applied only while EN = 0 or FREEZE = 1. -/
  | geometryWrite (l : LaneId) (astern : Bool) (i : Fin 1024) (v : Word)
  /-- MARK_ENABLE (R75). A write of EN = 1 to a mark generator enables it, or is refused with MARK_REJ. -/
  | markEnable (l : LaneId) (g : Fin 8) (v : Word)
  /-- MICRO_TICK (R65). In a TCLK in which the angle word is below its target, one micro-tick is emitted. -/
  | microTick (l : LaneId)
  /-- LINK_HELD (R105). A crossing held for a full link queue is issued once the queue has room. -/
  | linkHeld (l : LaneId) (d : Fin 12)
  /-- COMMIT (R92). A WPT_COMMIT write with CANCEL = 0 sets the pending flag of a route or of all owned routes. -/
  | commit (l : LaneId) (w : Writer) (v : Word)
  /-- COMMIT_CANCEL (R92). A WPT_COMMIT write with CANCEL = 1 clears the pending flags. -/
  | commitCancel (l : LaneId) (w : Writer) (v : Word)
  /-- SHADOW_WRITE (R91). A host write to the shadow window is applied to the shadow bank, or completes with BUSY or NOT_OWNER. -/
  | shadowWrite (l : LaneId) (w : Writer) (addr : BitVec 32) (v : Word)
  /-- ROUTE_RAM_WRITE (R91). A direct host write to the route RAM is applied only to an idle route's bank or to a header, and otherwise completes with BUSY. -/
  | routeRamWrite (l : LaneId) (w : Writer) (addr : BitVec 32) (v : Word)
  /-- SCHED_ENABLE (R108). A write of WPT_CTRL.EN = 1 while the angle word is valid starts the routes, as at an entry to FULL_SYNC. -/
  | schedEnable (l : LaneId) (v : Word)
  /-- SCHED_DISABLE (R107). A write of WPT_CTRL.EN = 0 cancels all waypoints with cause STOP. -/
  | schedDisable (l : LaneId) (v : Word)
  /-- SWAP_DECISION (R95). The authority lane's swap decision arrives at the standby lane and is applied at its route cycle start, together with the estimate sync. -/
  | swapDecision (l : LaneId)
  /-- SWAP_DECISION_TIMEOUT (R95). No decision has arrived within 4 µs, so the standby lane decides alone and sets DEC_MISS. -/
  | swapDecisionTimeout (l : LaneId) (r : Fin 240)
  /-- START (R139). A start command arrives at the drive die and is checked, started, made to wait, refused or dropped. -/
  | start (l : LaneId) (d : LinkEnd)
  /-- START_WAIT_END (R139). A waiting start reaches its earliest time with the quad free, so the duty limit is re-checked and phase 0 starts. -/
  | startWaitEnd (n : Fin 192)
  /-- OFF_DROP (R131). DEFER_LIM elapses for a waiting start, so it is dropped as OFF_DROP. -/
  | offDrop (n : Fin 192)
  /-- QUAD_DROP (R126). MAX_DEFER elapses for a start waiting on its quad, so it is dropped as QUAD_DROP. -/
  | quadDrop (n : Fin 192)
  /-- END (R87). An END command ends the channel's angle-ended event with its end decay, or is ignored. -/
  | endCmd (l : LaneId) (d : LinkEnd)
  /-- STOP (R141). A STOP command ends angle-ended events, lets time-ended events run, cancels waiting starts and soft-aborts dwell. -/
  | stop (l : LaneId) (d : LinkEnd)
  /-- HALT (R141). A HALT command sends every channel into fast decay, cancels waiting starts and soft-aborts dwell. -/
  | halt (l : LaneId) (d : LinkEnd)
  /-- EVENT_TIME_END (R122). The DUR of a time-ended event elapses, so END_DECAY begins. -/
  | eventTimeEnd (n : Fin 192)
  /-- MAX_DURATION (R87). An angle-ended event reaches its maximum duration and ends with fast decay. -/
  | maxDuration (n : Fin 192)
  /-- PHASE_TIME_END (R122). A phase's TIME elapses and the next phase begins or the profile ends. -/
  | phaseTimeEnd (n : Fin 192)
  /-- CURRENT_SAMPLE (R118). A low-side current sample drives regulation, current-target phase exits, peak timing, the landing detector and the end of decay. -/
  | currentSample (n : Fin 192) (i : BitVec 11) (iOdd : BitVec 11)
  /-- OPEN (R133). T_MAX elapses before the peak current is reached, so OPEN is reported and the event ends. -/
  | openPeak (n : Fin 192)
  /-- DECAY_STUCK (R140). The current does not fall below 0.25 A within 500 µs of decay, so the channel enters FAULT. -/
  | decayStuck (n : Fin 192)
  /-- BOOST_ABORT (R129). A later boost-using phase stays blocked for MAX_DEFER, so the event ends with fast decay. -/
  | boostAbort (n : Fin 192)
  /-- HW_TRIP (R134). A hardware over-current or over-temperature trip ends the affected events and puts their channels in FAULT. -/
  | hwTrip (t : TripPoint)
  /-- DIE_HOT (R136). A drive die becomes hot, so starts on SHED channels are refused. -/
  | dieHot (d : Fin 12) (temp : BitVec 12) (power : BitVec 12)
  /-- DIE_FENCED (R136). A drive die reaches 175 °C or 10 W, so all its events end and its channels enter FAULT. -/
  | dieFenced (d : Fin 12) (temp : BitVec 12) (power : BitVec 12)
  /-- DIE_COOL (R136). A drive die is no longer hot, so FENCED clears. -/
  | dieCool (d : Fin 12) (temp : BitVec 12) (power : BitVec 12)
  /-- OFF_DIAG (R137). The off-state diagnosis of an idle quad runs and records its results. -/
  | offDiag (q : Fin 48) (before : BitVec 4) (node : Bool) (after : BitVec 4)
  /-- PROFILE_SELECT (R123). A write to CHNn_PROFILE_SEL0 or CHNn_PROFILE_SEL1 queues distribution of the changed slots. -/
  | profileSelect (l : LaneId) (n : Fin 192) (hi : Bool) (v : Word)
  /-- PDIST (R123). A write to CHN_PDIST queues distribution of a profile, or of all slots. -/
  | pdist (l : LaneId) (v : Word)
  /-- PROFILE_COPY_ARRIVAL (R124). A distributed slot copy arrives at the die and is accepted or discarded on its CRC. -/
  | profileCopyArrival (d : Fin 12)
  /-- QUAD_CTRL_WRITE (R130). A write to CHN_QUADq_CTRL is taken, or its pairing and mode fields are refused while the quad is busy. -/
  | quadCtrlWrite (l : LaneId) (q : Fin 48) (v : Word)
  /-- DIE_SETTING_WRITE (R442). A channel or quad setting write arrives at the die and is applied only from the authority lane. -/
  | dieSettingWrite (l : LaneId) (d : Fin 12)
  /-- CHANNEL_ENABLE (R140). EN written 1 takes a channel from OFF to IDLE. -/
  | channelEnable (l : LaneId) (n : Fin 192) (v : Word)
  /-- CHANNEL_DISABLE (R140). EN written 0 ends the channel's event and takes the channel to OFF. -/
  | channelDisable (l : LaneId) (n : Fin 192) (v : Word)
  /-- CLR (R140). CLR written 1 takes a channel out of FAULT when its die is not fenced. -/
  | clr (l : LaneId) (n : Fin 192) (v : Word)
  /-- LANDING_REPORT (R151). A landing report arrives at a lane and updates the opening-delay estimate and the miss count. -/
  | landingReport (l : LaneId)
  /-- LANDING_WINDOW_CLOSE (R149). The landing window closes with no confirmed dip, so the verdict is MISSING and a report is sent. -/
  | landingWindowClose (n : Fin 192)
  /-- SEED (R153). A write of 1 to SEED sets the estimate to D_INIT and clears the miss count. -/
  | seed (l : LaneId) (n : Fin 192) (v : Word)
  /-- ESTIMATE_WRITE (R153). A write to LNDn_EST is applied only while EN = 0 or FREEZE = 1, and otherwise sets CFG_REJ. -/
  | estimateWrite (l : LaneId) (n : Fin 192) (v : Word)
  /-- RAIL_MEASUREMENT (R160). The 1 µs rail measurement starts or stops charging and checks the ramp, OV and UV. -/
  | railMeasurement (k : Fin 4) (v : BitVec 12)
  /-- BOOST_CYCLE_START (R161). The off-time TOFF ends and the FET turns on for the next charging cycle. -/
  | boostCycleStart (k : Fin 4)
  /-- BOOST_FET_OFF (R161). The sense voltage reaches ILIM, or 10 µs pass, so the FET turns off. -/
  | boostFetOff (k : Fin 4) (byLimit : Bool)
  /-- SENSE_FAULT (R163). Sixteen consecutive cycles are ended by the 10 µs limit, so the controller goes to STOPPED. -/
  | senseFault (k : Fin 4)
  /-- CHG_TIMEOUT (R163). The 10 ms charge limit expires, so the controller goes to STOPPED. -/
  | chgTimeout (k : Fin 4)
  /-- BOOST_ENABLE (R163). EN written 1 starts the ramp of a boost rail. -/
  | boostEnable (l : LaneId) (k : Fin 4) (v : Word)
  /-- BOOST_DISABLE (R163). EN written 0 sends the boost controller to OFF. -/
  | boostDisable (l : LaneId) (k : Fin 4) (v : Word)
  /-- SET_ERR (R159). Boost or spark-set settings arrive at the die and are taken, or kept old on a CRC mismatch. -/
  | setErr (t : SetTarget)
  /-- DWELL (R176). A DWELL command starts the gate's dwell, or is refused. -/
  | dwell (l : LaneId) (d : LinkEnd)
  /-- SPARK (R177). A SPARK command ends the dwell with a spark, or holds the spark to the dwell floor. -/
  | spark (l : LaneId) (d : LinkEnd)
  /-- LATE_SPARK (R177). The dwell floor is reached for a spark that was held, so the spark occurs. -/
  | lateSpark (g : Fin 48)
  /-- RESTRIKE_GAP_END (R178). RS_GAP ends and the restrike dwell begins. -/
  | restrikeGapEnd (g : Fin 48)
  /-- RESTRIKE_DWELL_END (R178). RS_DW ends with a restrike spark. -/
  | restrikeDwellEnd (g : Fin 48)
  /-- OVERDWELL (R179). DW_MAX passes with no SPARK command, so the dwell is soft-aborted. -/
  | overdwell (g : Fin 48)
  /-- SOFT_ABORT_END (R180). The 2 ms soft-abort ramp completes and the gate takes its recorded state. -/
  | softAbortEnd (g : Fin 48)
  /-- GATE_OPEN_CHECK (R182). CHK_T of dwell passes with the sense current below I_MINCHK, so OPEN is reported. -/
  | gateOpenCheck (g : Fin 48) (igs : BitVec 10)
  /-- GATE_SHORT (R182). The sense current reaches I_TRIP, so the gate is soft-aborted into FAULT. -/
  | gateShort (g : Fin 48) (igs : BitVec 10)
  /-- STUCK_ON (R182). Current stays above I_LEAK for 10 µs with IGg low, so the gate enters FAULT. -/
  | stuckOn (g : Fin 48) (igs : BitVec 10)
  /-- CHARGE_REPORT (R175). A charge-time report arrives and updates the current-mode dwell estimate. -/
  | chargeReport (l : LaneId)
  /-- GATE_ENABLE (R184). EN written 1 takes a gate to IDLE. -/
  | gateEnable (l : LaneId) (g : Fin 48) (v : Word)
  /-- GATE_DISABLE (R180). EN written 0 soft-aborts the gate and takes it to OFF. -/
  | gateDisable (l : LaneId) (g : Fin 48) (v : Word)
  /-- GATE_CLEAR (R184). CLR written 1 takes a gate out of FAULT. -/
  | gateClear (l : LaneId) (g : Fin 48) (v : Word)
  /-- MAIN_OUTPUT (R196). A main-path output completes, and the waiting marks are placed as samples into frames. -/
  | mainOutput (l : LaneId) (a : Fin 24) (x : Int) (overload : Bool)
  /-- FAST_OUTPUT (R200). A fast-path output is compared with the window comparator and may open a window or request an injected conversion. -/
  | fastOutput (l : LaneId) (a : Fin 24) (x : BitVec 12)
  /-- SCAN_CONVERSION_DONE (R191). A scan or injected conversion completes, its result enters the queue and the next entry starts. -/
  | scanConversionDone (l : LaneId) (m : Fin 8) (x : Int) (overload : Bool)
  /-- GO (R204). A write of GO triggers a scan pass. -/
  | go (l : LaneId) (m : Fin 8) (v : Word)
  /-- INJ (R205). A software request sets an injected slot pending, which preempts the sequence. -/
  | inj (l : LaneId) (m : Fin 8) (v : Word)
  /-- CAL (R209). A write of CAL = 1 starts self-calibration of every enabled modulator. -/
  | cal (l : LaneId) (v : Word)
  /-- CALIBRATION_DONE (R210). A modulator's calibration completes and its coefficients are accepted or rejected. -/
  | calibrationDone (l : LaneId) (u : Modulator) (ofs : Int) (gain : BitVec 24)
  /-- REFILL_DONE (R203). An angle channel's main path is refilled after calibration or IDLE, and capture re-arms. -/
  | refillDone (l : LaneId) (a : Fin 24)
  /-- ANGLE_CHANNEL_ENABLE (R213). EN written 1 arms an angle channel, or the enable is refused. -/
  | angleChannelEnable (l : LaneId) (a : Fin 24) (v : Word)
  /-- ANGLE_CHANNEL_DISABLE (R203). EN written 0 stops the modulator and closes an open frame as ABORTED. -/
  | angleChannelDisable (l : LaneId) (a : Fin 24) (v : Word)
  /-- ADC_PROTECTED_WRITE (R213). A write to a protected acquisition field while enabled is ignored and sets CFG_REJ. -/
  | adcProtectedWrite (l : LaneId) (reg : AdcProtReg) (v : Word)
  /-- QRD_WRITE (R208). A host write to QRD consumes result-queue entries. -/
  | qrdWrite (l : LaneId) (m : Fin 8) (v : Word)
  /-- SUMMARY_WRITTEN (R219). A combustion summary record is written after a frame closes, and the guard is evaluated. -/
  | summaryWritten (l : LaneId) (c : Fin 24)
  /-- GUARD_VERDICT (R223). The authority lane's guard verdict arrives at the standby lane and is acted on. -/
  | guardVerdict (l : LaneId)
  /-- GUARD_VERDICT_TIMEOUT (R223). No verdict has arrived within 4 µs, so the standby lane acts on its own verdict and sets DEC_MISS. -/
  | guardVerdictTimeout (l : LaneId) (c : Fin 24)
  /-- CUT_CLR (R222). A write of 1 to CUT_CLR ends the cylinder's cut at once. -/
  | cutClr (l : LaneId) (c : Fin 24) (v : Word)
  /-- COMBUSTION_CONFIG_WRITE (R225). A write to a protected combustion field while the unit is enabled is ignored and sets CFG_REJ. -/
  | combustionConfigWrite (l : LaneId) (addr : BitVec 32) (v : Word)
  /-- JUNCTION_DECISION (R230). A voter sees a change in the claims, keep-alives or fences and decides its next state. -/
  | junctionDecision (f0 : VoterFault) (f1 : VoterFault) (f2 : VoterFault)
  /-- KEEPALIVE_LOSS (R227). A lane's keep-alive has not toggled for 2 µs, so it is treated as RELEASE and fenced SILENT. -/
  | keepaliveLoss (l : LaneId)
  /-- START_ELIGIBLE_TIMEOUT (R230). A lane has been eligible for 500 ms in START, so it is granted authority. -/
  | startEligibleTimeout (l : LaneId)
  /-- AUTHORITY_CHANGE (R233). A new voted value takes effect at a drive die, and held commands are executed or discarded. -/
  | authorityChange (d : Fin 12)
  /-- HELD_COMMAND_EXPIRY (R239). A held command older than 20 µs is discarded. -/
  | heldCommandExpiry (d : Fin 12)
  /-- SPEED_WORD (R236). A speed word and the comparison state arrive at a drive die. -/
  | speedWord (l : LaneId) (d : LinkEnd)
  /-- COMPARE_WINDOW_EXPIRY (R237). A stored command finds no partner within 10 µs, so a MISSING mismatch is reported. -/
  | compareWindowExpiry (d : Fin 12)
  /-- RELEASE (R234). The release key written to JCT_FENCE in the authority lane clears the SILENT and DISPUTE causes of the other lane. -/
  | release (l : LaneId) (v : Word)
  /-- HANDOVER (R235). The key written to JCT_HANDOVER requests a planned handover, or sets HAND_REJ. -/
  | handover (l : LaneId) (v : Word)
  /-- HEARTBEAT (R245). A heartbeat arrives from the other lane and clears the missed count or brings the link up. -/
  | heartbeat (l : LaneId)
  /-- HEARTBEAT_MISSED (R245). A heartbeat slot passes empty, and the fourth declares the link DOWN.
  `badCrc`: a frame with a bad CRC came in its place (R254). -/
  | heartbeatMissed (l : LaneId) (badCrc : Bool)
  /-- HEARTBEAT_SEND (R245). Every 1 µs the lane sends a heartbeat. -/
  | heartbeatSend (l : LaneId)
  /-- RETRY (R244). A frame is not acknowledged within 1 µs, so it is sent again, and the fourth failure sets the link DOWN.
  `badCrc`: the frame reached the other lane with a bad CRC (R254). -/
  | retry (l : LaneId) (badCrc : Bool)
  /-- FORWARDED_WRITE (R248). A forwarded mirrored write arrives at the other lane and is applied and acknowledged. -/
  | forwardedWrite (l : LaneId)
  /-- FORWARD_ACK (R248). The other lane's acknowledgement arrives, and the host write completes. -/
  | forwardAck (l : LaneId)
  /-- REMOTE_ACCESS (R17). A remote-lane window access arrives over the Crosswalk and is served in this lane. -/
  | remoteAccess (l : LaneId)
  /-- REMOTE_RESPONSE (R17). The response to a remote-window access arrives and completes the host request. -/
  | remoteResponse (l : LaneId)
  /-- REJOIN_DONE (R251). The rejoin copy completes, so the mirror becomes LINKED and XWK and REJOIN clear. -/
  | rejoinDone (l : LaneId)
  /-- FAULT_MESSAGE (R259). The collector processes one fault message: it records, counts and captures it and selects its reaction.
  `arrives`: the two words of a message that a checker of the lane sends with it (R241, R255), if one does. -/
  | faultMessage (l : LaneId) (arrives : Option (Word × Word))
  /-- FLT_PEND_CLEAR (R261). Writing 1 to a FLT_PEND class bit clears it and re-arms capture. -/
  | fltPendClear (l : LaneId) (v : Word)
  /-- SAFE_ENTER_KEY (R265). The enter key written to FLT_SAFE requests safe state. -/
  | safeEnterKey (l : LaneId) (v : Word)
  /-- SAFE_EXIT_KEY (R267). The exit key written to FLT_SAFE leaves safe state, or sets EXIT_REJ. -/
  | safeExitKey (l : LaneId) (v : Word)
  /-- BIST (R270). The background self-test tests a checker item. -/
  | bist (l : LaneId) (item : Fin 10) (pass : Bool)
  /-- CLOCK_FAULT_RECORD (R399). With the lane's clocks stopped, the always-on part records the clock fault. -/
  | clockFaultRecord (l : LaneId) (pll : Bool)
  /-- MERGE_IDLE_FLUSH (R278). 64 CCLK pass with no narrow write, so every merge entry is flushed. -/
  | mergeIdleFlush (l : LaneId)
  /-- MERGE_FLUSH (R278). A write of FLUSH to MEM_MERGE flushes every merge entry. -/
  | mergeFlush (l : LaneId) (v : Word)
  /-- REMAP_WRITE (R283). The service core populates or releases a remap entry, while a host write is ignored with CFG_REJ. -/
  | remapWrite (l : LaneId) (w : Writer) (i : Fin 16) (v : Word)
  /-- ERASE_WRITE (R285). The service core sets or clears macro erasure, while a host write is ignored. -/
  | eraseWrite (l : LaneId) (w : Writer) (v : Word)
  /-- SCRUB_GO (R286). A write of GO starts a scrub pass, or is refused. -/
  | scrubGo (l : LaneId) (v : Word)
  /-- SCRUB_ABORT (R288). A write of ABORT ends the scrub pass with its summary so far. -/
  | scrubAbort (l : LaneId) (v : Word)
  /-- SCRUB_WORD (R287). The scrubber reads one word, writes it back or poisons it, and ends the pass at the end address. -/
  | scrubWord (l : LaneId)
  /-- NOP (R323). A NOP frame does nothing but restart the watchdog. -/
  | nop (p : Fin 4) (f : Frame)
  /-- WRITE (R330). A WRITE frame is checked and applied in the own lane, and mirrored or held as an action write. -/
  | write (p : Fin 4) (f : Frame)
  /-- READ (R328). A READ frame reads a block and queues its response. -/
  | read (p : Fin 4) (f : Frame)
  /-- FENCE (R333). A FENCE frame is accepted and waits for the earlier writes of its port. -/
  | fence (p : Fin 4) (f : Frame)
  /-- FENCE_COMPLETE (R333). Every covered write is held and the merge buffers are flushed, so the FENCE completes. -/
  | fenceComplete (p : Fin 4) (tag : Fin 64)
  /-- READ_RESP (R329). A READ_RESP frame releases acknowledged responses and delivers the response block. -/
  | readResp (p : Fin 4) (f : Frame) (taken : Nat)
  /-- DOZE (R339). A DOZE frame puts the port receiver into DOZE. -/
  | doze (p : Fin 4) (f : Frame)
  /-- STREAM (R334). A STREAM frame takes bytes from a stream queue, or waits for the fill. -/
  | stream (p : Fin 4) (f : Frame)
  /-- STREAM_WAIT_COMPLETE (R334). A waiting STREAM request's queue reaches LEN, so the request completes. -/
  | streamWaitComplete (p : Fin 4) (q : Fin 4)
  /-- MODERATION_TIMEOUT (R336). The moderation timer expires and RESP_SIG is set. -/
  | moderationTimeout (p : Fin 4)
  /-- PORT_WAKE (R339). A fall of Hn_WAKE_N or Hn_CS_N takes the port out of DOZE. -/
  | portWake (p : Fin 4)
  /-- PORT_READY (R339). 5 µs after the wake the port is ready to take frames. -/
  | portReady (p : Fin 4)
  /-- HOST_WDOG (R340). The host watchdog expires, so the policy of WPT_HOSTSIL acts on the owned routes and the expiry is sent to the other lane. -/
  | hostWdog (p : Fin 4)
  /-- HOST_SILENCE_NOTICE (R340). A watchdog expiry arrives from the other lane and the policy is applied to the port's routes. -/
  | hostSilenceNotice (l : LaneId)
  /-- WATCHDOG_ENABLE (R340). A write of EN = 1 to HSTn_WDOG while EN = 0 starts the watchdog. -/
  | watchdogEnable (p : Fin 4) (v : Word)
  /-- SOURCE_ARRIVAL (R348). An interrupt source signal rises or shows its selected edge, so the source becomes pending and its counter increments. -/
  | sourceArrival (l : LaneId) (k : Fin 256)
  /-- CLAIM (R351). A read of ICU_TGTt_CLAIM claims the lowest eligible source. -/
  | claim (l : LaneId) (t : Fin 5)
  /-- COMPLETE (R353). A write to ICU_TGTt_COMPLETE ends service, or raises COMP_ORDER. -/
  | complete (l : LaneId) (t : Fin 5) (v : Word)
  /-- CLR_REC (R353). The CLR_REC key empties the target's record without a fault. -/
  | clrRec (l : LaneId) (t : Fin 5) (v : Word)
  /-- MODE_WRITE (R347). A write to ICU_MODEk changes sensing from the next PCLK without creating an edge. -/
  | modeWrite (l : LaneId) (k : Fin 16) (v : Word)
  /-- PENDING_CLEAR (R349). Writing 1 to the pending bit of an edge-sensed source clears it. -/
  | pendingClear (l : LaneId) (k : Fin 8) (v : Word)
  /-- MASK_WRITE (R352). A target enable-mask write changes eligibility from the next PCLK. -/
  | maskWrite (l : LaneId) (t : Fin 5) (k : Fin 8) (v : Word)
  /-- SW_SET (R346). A write to ICU_SW.SET raises a software source. -/
  | swSet (l : LaneId) (v : Word)
  /-- SW_CLR (R346). A write to ICU_SW.CLR lowers a software source. -/
  | swClr (l : LaneId) (v : Word)
  /-- REMOTE_LINE (R354). A change of a remote target line arrives over the Crosswalk and drives Hn_IRQ_N. -/
  | remoteLine (l : LaneId)
  /-- DMA_GO (R368). A write of GO to DMAc_START starts the chain at DMAc_DESC, or sets CFG_REJ. -/
  | dmaGo (l : LaneId) (c : Fin 16) (w : Writer) (v : Word)
  /-- DMA_STOP (R365). A write of STOP to DMAc_START stops the channel after the access in flight. -/
  | dmaStop (l : LaneId) (c : Fin 16) (v : Word)
  /-- DESCRIPTOR_FETCH (R361). A descriptor fetch completes and is checked, or the channel stops for BAD_DESC or CHAIN. -/
  | descriptorFetch (l : LaneId) (c : Fin 16)
  /-- DMA_REQUEST (R363). A waiting descriptor finds its request counter above 0, or Q_THR set, and begins to move data. -/
  | dmaRequest (l : LaneId) (c : Fin 16)
  /-- DMA_BURST (R358). A channel's round-robin turn moves a burst of up to 64 bytes, and may enter WAIT_FLOW. -/
  | dmaBurst (l : LaneId) (c : Fin 16)
  /-- DMA_FLOW_RESUME (R362). An entry or room becomes available, so the channel leaves WAIT_FLOW. -/
  | dmaFlowResume (l : LaneId) (c : Fin 16)
  /-- DESCRIPTOR_DONE (R368). A descriptor's COUNT is moved, so its result, status and sequence words are written and EOC is set. -/
  | descriptorDone (l : LaneId) (c : Fin 16)
  /-- DMA_TIMEOUT (R365). An access has no response within 256 PCLK, so the channel stops with TIMEOUT. -/
  | dmaTimeout (l : LaneId) (c : Fin 16) (addr : BitVec 32)
  /-- DMA_DESC_WRITE (R370). A write to DMAc_DESC is taken only when the channel is IDLE, and otherwise sets CFG_REJ. -/
  | dmaDescWrite (l : LaneId) (c : Fin 16) (v : Word)
  /-- BRANCH (R374). The byway engine executes BRANCH. -/
  | branch (l : LaneId) (e : Fin 8)
  /-- WAIT (R378). The byway engine executes WAIT and stalls until its condition holds. -/
  | waitInstr (l : LaneId) (e : Fin 8)
  /-- SHIFT (R376). The byway engine executes SHIFT with its queue links. -/
  | shift (l : LaneId) (e : Fin 8)
  /-- MOVE (R374). The byway engine executes MOVE, including pushes and pulls. -/
  | move (l : LaneId) (e : Fin 8)
  /-- COUNT (R374). The byway engine executes COUNT. -/
  | count (l : LaneId) (e : Fin 8)
  /-- TIME (R374). The byway engine executes TIME on the local timer. -/
  | time (l : LaneId) (e : Fin 8)
  /-- MARK_INSTRUCTION (R374). The byway engine executes MARK on a flag or on BYW_PIRQ. -/
  | markInstr (l : LaneId) (e : Fin 8)
  /-- CAPTURE (R374). The byway engine executes CAPTURE of a pin edge stamp. -/
  | capture (l : LaneId) (e : Fin 8)
  /-- ANGLE (R374). The byway engine executes ANGLE, storing an angle record. -/
  | angle (l : LaneId) (e : Fin 8)
  /-- STALL_RELEASE (R375). A stalled instruction's condition holds at an engine cycle, so it completes. -/
  | stallRelease (l : LaneId) (e : Fin 8)
  /-- BYWAY_INJECT (R382). A write to BYWe_INJ executes one instruction on the next PCLK, or sets INJ_FAIL. -/
  | bywayInject (l : LaneId) (e : Fin 8) (v : Word)
  /-- ENGINE_ENABLE (R384). EN written 1 starts the engine at its PC. -/
  | engineEnable (l : LaneId) (e : Fin 8) (v : Word)
  /-- ENGINE_DISABLE (R384). EN written 0 stops the engine, keeping all its state. -/
  | engineDisable (l : LaneId) (e : Fin 8) (v : Word)
  /-- ENGINE_CLR (R384). CLR written 1 clears the PC, the registers, the timer and the accumulator. -/
  | engineClr (l : LaneId) (e : Fin 8) (v : Word)
  /-- ENGINE_CONFIG_WRITE (R384). A rate, pin or queue configuration write is ignored while EN = 1, and a QPOOL write empties the queues. -/
  | engineConfigWrite (l : LaneId) (e : Fin 8) (reg : BywCfgReg) (v : Word)
  /-- TXQ_WRITE (R380). A host write to BYWe_TXQ pushes a word, or discards it with TX_OVR. -/
  | txqWrite (l : LaneId) (w : Writer) (e : Fin 8) (v : Word)
  /-- RXQ_READ (R380). A host read of BYWe_RXQ or the receive window pops RX entries. -/
  | rxqRead (l : LaneId) (e : Fin 8)
  /-- IMEM_WRITE (R383). A write to instruction memory lands at the end of its PCLK. -/
  | imemWrite (l : LaneId) (e : Fin 8) (i : Fin 32) (v : Word)
  /-- BYW_SYNC (R385). A write to BYW_SYNC clears the named engines' rate accumulators. -/
  | bywSync (l : LaneId) (v : Word)
  /-- FLAG_SET (R381). A host write sets byway flags. -/
  | flagSet (l : LaneId) (v : Word)
  /-- FLAG_CLEAR (R381). A host write clears byway flags. -/
  | flagClear (l : LaneId) (v : Word)
  /-- PIN_WRITE (R379). A host write to BYW_PINOUT or BYW_PINDIR sets the shared pin latches. -/
  | pinWrite (l : LaneId) (dir : Bool) (v : Word)
  /-- BYWAY_PIN_EDGE (R377). A filtered transition of a byway pin is stamped. -/
  | bywayPinEdge (l : LaneId) (p : Fin 16) (level : Bool) (held : Nat)
  /-- TWI_GO (R387). A write of GO to TWI_CCMD starts a controller command, or sets CFG_REJ. -/
  | twiGo (l : LaneId) (v : Word)
  /-- TWI_COMMAND_END (R387). A controller command ends as DONE, NACK or ARB_LOST. -/
  | twiCommandEnd (l : LaneId) (o : TwiOutcome)
  /-- TWI_RETRY (R389). After a STOP and TBUF a lost command starts again. -/
  | twiRetry (l : LaneId)
  /-- CTL_EN (R394). CTL_EN written 1 enables the controller and checks for a stuck bus. -/
  | ctlEn (l : LaneId) (v : Word)
  /-- BUS_STUCK (R394). SCL stays low for STUCK_T, or SDA stays low after nine pulses, so the command ends with STUCK. -/
  | busStuck (l : LaneId) (sda : Bool)
  /-- TWI_TIMEOUT (R395). An SCL low period exceeds TO_LOW, so the controller or target releases the bus. -/
  | twiTimeout (l : LaneId)
  /-- TARGET_WRITE (R391). A write transfer to the target sets the pointer and writes its page at the STOP. -/
  | targetWrite (l : LaneId) (addr : BitVec 7) (bytes : List Byte)
  /-- TARGET_READ (R392). A read transfer from the target returns bytes from the pointer. -/
  | targetRead (l : LaneId) (addr : BitVec 7) (n : Nat)
  /-- TWI_CONFIG_WRITE (R396). A write to a timing, address or window register while enabled is ignored and sets CFG_REJ. -/
  | twiConfigWrite (l : LaneId) (reg : TwiCfgReg) (v : Word)
  /-- CLOCK (R399). The clock monitor finds a deviation beyond ±10 %. -/
  | clock (l : LaneId) (dev : BitVec 16)
  /-- PLL_UNLOCK (R399). The root PLL loses lock. -/
  | pllUnlock (l : LaneId)
  /-- WARM_RESET (R401). After a clock fault with AUTO_RST = 1, or after an internal rail fault, the lane is reset and restarts from step 2. -/
  | warmReset (l : LaneId) (rail : Bool)
  /-- LANE_RESTART (R401). The restart key in CLK_RST restarts the lane as a warm reset. -/
  | laneRestart (l : LaneId) (v : Word)
  /-- CORE_RESET (R401). The core key in CLK_RST resets the service core alone. -/
  | coreReset (l : LaneId) (v : Word)
  /-- CORE_WDOG (R401). The service-core watchdog expires and resets the service core. -/
  | coreWdog (l : LaneId)
  /-- CORE_WDOG_KICK (R401). A write to CLK_CORE_WDOG restarts the service-core watchdog. -/
  | coreWdogKick (l : LaneId) (v : Word)
  /-- FRST_WRITE (R402). A write to an FRST bit, or a FENCE_FUNCTION reaction, holds or releases one function in per-function reset. -/
  | frstWrite (l : LaneId) (k : Fin 10) (v : Word)
  /-- IDLE_REQUEST (R405). REQ = 0b10 written to CLK_PWR enters IDLE, or sets ENTRY_REJ. -/
  | idleRequest (l : LaneId) (v : Word)
  /-- RUN_REQUEST (R405). REQ = 0b01 written to CLK_PWR returns the lane to RUN. -/
  | runRequest (l : LaneId) (v : Word)
  /-- STANDBY_REQUEST (R406). REQ = 0b11 with the key enters STANDBY through the entry steps, or sets ENTRY_REJ. -/
  | standbyRequest (l : LaneId) (v : Word)
  /-- PRIVILEGED_WAKE (R409). An enabled privileged source arrives in standby, or during entry, and wakes the lane or abandons the entry. -/
  | privilegedWake (l : LaneId) (i : Fin 6)
  /-- WAKE_COMPLETE (R409). The PLL is locked and retention is restored, so the lane is in RUN and READY. -/
  | wakeComplete (l : LaneId) (slept : Nat)
  /-- WAKE_TIMER (R355). The wake timer expires and raises WAKE_TIMER. -/
  | wakeTimer (l : LaneId)
  /-- SUPPLY_LOSS (R410). VSUP stays below 7.0 V for 50 µs, so the lane goes OFF. -/
  | supplyLoss (l : LaneId)
  /-- SUPPLY (R410). VSUP crosses a warning limit of CLK_SUPWARN. -/
  | supply (l : LaneId) (vsup : Nat)
  /-- LANE_TEMP (R410). The lane die temperature rises through TWARN. -/
  | laneTemp (l : LaneId) (temp : BitVec 16)
  /-- ID (R414). The monitor ID command replies with the serial number, lane letter and lock state.
  `line`: how the line came; lines of no row come here (R413). -/
  | monId (l : LaneId) (line : MonLine)
  /-- RD (R414). The monitor RD command reads lane-local words. -/
  | monRd (l : LaneId) (addr : BitVec 32) (n : Nat)
  /-- WR (R414). The monitor WR command writes a lane-local word. -/
  | monWr (l : LaneId) (addr : BitVec 32) (v : Word)
  /-- BAUD (R412). The monitor BAUD command sets the divisor after its reply.
  `line`: how the line came (R412). -/
  | monBaud (l : LaneId) (d : Word) (line : MonLine)
  /-- KEY (R414). The monitor KEY command stores KA, KE or KC. -/
  | monKey (l : LaneId) (k : KeyName) (bytes : List Byte)
  /-- OPT (R414). The monitor OPT command programs a fuse option. -/
  | monOpt (l : LaneId) (o : OptArg)
  /-- LOCK (R414). The monitor LOCK command takes the lane to LOCKED. -/
  | monLock (l : LaneId)
  /-- SEAL (R420). The monitor SEAL command programs the seal fuse and removes the monitor. -/
  | monSeal (l : LaneId) (fuseOk : Bool)
  /-- CHAL (R416). The monitor CHAL command draws and returns a nonce. -/
  | monChal (l : LaneId)
  /-- RESP (R417). The monitor RESP command answers the challenge, and a correct answer erases the keys and opens the lane. -/
  | monResp (l : LaneId) (r : RespArg)
  /-- RESTART (R414). The monitor RESTART command restarts the lane. -/
  | monRestart (l : LaneId)
  /-- CHALLENGE_DELAY_END (R416). The delay after a wrong response ends. -/
  | challengeDelayEnd (l : LaneId)
  /-- SCAN_ENABLE (R204). EN written 1 to ADC_SCm_CTRL starts the scan modulator converting its sequence, or awaiting a trigger with PASS = 1. -/
  | scanEnable (l : LaneId) (m : Fin 8) (v : Word)
  /-- KEEPALIVE_TOGGLE (R227). Every 0.5 µs a lane, or its always-on part in standby, toggles its keep-alive line to the Junction voters. -/
  | keepaliveToggle (l : LaneId)
  /-- REJOIN_COPY (R251). A frame of the rejoin copy (RAM, register fields, route bank and detour state, active cuts) arrives at the rejoining lane and is stored in order. -/
  | rejoinCopy (l : LaneId)
  /-- TWI_BUS_FREE (R386). The bus becomes free after a STOP and TBUF, or after both lines are high for TBUF, so a command waiting in WAIT_BUS begins its START. -/
  | twiBusFree (l : LaneId)
  /-- ENGINE_CYCLE (R375). A byway engine cycle in which the engine idles for DELAY or re-evaluates a stall that does not complete: LT decrements and the idle count falls. -/
  | engineCycle (l : LaneId) (e : Fin 8)
  /-- BAD_REQ (R341). A host frame with a valid CRC but an opcode not in the table, or another field that breaks R322, completes with BAD_REQ or is discarded, and restarts the watchdog. -/
  | badReq (p : Fin 4) (opcode : Byte) (f : Frame)
  /-- RUN_RECORD (R311). Every hour the service core appends a RUN record of running hours, cycles and guard trips to the journal buffer. -/
  | runRecord (l : LaneId)
  /-- NONCE_EXPIRY (R416). A nonce becomes invalid 60 s after its CHAL. -/
  | nonceExpiry (l : LaneId)
  /-- SENSOR_SUPPLY_SHUTDOWN (R429). A sensor supply output SUPx turns off on overtemperature, or while its pin is above 5.5 V. -/
  | sensorSupplyShutdown (x : Fin 8) (hot : Bool)
  /-- SENSOR_SUPPLY_RETRY (R429). 100 ms after a thermal shutdown the SUPx output retries. -/
  | sensorSupplyRetry (x : Fin 8)
  /-- COAST_SAFE (R230). The 20 µs COAST timer expires, so the module enters SAFE. -/
  | coastSafe
  /-- MISMATCH_JUDGEMENT_TIMEOUT (R238). 2 µs pass after a mismatch with no release, so MIS_POL decides. -/
  | mismatchJudgementTimeout
  /-- COMPARISON_ON (R240). Two route cycles of every route have begun under the conditions, so comparison becomes active. -/
  | comparisonOn
  /-- DRIVE_SUPPLY_LOSS (R428). VSUP falls below 7.0 V, so every drive die switch turns off within 2 µs. -/
  | driveSupplyLoss
deriving DecidableEq, Repr

end Sys2Proof
end

