-- ==== Sys2Proof/WellFormed.lean ====
section
/-! DEFINITION. Which commands are well formed: where a row is a write of a named bit or key, its value has that bit or
key; where a row names a window, its address lies there. The machine takes an ill-formed term as the plain write it is,
or does nothing; the statements need not speak of it. -/

namespace Sys2Proof

/-- Bytes of a key (R292). -/
def keyLength : KeyName → Nat
  | .a => 32
  | .e => 16
  | .c => 32

/-- The command is well formed. -/
def Instr.wf : Instr → Bool
  | .registerWrite _ _ addr _ => addr.toNat % 4 == 0
  | .odoEnable _ v => v.getLsbD 0
  | .odoDisable _ v => !v.getLsbD 0
  | .resync _ v => v.getLsbD 0 && v.getLsbD 5
  | .geoReset _ v => v.getLsbD 2
  | .markEnable _ _ v => v.getLsbD 31
  | .commit _ _ v => !v.getLsbD 31
  | .commitCancel _ _ v => v.getLsbD 31
  | .shadowWrite _ _ addr _ => addr.toNat % 4 == 0 && decide (0x10018000 ≤ addr.toNat) && decide (addr.toNat < 0x10020000)
  | .routeRamWrite _ _ addr _ =>
    addr.toNat % 4 == 0 && decide (0x04000000 ≤ addr.toNat) && decide (addr.toNat < 0x04010000)
  | .schedEnable _ v => v.getLsbD 0
  | .schedDisable _ v => !v.getLsbD 0
  | .channelEnable _ _ v => v.getLsbD 0
  | .channelDisable _ _ v => !v.getLsbD 0
  | .clr _ _ v => v.getLsbD 7
  | .seed _ _ v => v.getLsbD 2
  | .boostEnable _ _ v => v.getLsbD 0
  | .boostDisable _ _ v => !v.getLsbD 0
  | .gateEnable _ _ v => v.getLsbD 0
  | .gateDisable _ _ v => !v.getLsbD 0
  | .gateClear _ _ v => v.getLsbD 7
  | .go _ _ v => v.getLsbD 25
  | .inj _ _ v => v.extractLsb' 0 4 != 0
  | .cal _ v => v.getLsbD 0
  | .angleChannelEnable _ _ v => v.getLsbD 31
  | .angleChannelDisable _ _ v => !v.getLsbD 31
  | .cutClr _ _ v => v.getLsbD 30
  | .combustionConfigWrite _ addr _ => addr.toNat % 4 == 0 && addr.toNat / 0x10000 == 0x1007
  | .release _ v => v.extractLsb' 16 16 == 0xA5F0
  | .handover _ v => v.extractLsb' 16 16 == 0x5A0F
  | .safeEnterKey _ v => v.extractLsb' 16 16 == 0x9C63
  | .safeExitKey _ v => v.extractLsb' 16 16 == 0x3C96
  | .mergeFlush _ v => v.getLsbD 0
  | .scrubGo _ v => v.getLsbD 0
  | .scrubAbort _ v => v.getLsbD 1
  | .watchdogEnable _ v => v.getLsbD 31
  | .clrRec _ _ v => v.extractLsb' 16 16 == 0x3E5A
  | .swSet _ v => v.extractLsb' 0 8 != 0
  | .swClr _ v => v.extractLsb' 8 8 != 0
  | .dmaGo _ _ _ v => v.getLsbD 0
  | .dmaStop _ _ v => v.getLsbD 1
  | .engineEnable _ _ v => v.getLsbD 0
  | .engineDisable _ _ v => !v.getLsbD 0
  | .engineClr _ _ v => v.getLsbD 1
  | .twiGo _ v => v.getLsbD 31
  | .ctlEn _ v => v.getLsbD 0
  | .targetWrite _ _ bytes => !bytes.isEmpty
  | .targetRead _ _ n => decide (1 ≤ n)
  | .laneRestart _ v => v.extractLsb' 16 16 == 0xC3A5
  | .coreReset _ v => v.extractLsb' 16 16 == 0x3C5A
  | .idleRequest _ v => v.extractLsb' 0 2 == 2
  | .runRequest _ v => v.extractLsb' 0 2 == 1
  | .standbyRequest _ v => v.extractLsb' 0 2 == 3 && v.extractLsb' 16 16 == 0x57BD
  | .monRd _ _ n => decide (1 ≤ n) && decide (n ≤ 8)
  | .monKey _ k bytes => decide (bytes.length = keyLength k)
  | .monResp _ r => r.bytes.length == 16
  | .scanEnable _ _ v => v.getLsbD 31
  | .coldPowerUp _ | .memoryInitDone _ | .pllLock _ | .pllLockTimeout _ | .digestExchange _
  | .partnerReportTimeout _ | .imageRepair _ | .journalPageWrite _ _ | .snapshot _ | .patrol _ | .scrubInterval _
  | .install _ | .installDone _ _ | .crankEdge _ _ _ | .directionConfirmed _ _ | .camEdge _ _ | .virtualEdge _
  | .holdSpanEnd _ | .stall _ | .silent _ _ | .holdLimit _ | .conflictLimit _ | .camMiss _ | .camSilent _
  | .odoConfigWrite _ _ _ | .geometryWrite _ _ _ _ | .microTick _ | .linkHeld _ _ | .swapDecision _
  | .swapDecisionTimeout _ _ | .start _ _ | .startWaitEnd _ | .offDrop _ | .quadDrop _ | .endCmd _ _ | .stop _ _
  | .halt _ _ | .eventTimeEnd _ | .maxDuration _ | .phaseTimeEnd _ | .currentSample _ _ _ | .openPeak _
  | .decayStuck _ | .boostAbort _ | .hwTrip _ | .dieHot _ _ _ | .dieFenced _ _ _ | .dieCool _ _ _ | .offDiag _ _ _ _
  | .profileSelect _ _ _ _ | .pdist _ _ | .profileCopyArrival _ | .quadCtrlWrite _ _ _ | .dieSettingWrite _ _
  | .landingReport _ | .landingWindowClose _ | .estimateWrite _ _ _ | .railMeasurement _ _ | .boostCycleStart _
  | .boostFetOff _ _ | .senseFault _ | .chgTimeout _ | .setErr _ | .dwell _ _ | .spark _ _ | .lateSpark _
  | .restrikeGapEnd _ | .restrikeDwellEnd _ | .overdwell _ | .softAbortEnd _ | .gateOpenCheck _ _ | .gateShort _ _
  | .stuckOn _ _ | .chargeReport _ | .mainOutput _ _ _ _ | .fastOutput _ _ _ | .scanConversionDone _ _ _ _
  | .calibrationDone _ _ _ _ | .refillDone _ _ | .adcProtectedWrite _ _ _ | .qrdWrite _ _ _ | .summaryWritten _ _
  | .guardVerdict _ | .guardVerdictTimeout _ _ | .junctionDecision _ _ _ | .keepaliveLoss _
  | .startEligibleTimeout _ | .coastSafe | .authorityChange _ | .heldCommandExpiry _ | .speedWord _ _
  | .compareWindowExpiry _ | .mismatchJudgementTimeout | .comparisonOn | .heartbeat _ | .heartbeatMissed _ _
  | .heartbeatSend _ | .retry _ _ | .forwardedWrite _ | .forwardAck _ | .remoteAccess _ | .remoteResponse _
  | .rejoinDone _ | .faultMessage _ _ | .fltPendClear _ _ | .bist _ _ _ | .clockFaultRecord _ _ | .mergeIdleFlush _
  | .remapWrite _ _ _ _ | .eraseWrite _ _ _ | .scrubWord _ | .nop _ _ | .write _ _ | .read _ _ | .fence _ _
  | .fenceComplete _ _ | .readResp _ _ _ | .doze _ _ | .stream _ _ | .streamWaitComplete _ _ | .moderationTimeout _
  | .portWake _ | .portReady _ | .hostWdog _ | .hostSilenceNotice _ | .sourceArrival _ _ | .claim _ _
  | .complete _ _ _ | .modeWrite _ _ _ | .pendingClear _ _ _ | .maskWrite _ _ _ _ | .remoteLine _
  | .descriptorFetch _ _ | .dmaRequest _ _ | .dmaBurst _ _ | .dmaFlowResume _ _ | .descriptorDone _ _
  | .dmaTimeout _ _ _ | .dmaDescWrite _ _ _ | .branch _ _ | .waitInstr _ _ | .shift _ _ | .move _ _ | .count _ _
  | .time _ _ | .markInstr _ _ | .capture _ _ | .angle _ _ | .stallRelease _ _ | .bywayInject _ _ _
  | .engineConfigWrite _ _ _ _ | .txqWrite _ _ _ _ | .rxqRead _ _ | .imemWrite _ _ _ _ | .bywSync _ _ | .flagSet _ _
  | .flagClear _ _ | .pinWrite _ _ _ | .bywayPinEdge _ _ _ _ | .twiCommandEnd _ _ | .twiRetry _ | .busStuck _ _
  | .twiTimeout _ | .twiConfigWrite _ _ _ | .clock _ _ | .pllUnlock _ | .warmReset _ _ | .coreWdog _
  | .coreWdogKick _ _ | .frstWrite _ _ _ | .privilegedWake _ _ | .wakeComplete _ _ | .wakeTimer _ | .supplyLoss _
  | .driveSupplyLoss | .supply _ _ | .laneTemp _ _ | .monId _ _ | .monWr _ _ _ | .monBaud _ _ _ | .monOpt _ _
  | .monLock _ | .monSeal _ _ | .monChal _ | .monRestart _ | .challengeDelayEnd _ | .nonceExpiry _
  | .keepaliveToggle _ | .rejoinCopy _ | .twiBusFree _ | .engineCycle _ _ | .badReq _ _ _ | .runRecord _
  | .sensorSupplyShutdown _ _ | .sensorSupplyRetry _ => true

/-- The lane that holds a host port (R6): Lane A has H0 and H1. -/
def hostPortLane (p : Fin 4) : LaneId := if p.val < 2 then .a else .b

/-- The lane die that a command needs (R1): that of its lane or host port; none for a part that both lanes share. -/
def Instr.needsLane : Instr → Option LaneId
  | .registerWrite l _ _ _ | .coldPowerUp l | .memoryInitDone ⟨l, _⟩ | .pllLock ⟨l, _⟩ | .pllLockTimeout l | .digestExchange l
  | .partnerReportTimeout l | .imageRepair l | .journalPageWrite l _ | .snapshot l | .patrol l | .scrubInterval l
  | .install l | .installDone l _ | .crankEdge l _ _ | .directionConfirmed l _ | .camEdge l _ | .virtualEdge l
  | .holdSpanEnd l | .stall l | .silent l _ | .holdLimit l | .conflictLimit l | .camMiss l | .camSilent l
  | .odoEnable l _ | .odoDisable l _ | .resync l _ | .odoConfigWrite l _ _ | .geoReset l _ | .geometryWrite l _ _ _
  | .markEnable l _ _ | .microTick l | .linkHeld l _ | .commit l _ _ | .commitCancel l _ _ | .shadowWrite l _ _ _
  | .routeRamWrite l _ _ _ | .schedEnable l _ | .schedDisable l _ | .swapDecision l | .swapDecisionTimeout l _
  | .start l _ | .endCmd l _ | .stop l _ | .halt l _ | .profileSelect l _ _ _ | .pdist l _ | .quadCtrlWrite l _ _
  | .dieSettingWrite l _ | .channelEnable l _ _ | .channelDisable l _ _ | .clr l _ _ | .landingReport l | .seed l _ _
  | .estimateWrite l _ _ | .boostEnable l _ _ | .boostDisable l _ _ | .dwell l _ | .spark l _ | .chargeReport l
  | .gateEnable l _ _ | .gateDisable l _ _ | .gateClear l _ _ | .mainOutput l _ _ _ | .fastOutput l _ _
  | .scanConversionDone l _ _ _ | .go l _ _ | .inj l _ _ | .cal l _ | .calibrationDone l _ _ _ | .refillDone l _
  | .angleChannelEnable l _ _ | .angleChannelDisable l _ _ | .adcProtectedWrite l _ _ | .qrdWrite l _ _
  | .summaryWritten l _ | .guardVerdict l | .guardVerdictTimeout l _ | .cutClr l _ _ | .combustionConfigWrite l _ _
  | .keepaliveLoss l | .startEligibleTimeout l | .speedWord l _ | .release l _ | .handover l _ | .heartbeat l
  | .heartbeatMissed l _ | .heartbeatSend l | .retry l _ | .forwardedWrite l | .forwardAck l | .remoteAccess l
  | .remoteResponse l | .rejoinDone l | .faultMessage l _ | .fltPendClear l _ | .safeEnterKey l _ | .safeExitKey l _
  | .bist l _ _ | .clockFaultRecord l _ | .mergeIdleFlush l | .mergeFlush l _ | .remapWrite l _ _ _
  | .eraseWrite l _ _ | .scrubGo l _ | .scrubAbort l _ | .scrubWord l | .hostSilenceNotice l | .sourceArrival l _
  | .claim l _ | .complete l _ _ | .clrRec l _ _ | .modeWrite l _ _ | .pendingClear l _ _ | .maskWrite l _ _ _
  | .swSet l _ | .swClr l _ | .remoteLine l | .dmaGo l _ _ _ | .dmaStop l _ _ | .descriptorFetch l _ | .dmaRequest l _
  | .dmaBurst l _ | .dmaFlowResume l _ | .descriptorDone l _ | .dmaTimeout l _ _ | .dmaDescWrite l _ _ | .branch l _
  | .waitInstr l _ | .shift l _ | .move l _ | .count l _ | .time l _ | .markInstr l _ | .capture l _ | .angle l _
  | .stallRelease l _ | .bywayInject l _ _ | .engineEnable l _ _ | .engineDisable l _ _ | .engineClr l _ _
  | .engineConfigWrite l _ _ _ | .txqWrite l _ _ _ | .rxqRead l _ | .imemWrite l _ _ _ | .bywSync l _ | .flagSet l _
  | .flagClear l _ | .pinWrite l _ _ | .bywayPinEdge l _ _ _ | .twiGo l _ | .twiCommandEnd l _ | .twiRetry l
  | .ctlEn l _ | .busStuck l _ | .twiTimeout l | .targetWrite l _ _ | .targetRead l _ _ | .twiConfigWrite l _ _
  | .clock l _ | .pllUnlock l | .warmReset l _ | .laneRestart l _ | .coreReset l _ | .coreWdog l | .coreWdogKick l _
  | .frstWrite l _ _ | .idleRequest l _ | .runRequest l _ | .standbyRequest l _ | .privilegedWake l _
  | .wakeComplete l _ | .wakeTimer l | .supplyLoss l | .supply l _ | .laneTemp l _ | .monId l _ | .monRd l _ _
  | .monWr l _ _ | .monBaud l _ _ | .monKey l _ _ | .monOpt l _ | .monLock l | .monSeal l _ | .monChal l | .monResp l _
  | .monRestart l | .challengeDelayEnd l | .nonceExpiry l | .scanEnable l _ _ | .keepaliveToggle l | .rejoinCopy l
  | .twiBusFree l | .engineCycle l _ | .runRecord l => some l
  | .nop p _ | .write p _ | .read p _ | .fence p _ | .fenceComplete p _ | .readResp p _ _ | .doze p _ | .stream p _
  | .streamWaitComplete p _ | .moderationTimeout p | .portWake p | .portReady p | .hostWdog p | .watchdogEnable p _
  | .badReq p _ _ => some (hostPortLane p)
  | .startWaitEnd _ | .offDrop _ | .quadDrop _ | .eventTimeEnd _ | .maxDuration _ | .phaseTimeEnd _
  | .currentSample _ _ _ | .openPeak _ | .decayStuck _ | .boostAbort _ | .hwTrip _ | .dieHot _ _ _ | .dieFenced _ _ _
  | .dieCool _ _ _ | .offDiag _ _ _ _ | .profileCopyArrival _ | .landingWindowClose _ | .railMeasurement _ _
  | .boostCycleStart _ | .boostFetOff _ _ | .senseFault _ | .chgTimeout _ | .setErr _ | .lateSpark _
  | .restrikeGapEnd _ | .restrikeDwellEnd _ | .overdwell _ | .softAbortEnd _ | .gateOpenCheck _ _ | .gateShort _ _
  | .stuckOn _ _ | .junctionDecision _ _ _ | .coastSafe | .authorityChange _ | .heldCommandExpiry _
  | .compareWindowExpiry _ | .mismatchJudgementTimeout | .comparisonOn | .driveSupplyLoss | .sensorSupplyShutdown _ _
  | .sensorSupplyRetry _ => none

/-- The lane whose clocks a command needs: without them it has no effect (log entry 74). -/
def Instr.needsClocks : Instr → Option LaneId
  | .registerWrite l _ _ _ | .memoryInitDone ⟨l, _⟩ | .digestExchange l | .partnerReportTimeout l | .imageRepair l
  | .journalPageWrite l _ | .snapshot l | .patrol l | .scrubInterval l | .install l | .installDone l _ | .crankEdge l _ _
  | .directionConfirmed l _ | .camEdge l _ | .virtualEdge l | .holdSpanEnd l | .stall l | .silent l _ | .holdLimit l
  | .conflictLimit l | .camMiss l | .camSilent l | .odoEnable l _ | .odoDisable l _ | .resync l _
  | .odoConfigWrite l _ _ | .geoReset l _ | .geometryWrite l _ _ _ | .markEnable l _ _ | .microTick l | .linkHeld l _
  | .commit l _ _ | .commitCancel l _ _ | .shadowWrite l _ _ _ | .routeRamWrite l _ _ _ | .schedEnable l _
  | .schedDisable l _ | .swapDecision l | .swapDecisionTimeout l _ | .profileSelect l _ _ _ | .pdist l _
  | .quadCtrlWrite l _ _ | .channelEnable l _ _ | .channelDisable l _ _ | .clr l _ _ | .landingReport l | .seed l _ _
  | .estimateWrite l _ _ | .boostEnable l _ _ | .boostDisable l _ _ | .chargeReport l | .gateEnable l _ _
  | .gateDisable l _ _ | .gateClear l _ _ | .mainOutput l _ _ _ | .fastOutput l _ _ | .scanConversionDone l _ _ _
  | .go l _ _ | .inj l _ _ | .cal l _ | .calibrationDone l _ _ _ | .refillDone l _ | .angleChannelEnable l _ _
  | .angleChannelDisable l _ _ | .adcProtectedWrite l _ _ | .qrdWrite l _ _ | .summaryWritten l _ | .guardVerdict l
  | .guardVerdictTimeout l _ | .cutClr l _ _ | .combustionConfigWrite l _ _ | .speedWord l _ | .release l _
  | .handover l _ | .heartbeat l | .heartbeatMissed l _ | .retry l _ | .forwardedWrite l
  | .forwardAck l | .remoteAccess l | .remoteResponse l | .rejoinDone l | .faultMessage l _ | .fltPendClear l _
  | .safeEnterKey l _ | .safeExitKey l _ | .bist l _ _ | .clockFaultRecord l _ | .mergeIdleFlush l | .mergeFlush l _
  | .remapWrite l _ _ _ | .eraseWrite l _ _ | .scrubGo l _ | .scrubAbort l _ | .scrubWord l | .hostSilenceNotice l
  | .sourceArrival l _ | .claim l _ | .complete l _ _ | .clrRec l _ _ | .modeWrite l _ _ | .pendingClear l _ _
  | .maskWrite l _ _ _ | .swSet l _ | .swClr l _ | .remoteLine l | .dmaGo l _ _ _ | .dmaStop l _ _
  | .descriptorFetch l _ | .dmaRequest l _ | .dmaBurst l _ | .dmaFlowResume l _ | .descriptorDone l _
  | .dmaTimeout l _ _ | .dmaDescWrite l _ _ | .branch l _ | .waitInstr l _ | .shift l _ | .move l _ | .count l _
  | .time l _ | .markInstr l _ | .capture l _ | .angle l _ | .stallRelease l _ | .bywayInject l _ _
  | .engineEnable l _ _ | .engineDisable l _ _ | .engineClr l _ _ | .engineConfigWrite l _ _ _ | .txqWrite l _ _ _
  | .rxqRead l _ | .imemWrite l _ _ _ | .bywSync l _ | .flagSet l _ | .flagClear l _ | .pinWrite l _ _
  | .bywayPinEdge l _ _ _ | .twiGo l _ | .twiCommandEnd l _ | .twiRetry l | .ctlEn l _ | .busStuck l _ | .twiTimeout l
  | .twiConfigWrite l _ _ | .coreReset l _
  | .coreWdogKick l _ | .frstWrite l _ _ | .idleRequest l _ | .runRequest l _ | .standbyRequest l _ | .monId l _
  | .monRd l _ _ | .monWr l _ _ | .monBaud l _ _ | .monKey l _ _ | .monOpt l _ | .monLock l | .monSeal l _ | .monChal l
  | .monResp l _ | .monRestart l | .scanEnable l _ _ | .rejoinCopy l | .twiBusFree l | .engineCycle l _ | .runRecord l => some l
  | .coldPowerUp _ | .pllLock _ | .pllLockTimeout _ | .start _ _ | .startWaitEnd _ | .offDrop _ | .quadDrop _
  | .endCmd _ _ | .stop _ _ | .halt _ _ | .eventTimeEnd _ | .maxDuration _ | .phaseTimeEnd _ | .currentSample _ _ _
  | .openPeak _ | .decayStuck _ | .boostAbort _ | .hwTrip _ | .dieHot _ _ _ | .dieFenced _ _ _ | .dieCool _ _ _
  | .offDiag _ _ _ _ | .profileCopyArrival _ | .dieSettingWrite _ _ | .landingWindowClose _ | .railMeasurement _ _
  | .boostCycleStart _ | .boostFetOff _ _ | .senseFault _ | .chgTimeout _ | .setErr _ | .dwell _ _ | .spark _ _
  | .lateSpark _ | .restrikeGapEnd _ | .restrikeDwellEnd _ | .overdwell _ | .softAbortEnd _ | .gateOpenCheck _ _
  | .gateShort _ _ | .stuckOn _ _ | .junctionDecision _ _ _ | .keepaliveLoss _ | .startEligibleTimeout _ | .coastSafe
  | .authorityChange _ | .heldCommandExpiry _ | .compareWindowExpiry _ | .mismatchJudgementTimeout | .comparisonOn
  | .nop _ _ | .write _ _ | .read _ _ | .fence _ _ | .fenceComplete _ _ | .readResp _ _ _ | .doze _ _ | .stream _ _
  | .streamWaitComplete _ _ | .moderationTimeout _ | .portWake _ | .portReady _ | .hostWdog _ | .watchdogEnable _ _
  | .warmReset _ _ | .laneRestart _ _ | .coreWdog _ | .privilegedWake _ _ | .wakeComplete _ _ | .wakeTimer _
  | .supplyLoss _ | .driveSupplyLoss | .supply _ _ | .laneTemp _ _ | .challengeDelayEnd _ | .nonceExpiry _
  | .keepaliveToggle _ | .heartbeatSend _ | .targetWrite _ _ _ | .targetRead _ _ _ | .clock _ _ | .pllUnlock _
  | .badReq _ _ _ | .sensorSupplyShutdown _ _ | .sensorSupplyRetry _ => none

end Sys2Proof
end

