-- ==== Sys2Proof/Decode.lean ====
section
/-! DEFINITION. The command that a word spells by the bits of spec/opcode_table.json. No row of the table gives bits (every
row's `fields` is empty), so no word spells a command. -/

namespace Sys2Proof

/-- The command that an nbits-bit word spells by the table's bits: none, for no row of the table gives any. -/
def decodeTableWord (_nbits _w : Nat) : Option Instr := none

end Sys2Proof
end

