-- ==== Sys2Proof/Machine/FaultKinds.lean ====
section
/-! DEFINITION. The fault kinds of R271 with their codes, sources, classes and default reactions (12_faults.md). -/

namespace Sys2Proof.Machine

/-- Classes of a fault (R255). -/
inductive FaultClass where
  | corrected | contained | fatal
deriving DecidableEq, Repr

/-- The fault kinds (R271). -/
inductive Kind where
  /-- 0x01, source 0x01: SWITCH: crank sensor switched. -/
  | odoSwitch
  /-- 0x02, source 0x01: HOLD: HOLD entered. -/
  | odoHold
  /-- 0x03, source 0x01: CAM_MISS: first miss of a run. -/
  | odoCamMiss
  /-- 0x04, source 0x01: CAM_CONFLICT: in FULL_SYNC. -/
  | odoCamConflict
  /-- 0x05, source 0x01: SILENT: crank sensor silent. -/
  | odoSilent
  /-- 0x06, source 0x01: LOST: LOST entered, other than by an unexpected reversal. -/
  | odoLost
  /-- 0x07, source 0x01: REV_UNEXP: unexpected reversal. -/
  | odoRevUnexp
  /-- 0x08, source 0x02: BAD_WP: invalid entry. -/
  | wptBadWp
  /-- 0x09, source 0x02: POISON: poisoned waypoint. -/
  | wptPoison
  /-- 0x0A, source 0x02: LINK_HELD: link queue full. -/
  | wptLinkHeld
  /-- 0x0B, source 0x02: DEC_MISS: swap decided alone. -/
  | wptDecMiss
  /-- 0x10, source 0x03: SHORT. -/
  | chnShort
  /-- 0x11, source 0x03: HW_TRIP. -/
  | chnHwTrip
  /-- 0x12, source 0x03: DECAY_STUCK. -/
  | chnDecayStuck
  /-- 0x13, source 0x03: OPEN_LIM: OPEN reached OPEN_LIM. -/
  | chnOpenLim
  /-- 0x14, source 0x03: DUTY: first refusal of a run. -/
  | chnDuty
  /-- 0x15, source 0x03: DIE_FENCED. -/
  | chnDieFenced
  /-- 0x16, source 0x03: OPEN: single result. -/
  | chnOpen
  /-- 0x17, source 0x03: OFF_DROP. -/
  | chnOffDrop
  /-- 0x18, source 0x03: QUAD_DROP. -/
  | chnQuadDrop
  /-- 0x19, source 0x03: BOOST_ABORT. -/
  | chnBoostAbort
  /-- 0x1A, source 0x03: OFF_DIAG. -/
  | chnOffDiag
  /-- 0x1B, source 0x03: PDIST_ERR. -/
  | chnPdistErr
  /-- 0x1C, source 0x03: DIE_HOT: each entry to hot. -/
  | chnDieHot
  /-- 0x1D, source 0x04: STUCK: armature stuck. -/
  | lndStuck
  /-- 0x1E, source 0x04: EST_SYNC. -/
  | lndEstSync
  /-- 0x20, source 0x05: CHG_TIMEOUT. -/
  | bstChgTimeout
  /-- 0x21, source 0x05: SENSE_FAULT. -/
  | bstSenseFault
  /-- 0x22, source 0x05: OV. -/
  | bstOv
  /-- 0x23, source 0x05: UV. -/
  | bstUv
  /-- 0x24, source 0x05: SET_ERR. -/
  | bstSetErr
  /-- 0x25, source 0x06: SHORT. -/
  | ignShort
  /-- 0x26, source 0x06: STUCK_ON. -/
  | ignStuckOn
  /-- 0x27, source 0x06: OPEN. -/
  | ignOpen
  /-- 0x28, source 0x06: OVERDWELL. -/
  | ignOverdwell
  /-- 0x29, source 0x06: EST_SYNC. -/
  | ignEstSync
  /-- 0x2A, source 0x06: SET_ERR. -/
  | ignSetErr
  /-- 0x2B, source 0x07: REF_FAIL. -/
  | adcRefFail
  /-- 0x2C, source 0x07: CAL_FAIL. -/
  | adcCalFail
  /-- 0x2D, source 0x07: ZERO_FAIL. -/
  | adcZeroFail
  /-- 0x2E, source 0x07: MISS: first of a frame. -/
  | adcMiss
  /-- 0x2F, source 0x07: Q_FULL. -/
  | adcQFull
  /-- 0x30, source 0x08: GUARD_DIFF. -/
  | cmbGuardDiff
  /-- 0x31, source 0x08: DEC_MISS. -/
  | cmbDecMiss
  /-- 0x32, source 0x09: SPLIT3: three-way voter split. -/
  | jctSplit3
  /-- 0x33, source 0x09: COAST_SAFE: COAST ended in safe state, or Lane A released on the S variant. -/
  | jctCoastSafe
  /-- 0x34, source 0x09: MISMATCH_SAFE: mismatch with MIS_POL = 0b1. -/
  | jctMismatchSafe
  /-- 0x35, source 0x09: DISPUTE. -/
  | jctDispute
  /-- 0x36, source 0x09: MISMATCH_KEPT: MIS_POL = 0b0. -/
  | jctMismatchKept
  /-- 0x37, source 0x0A: DIGEST: digests differ. -/
  | xwkDigest
  /-- 0x38, source 0x0A: XWK_DOWN. -/
  | xwkXwkDown
  /-- 0x39, source 0x09: SPLIT2: 2–1 voter split. -/
  | jctSplit2
  /-- 0x3A, source 0x09: MISMATCH_REL: resolved by a release. -/
  | jctMismatchRel
  /-- 0x3B, source 0x09: HANDOVER_REL: handover after a release. -/
  | jctHandoverRel
  /-- 0x40, source 0x15: ODO_LOCK: duplicated Odometer differs. -/
  | selfOdoLock
  /-- 0x41, source 0x15: SCHED_CMP: duplicated comparators differ. -/
  | selfSchedCmp
  /-- 0x42, source 0x15: LINK_RB: link read-back differs. -/
  | selfLinkRb
  /-- 0x43, source 0x15: CLOCK: clock monitor deviation. -/
  | selfClock
  /-- 0x44, source 0x0C: TRIPLE: one copy of a triplicated word differs. -/
  | memTriple
  /-- 0x45, source 0x0B: SAFEWORD: a safe-state word copy differs. -/
  | fltSafeword
  /-- 0x46, source 0x15: BIST: self-test item failed. -/
  | selfBist
  /-- 0x48, source 0x0C: MEM_CORR: symbol corrected. -/
  | memMemCorr
  /-- 0x49, source 0x0C: MEM_UNCORR: uncorrectable word. -/
  | memMemUncorr
  /-- 0x4A, source 0x0C: REMAP_FULL: no spare word left. -/
  | memRemapFull
  /-- 0x4B, source 0x0C: CORE_POISON: service core trapped on poison. -/
  | memCorePoison
  /-- 0x4C, source 0x0C: TRIPLE_FAIL: no two copies agree. -/
  | memTripleFail
  /-- 0x4D, source 0x16: DECODE: internal master unmapped access, R18. -/
  | busDecode
  /-- 0x50, source 0x0D: HOST_CRC: frame CRC error. -/
  | hstHostCrc
  /-- 0x51, source 0x0D: HOST_WDOG: host watchdog expired. -/
  | hstHostWdog
  /-- 0x53, source 0x0E: COMP_ORDER: completion order. -/
  | icuCompOrder
  /-- 0x54, source 0x0F: DMA_TIMEOUT: bus timeout. -/
  | dmaDmaTimeout
  /-- 0x55, source 0x0F: DMA_CHAIN: chain limit. -/
  | dmaDmaChain
  /-- 0x56, source 0x0F: DMA_POISON: poison propagated. -/
  | dmaDmaPoison
  /-- 0x58, source 0x10: NAND_ECC: corrected bits above threshold. -/
  | cfgNandEcc
  /-- 0x59, source 0x10: NAND_UNCORR: page uncorrectable. -/
  | cfgNandUncorr
  /-- 0x5A, source 0x10: IMAGE_COPY: image copy invalid. -/
  | cfgImageCopy
  /-- 0x5B, source 0x10: NO_IMAGE: no valid image. -/
  | cfgNoImage
  /-- 0x5C, source 0x10: JOURNAL: journal record lost. -/
  | cfgJournal
  /-- 0x5D, source 0x11: BYW_QUEUE: queue overflow. -/
  | bywBywQueue
  /-- 0x5E, source 0x12: BUS_STUCK. -/
  | twiBusStuck
  /-- 0x5F, source 0x12: TWI_TIMEOUT: clock-stretch or bus timeout. -/
  | twiTwiTimeout
  /-- 0x60, source 0x13: PLL_UNLOCK. -/
  | clkPllUnlock
  /-- 0x61, source 0x13: SUPPLY: supply outside warning limits. -/
  | clkSupply
  /-- 0x62, source 0x13: LANE_TEMP: lane die temperature warning. -/
  | clkLaneTemp
  /-- 0x63, source 0x14: CHALLENGE: monitor challenge failed. -/
  | monChallenge
  /-- 0x64, source 0x14: KEY_ERASED: key store zeroised on opening. -/
  | monKeyErased
  /-- 0x6F, source 0x0B: MSG_BAD: message with invalid class or kind. -/
  | fltMsgBad
deriving DecidableEq, Repr

/-- One row of the kind table (R271). -/
structure KindRow where
  kind : Kind
  code : Nat
  src : Nat
  cls : FaultClass
  react : Nat
  fixed : Bool
deriving DecidableEq, Repr

/-- Rows of the kind table (R271). -/
def kindRows1 : List KindRow :=
  [ ⟨.odoSwitch, 0x01, 0x01, .corrected, 1, false⟩,
    ⟨.odoHold, 0x02, 0x01, .corrected, 1, false⟩,
    ⟨.odoCamMiss, 0x03, 0x01, .corrected, 1, false⟩,
    ⟨.odoCamConflict, 0x04, 0x01, .corrected, 1, false⟩,
    ⟨.odoSilent, 0x05, 0x01, .corrected, 1, false⟩,
    ⟨.odoLost, 0x06, 0x01, .contained, 1, false⟩,
    ⟨.odoRevUnexp, 0x07, 0x01, .contained, 1, false⟩,
    ⟨.wptBadWp, 0x08, 0x02, .contained, 1, false⟩,
    ⟨.wptPoison, 0x09, 0x02, .contained, 1, false⟩,
    ⟨.wptLinkHeld, 0x0A, 0x02, .corrected, 0, false⟩,
    ⟨.wptDecMiss, 0x0B, 0x02, .corrected, 1, false⟩,
    ⟨.chnShort, 0x10, 0x03, .contained, 1, false⟩,
    ⟨.chnHwTrip, 0x11, 0x03, .contained, 1, false⟩,
    ⟨.chnDecayStuck, 0x12, 0x03, .contained, 1, false⟩,
    ⟨.chnOpenLim, 0x13, 0x03, .contained, 1, false⟩,
    ⟨.chnDuty, 0x14, 0x03, .contained, 1, false⟩,
    ⟨.chnDieFenced, 0x15, 0x03, .contained, 1, false⟩,
    ⟨.chnOpen, 0x16, 0x03, .corrected, 0, false⟩,
    ⟨.chnOffDrop, 0x17, 0x03, .corrected, 0, false⟩,
    ⟨.chnQuadDrop, 0x18, 0x03, .corrected, 0, false⟩,
    ⟨.chnBoostAbort, 0x19, 0x03, .corrected, 0, false⟩,
    ⟨.chnOffDiag, 0x1A, 0x03, .corrected, 1, false⟩,
    ⟨.chnPdistErr, 0x1B, 0x03, .corrected, 1, false⟩,
    ⟨.chnDieHot, 0x1C, 0x03, .corrected, 1, false⟩,
    ⟨.lndStuck, 0x1D, 0x04, .contained, 1, false⟩,
    ⟨.lndEstSync, 0x1E, 0x04, .corrected, 0, false⟩,
    ⟨.bstChgTimeout, 0x20, 0x05, .contained, 1, false⟩,
    ⟨.bstSenseFault, 0x21, 0x05, .contained, 1, false⟩,
    ⟨.bstOv, 0x22, 0x05, .contained, 1, false⟩,
    ⟨.bstUv, 0x23, 0x05, .corrected, 1, false⟩,
    ⟨.bstSetErr, 0x24, 0x05, .corrected, 1, false⟩,
    ⟨.ignShort, 0x25, 0x06, .contained, 1, false⟩,
    ⟨.ignStuckOn, 0x26, 0x06, .contained, 1, false⟩,
    ⟨.ignOpen, 0x27, 0x06, .corrected, 0, false⟩,
    ⟨.ignOverdwell, 0x28, 0x06, .corrected, 1, false⟩,
    ⟨.ignEstSync, 0x29, 0x06, .corrected, 0, false⟩,
    ⟨.ignSetErr, 0x2A, 0x06, .corrected, 1, false⟩,
    ⟨.adcRefFail, 0x2B, 0x07, .contained, 1, false⟩,
    ⟨.adcCalFail, 0x2C, 0x07, .contained, 1, false⟩,
    ⟨.adcZeroFail, 0x2D, 0x07, .corrected, 1, false⟩,
    ⟨.adcMiss, 0x2E, 0x07, .corrected, 0, false⟩,
    ⟨.adcQFull, 0x2F, 0x07, .corrected, 0, false⟩,
    ⟨.cmbGuardDiff, 0x30, 0x08, .corrected, 1, false⟩,
    ⟨.cmbDecMiss, 0x31, 0x08, .corrected, 1, false⟩,
    ⟨.jctSplit3, 0x32, 0x09, .fatal, 4, true⟩ ]

/-- Rows of the kind table (R271). -/
def kindRows2 : List KindRow :=
  [ ⟨.jctCoastSafe, 0x33, 0x09, .fatal, 4, true⟩,
    ⟨.jctMismatchSafe, 0x34, 0x09, .fatal, 4, true⟩,
    ⟨.jctDispute, 0x35, 0x09, .contained, 1, false⟩,
    ⟨.jctMismatchKept, 0x36, 0x09, .contained, 1, false⟩,
    ⟨.xwkDigest, 0x37, 0x0A, .contained, 1, false⟩,
    ⟨.xwkXwkDown, 0x38, 0x0A, .contained, 1, false⟩,
    ⟨.jctSplit2, 0x39, 0x09, .corrected, 1, false⟩,
    ⟨.jctMismatchRel, 0x3A, 0x09, .corrected, 1, false⟩,
    ⟨.jctHandoverRel, 0x3B, 0x09, .corrected, 1, false⟩,
    ⟨.selfOdoLock, 0x40, 0x15, .contained, 3, true⟩,
    ⟨.selfSchedCmp, 0x41, 0x15, .contained, 3, true⟩,
    ⟨.selfLinkRb, 0x42, 0x15, .contained, 3, true⟩,
    ⟨.selfClock, 0x43, 0x15, .contained, 3, true⟩,
    ⟨.memTriple, 0x44, 0x0C, .corrected, 1, false⟩,
    ⟨.fltSafeword, 0x45, 0x0B, .corrected, 1, false⟩,
    ⟨.selfBist, 0x46, 0x15, .contained, 3, false⟩,
    ⟨.memMemCorr, 0x48, 0x0C, .corrected, 0, false⟩,
    ⟨.memMemUncorr, 0x49, 0x0C, .contained, 1, false⟩,
    ⟨.memRemapFull, 0x4A, 0x0C, .contained, 1, false⟩,
    ⟨.memCorePoison, 0x4B, 0x0C, .contained, 1, false⟩,
    ⟨.memTripleFail, 0x4C, 0x0C, .contained, 3, true⟩,
    ⟨.busDecode, 0x4D, 0x16, .contained, 1, false⟩,
    ⟨.hstHostCrc, 0x50, 0x0D, .corrected, 0, false⟩,
    ⟨.hstHostWdog, 0x51, 0x0D, .corrected, 1, false⟩,
    ⟨.icuCompOrder, 0x53, 0x0E, .corrected, 1, false⟩,
    ⟨.dmaDmaTimeout, 0x54, 0x0F, .contained, 1, false⟩,
    ⟨.dmaDmaChain, 0x55, 0x0F, .corrected, 1, false⟩,
    ⟨.dmaDmaPoison, 0x56, 0x0F, .contained, 1, false⟩,
    ⟨.cfgNandEcc, 0x58, 0x10, .corrected, 0, false⟩,
    ⟨.cfgNandUncorr, 0x59, 0x10, .contained, 1, false⟩,
    ⟨.cfgImageCopy, 0x5A, 0x10, .corrected, 1, false⟩,
    ⟨.cfgNoImage, 0x5B, 0x10, .contained, 1, false⟩,
    ⟨.cfgJournal, 0x5C, 0x10, .corrected, 1, false⟩,
    ⟨.bywBywQueue, 0x5D, 0x11, .corrected, 0, false⟩,
    ⟨.twiBusStuck, 0x5E, 0x12, .contained, 1, false⟩,
    ⟨.twiTwiTimeout, 0x5F, 0x12, .corrected, 0, false⟩,
    ⟨.clkPllUnlock, 0x60, 0x13, .contained, 3, true⟩,
    ⟨.clkSupply, 0x61, 0x13, .corrected, 1, false⟩,
    ⟨.clkLaneTemp, 0x62, 0x13, .corrected, 1, false⟩,
    ⟨.monChallenge, 0x63, 0x14, .corrected, 1, false⟩,
    ⟨.monKeyErased, 0x64, 0x14, .contained, 1, false⟩,
    ⟨.fltMsgBad, 0x6F, 0x0B, .contained, 1, false⟩ ]

/-- The kind table (R271). -/
def kindRows : List KindRow := kindRows1 ++ kindRows2

/-- The row of a kind code, if the table lists it. -/
def kindRowOf (code : Nat) : Option KindRow := kindRows.find? fun r => r.code == code

/-- code of a kind (R271). -/
def Kind.code : Kind → Nat
  | .odoSwitch => 0x01
  | .odoHold => 0x02
  | .odoCamMiss => 0x03
  | .odoCamConflict => 0x04
  | .odoSilent => 0x05
  | .odoLost => 0x06
  | .odoRevUnexp => 0x07
  | .wptBadWp => 0x08
  | .wptPoison => 0x09
  | .wptLinkHeld => 0x0A
  | .wptDecMiss => 0x0B
  | .chnShort => 0x10
  | .chnHwTrip => 0x11
  | .chnDecayStuck => 0x12
  | .chnOpenLim => 0x13
  | .chnDuty => 0x14
  | .chnDieFenced => 0x15
  | .chnOpen => 0x16
  | .chnOffDrop => 0x17
  | .chnQuadDrop => 0x18
  | .chnBoostAbort => 0x19
  | .chnOffDiag => 0x1A
  | .chnPdistErr => 0x1B
  | .chnDieHot => 0x1C
  | .lndStuck => 0x1D
  | .lndEstSync => 0x1E
  | .bstChgTimeout => 0x20
  | .bstSenseFault => 0x21
  | .bstOv => 0x22
  | .bstUv => 0x23
  | .bstSetErr => 0x24
  | .ignShort => 0x25
  | .ignStuckOn => 0x26
  | .ignOpen => 0x27
  | .ignOverdwell => 0x28
  | .ignEstSync => 0x29
  | .ignSetErr => 0x2A
  | .adcRefFail => 0x2B
  | .adcCalFail => 0x2C
  | .adcZeroFail => 0x2D
  | .adcMiss => 0x2E
  | .adcQFull => 0x2F
  | .cmbGuardDiff => 0x30
  | .cmbDecMiss => 0x31
  | .jctSplit3 => 0x32
  | .jctCoastSafe => 0x33
  | .jctMismatchSafe => 0x34
  | .jctDispute => 0x35
  | .jctMismatchKept => 0x36
  | .xwkDigest => 0x37
  | .xwkXwkDown => 0x38
  | .jctSplit2 => 0x39
  | .jctMismatchRel => 0x3A
  | .jctHandoverRel => 0x3B
  | .selfOdoLock => 0x40
  | .selfSchedCmp => 0x41
  | .selfLinkRb => 0x42
  | .selfClock => 0x43
  | .memTriple => 0x44
  | .fltSafeword => 0x45
  | .selfBist => 0x46
  | .memMemCorr => 0x48
  | .memMemUncorr => 0x49
  | .memRemapFull => 0x4A
  | .memCorePoison => 0x4B
  | .memTripleFail => 0x4C
  | .busDecode => 0x4D
  | .hstHostCrc => 0x50
  | .hstHostWdog => 0x51
  | .icuCompOrder => 0x53
  | .dmaDmaTimeout => 0x54
  | .dmaDmaChain => 0x55
  | .dmaDmaPoison => 0x56
  | .cfgNandEcc => 0x58
  | .cfgNandUncorr => 0x59
  | .cfgImageCopy => 0x5A
  | .cfgNoImage => 0x5B
  | .cfgJournal => 0x5C
  | .bywBywQueue => 0x5D
  | .twiBusStuck => 0x5E
  | .twiTwiTimeout => 0x5F
  | .clkPllUnlock => 0x60
  | .clkSupply => 0x61
  | .clkLaneTemp => 0x62
  | .monChallenge => 0x63
  | .monKeyErased => 0x64
  | .fltMsgBad => 0x6F

/-- src of a kind (R271). -/
def Kind.src : Kind → Nat
  | .odoSwitch => 0x01
  | .odoHold => 0x01
  | .odoCamMiss => 0x01
  | .odoCamConflict => 0x01
  | .odoSilent => 0x01
  | .odoLost => 0x01
  | .odoRevUnexp => 0x01
  | .wptBadWp => 0x02
  | .wptPoison => 0x02
  | .wptLinkHeld => 0x02
  | .wptDecMiss => 0x02
  | .chnShort => 0x03
  | .chnHwTrip => 0x03
  | .chnDecayStuck => 0x03
  | .chnOpenLim => 0x03
  | .chnDuty => 0x03
  | .chnDieFenced => 0x03
  | .chnOpen => 0x03
  | .chnOffDrop => 0x03
  | .chnQuadDrop => 0x03
  | .chnBoostAbort => 0x03
  | .chnOffDiag => 0x03
  | .chnPdistErr => 0x03
  | .chnDieHot => 0x03
  | .lndStuck => 0x04
  | .lndEstSync => 0x04
  | .bstChgTimeout => 0x05
  | .bstSenseFault => 0x05
  | .bstOv => 0x05
  | .bstUv => 0x05
  | .bstSetErr => 0x05
  | .ignShort => 0x06
  | .ignStuckOn => 0x06
  | .ignOpen => 0x06
  | .ignOverdwell => 0x06
  | .ignEstSync => 0x06
  | .ignSetErr => 0x06
  | .adcRefFail => 0x07
  | .adcCalFail => 0x07
  | .adcZeroFail => 0x07
  | .adcMiss => 0x07
  | .adcQFull => 0x07
  | .cmbGuardDiff => 0x08
  | .cmbDecMiss => 0x08
  | .jctSplit3 => 0x09
  | .jctCoastSafe => 0x09
  | .jctMismatchSafe => 0x09
  | .jctDispute => 0x09
  | .jctMismatchKept => 0x09
  | .xwkDigest => 0x0A
  | .xwkXwkDown => 0x0A
  | .jctSplit2 => 0x09
  | .jctMismatchRel => 0x09
  | .jctHandoverRel => 0x09
  | .selfOdoLock => 0x15
  | .selfSchedCmp => 0x15
  | .selfLinkRb => 0x15
  | .selfClock => 0x15
  | .memTriple => 0x0C
  | .fltSafeword => 0x0B
  | .selfBist => 0x15
  | .memMemCorr => 0x0C
  | .memMemUncorr => 0x0C
  | .memRemapFull => 0x0C
  | .memCorePoison => 0x0C
  | .memTripleFail => 0x0C
  | .busDecode => 0x16
  | .hstHostCrc => 0x0D
  | .hstHostWdog => 0x0D
  | .icuCompOrder => 0x0E
  | .dmaDmaTimeout => 0x0F
  | .dmaDmaChain => 0x0F
  | .dmaDmaPoison => 0x0F
  | .cfgNandEcc => 0x10
  | .cfgNandUncorr => 0x10
  | .cfgImageCopy => 0x10
  | .cfgNoImage => 0x10
  | .cfgJournal => 0x10
  | .bywBywQueue => 0x11
  | .twiBusStuck => 0x12
  | .twiTwiTimeout => 0x12
  | .clkPllUnlock => 0x13
  | .clkSupply => 0x13
  | .clkLaneTemp => 0x13
  | .monChallenge => 0x14
  | .monKeyErased => 0x14
  | .fltMsgBad => 0x0B

/-- cls of a kind (R271). -/
def Kind.cls : Kind → FaultClass
  | .odoSwitch => .corrected
  | .odoHold => .corrected
  | .odoCamMiss => .corrected
  | .odoCamConflict => .corrected
  | .odoSilent => .corrected
  | .odoLost => .contained
  | .odoRevUnexp => .contained
  | .wptBadWp => .contained
  | .wptPoison => .contained
  | .wptLinkHeld => .corrected
  | .wptDecMiss => .corrected
  | .chnShort => .contained
  | .chnHwTrip => .contained
  | .chnDecayStuck => .contained
  | .chnOpenLim => .contained
  | .chnDuty => .contained
  | .chnDieFenced => .contained
  | .chnOpen => .corrected
  | .chnOffDrop => .corrected
  | .chnQuadDrop => .corrected
  | .chnBoostAbort => .corrected
  | .chnOffDiag => .corrected
  | .chnPdistErr => .corrected
  | .chnDieHot => .corrected
  | .lndStuck => .contained
  | .lndEstSync => .corrected
  | .bstChgTimeout => .contained
  | .bstSenseFault => .contained
  | .bstOv => .contained
  | .bstUv => .corrected
  | .bstSetErr => .corrected
  | .ignShort => .contained
  | .ignStuckOn => .contained
  | .ignOpen => .corrected
  | .ignOverdwell => .corrected
  | .ignEstSync => .corrected
  | .ignSetErr => .corrected
  | .adcRefFail => .contained
  | .adcCalFail => .contained
  | .adcZeroFail => .corrected
  | .adcMiss => .corrected
  | .adcQFull => .corrected
  | .cmbGuardDiff => .corrected
  | .cmbDecMiss => .corrected
  | .jctSplit3 => .fatal
  | .jctCoastSafe => .fatal
  | .jctMismatchSafe => .fatal
  | .jctDispute => .contained
  | .jctMismatchKept => .contained
  | .xwkDigest => .contained
  | .xwkXwkDown => .contained
  | .jctSplit2 => .corrected
  | .jctMismatchRel => .corrected
  | .jctHandoverRel => .corrected
  | .selfOdoLock => .contained
  | .selfSchedCmp => .contained
  | .selfLinkRb => .contained
  | .selfClock => .contained
  | .memTriple => .corrected
  | .fltSafeword => .corrected
  | .selfBist => .contained
  | .memMemCorr => .corrected
  | .memMemUncorr => .contained
  | .memRemapFull => .contained
  | .memCorePoison => .contained
  | .memTripleFail => .contained
  | .busDecode => .contained
  | .hstHostCrc => .corrected
  | .hstHostWdog => .corrected
  | .icuCompOrder => .corrected
  | .dmaDmaTimeout => .contained
  | .dmaDmaChain => .corrected
  | .dmaDmaPoison => .contained
  | .cfgNandEcc => .corrected
  | .cfgNandUncorr => .contained
  | .cfgImageCopy => .corrected
  | .cfgNoImage => .contained
  | .cfgJournal => .corrected
  | .bywBywQueue => .corrected
  | .twiBusStuck => .contained
  | .twiTwiTimeout => .corrected
  | .clkPllUnlock => .contained
  | .clkSupply => .corrected
  | .clkLaneTemp => .corrected
  | .monChallenge => .corrected
  | .monKeyErased => .contained
  | .fltMsgBad => .contained

end Sys2Proof.Machine
end

