-- ==== Sys2Proof/Machine/RegMap.lean ====
section
/-! DEFINITION. The register map of a lane (R15): the address of every register, and for each register what its
access codes (R7) let a write do and what it holds at reset, as the register tables of the chapters state. -/

namespace Sys2Proof.Machine

/-- One register, or a family of `n1` × `n2` of them: where it lies, which of its bits are RW, W1C, W1S and LOCK, and
its reset value. Bits in no mask are RO, WO, KEY or reserved: a generic write leaves them as they are (R7, R8). -/
structure RegDesc where
  base : Nat
  s1 : Nat := 0
  n1 : Nat := 1
  s2 : Nat := 0
  n2 : Nat := 1
  rw : BitVec 32 := 0
  w1c : BitVec 32 := 0
  w1s : BitVec 32 := 0
  lock : BitVec 32 := 0
  reset : BitVec 32 := 0
deriving DecidableEq, Repr

namespace Reg

/-- ODO_CTRL (R57). -/
def odoCtrl : Nat := 0x10000000
/-- ODO_WHEEL (R57). -/
def odoWheel : Nat := 0x10000004
/-- ODO_CAMWIN (R57). -/
def odoCamwin : Nat := 0x10000008
/-- ODO_GAPRATIO (R57). -/
def odoGapratio : Nat := 0x1000000c
/-- ODO_TIMEOUT (R57). -/
def odoTimeout : Nat := 0x10000010
/-- ODO_SENSOR (R57). -/
def odoSensor : Nat := 0x10000014
/-- ODO_DIR (R57). -/
def odoDir : Nat := 0x10000018
/-- ODO_SRC (R57). -/
def odoSrc : Nat := 0x1000001c
/-- ODO_STATE (R57). -/
def odoState : Nat := 0x10000020
/-- ODO_EVENT (R57). -/
def odoEvent : Nat := 0x10000024
/-- ODO_HEALTH (R57). -/
def odoHealth : Nat := 0x10000028
/-- ODO_SEC_OFS (R57). -/
def odoSecOfs : Nat := 0x1000002c
/-- ODO_VRPEAK (R57). -/
def odoVrpeak : Nat := 0x10000030
/-- ODO_SYNCCNT (R57). -/
def odoSynccnt : Nat := 0x10000034
/-- ODO_DIRPW (R57). -/
def odoDirpw : Nat := 0x10000038
/-- ODO_INTERP (R80). -/
def odoInterp : Nat := 0x10000040
/-- ODO_SPDWIN (R80). -/
def odoSpdwin : Nat := 0x10000044
/-- ODO_PERIOD (R80). -/
def odoPeriod : Nat := 0x10000048
/-- ODO_PRED (R80). -/
def odoPred : Nat := 0x1000004c
/-- ODO_SPEED (R80). -/
def odoSpeed : Nat := 0x10000050
/-- ODO_SLOPE (R80). -/
def odoSlope : Nat := 0x10000054
/-- ODO_ANGLE (R80). -/
def odoAngle : Nat := 0x10000058
/-- ODO_CYCLE (R80). -/
def odoCycle : Nat := 0x1000005c
/-- ODO_ATIME (R80). -/
def odoAtime : Nat := 0x10000060
/-- ODO_LAG (R80). -/
def odoLag : Nat := 0x10000064
/-- ODO_EVENT2 (R80). -/
def odoEvent2 : Nat := 0x10000068
/-- ODO_GEOCTRL (R81). -/
def odoGeoctrl : Nat := 0x1000006c
/-- ODO_GEOSTAT (R81). -/
def odoGeostat : Nat := 0x10000070
/-- ODOn_MARK_START (R81). -/
def markStart (n : Nat) : Nat := 0x10000080 + 16 * n
/-- ODOn_MARK_STEP (R81). -/
def markStep (n : Nat) : Nat := 0x10000084 + 16 * n
/-- ODOn_MARK_CTRL (R81). -/
def markCtrl (n : Nat) : Nat := 0x10000088 + 16 * n
/-- ODOn_MARK_STAT (R81). -/
def markStat (n : Nat) : Nat := 0x1000008c + 16 * n
/-- ODO_GEOA_i (R81). -/
def odoGeoa (i : Nat) : Nat := 0x10002000 + 4 * i
/-- ODO_GEOB_i (R81). -/
def odoGeob (i : Nat) : Nat := 0x10003000 + 4 * i
/-- WPT_CTRL (R113). -/
def wptCtrl : Nat := 0x10010000
/-- WPT_COMMIT (R113). -/
def wptCommit : Nat := 0x10010004
/-- WPT_PEND_AHn (R113). -/
def wptPendAh (n : Nat) : Nat := 0x10010010 + 4 * n
/-- WPT_DETOUR (R113). -/
def wptDetour : Nat := 0x100100b0
/-- WPT_HOSTSIL (R113). -/
def wptHostsil : Nat := 0x100100b4
/-- WPT_EVENT (R113). -/
def wptEvent : Nat := 0x100100b8
/-- WPT_LASTLATE (R114). -/
def wptLastlate : Nat := 0x100100bc
/-- WPT_LASTDROP (R114). -/
def wptLastdrop : Nat := 0x100100c0
/-- WPT_CNT (R114). -/
def wptCnt : Nat := 0x100100c4
/-- WPT_LINKQ (R114). -/
def wptLinkq : Nat := 0x100100c8
/-- WPT_OWNERn (R114). -/
def wptOwner (n : Nat) : Nat := 0x10010100 + 4 * n
/-- WPT_PEND_ASn (R113). -/
def wptPendAs (n : Nat) : Nat := 0x10010030 + 4 * n
/-- WPT_BANK_AHn (R113). -/
def wptBankAh (n : Nat) : Nat := 0x10010050 + 4 * n
/-- WPT_BANK_ASn (R113). -/
def wptBankAs (n : Nat) : Nat := 0x10010070 + 4 * n
/-- WPT_DETn (R113). -/
def wptDet (n : Nat) : Nat := 0x10010090 + 4 * n
/-- CHNn_CTRL (R146). -/
def chnCtrl (n : Nat) : Nat := 0x10020000 + 64 * n
/-- CHNn_PROFILE_SEL0 (R146). -/
def chnProfileSel0 (n : Nat) : Nat := 0x10020004 + 64 * n
/-- CHNn_OFFTIME (R146). -/
def chnOfftime (n : Nat) : Nat := 0x1002000c + 64 * n
/-- CHNn_DUTY (R146). -/
def chnDuty (n : Nat) : Nat := 0x10020010 + 64 * n
/-- CHNn_PKWIN (R146). -/
def chnPkwin (n : Nat) : Nat := 0x10020014 + 64 * n
/-- CHNn_STATUS (R146). -/
def chnStatus (n : Nat) : Nat := 0x1002001c + 64 * n
/-- CHNn_EVENT (R146). -/
def chnEvent (n : Nat) : Nat := 0x10020020 + 64 * n
/-- CHNn_PEAKT (R146). -/
def chnPeakt (n : Nat) : Nat := 0x10020024 + 64 * n
/-- CHNn_DUTYNOW (R146). -/
def chnDutynow (n : Nat) : Nat := 0x10020028 + 64 * n
/-- CHNn_LAST (R146). -/
def chnLast (n : Nat) : Nat := 0x1002002c + 64 * n
/-- CHNn_CNT (R146). -/
def chnCnt (n : Nat) : Nat := 0x10020030 + 64 * n
/-- CHN_QUADq_CTRL (R146). -/
def quadCtrl (q : Nat) : Nat := 0x10023000 + 16 * q
/-- CHN_QUADq_CONF (R146). -/
def quadConf (q : Nat) : Nat := 0x10023004 + 16 * q
/-- CHN_DIEd_STAT (R146). -/
def dieStat (d : Nat) : Nat := 0x10023400 + 32 * d
/-- CHN_DIEd_LIMIT (R146). -/
def dieLimit (d : Nat) : Nat := 0x10023404 + 32 * d
/-- CHN_PDIST (R146). -/
def chnPdist : Nat := 0x10023800
/-- CHN_PDSTAT (R146). -/
def chnPdstat : Nat := 0x10023804
/-- CHNn_PROFILE_SEL1 (R146). -/
def chnProfileSel1 (n : Nat) : Nat := 0x10020008 + 64 * n
/-- CHNn_PKWIN_ALT (R146). -/
def chnPkwinAlt (n : Nat) : Nat := 0x10020018 + 64 * n
/-- LNDn_CTRL (R157). -/
def lndCtrl (n : Nat) : Nat := 0x10050000 + 16 * n
/-- LNDn_INIT (R157). -/
def lndInit (n : Nat) : Nat := 0x10050004 + 16 * n
/-- LNDn_CLAMP (R157). -/
def lndClamp (n : Nat) : Nat := 0x10050008 + 16 * n
/-- LNDn_EST (R157). -/
def lndEst (n : Nat) : Nat := 0x1005000c + 16 * n
/-- LNDn_LAST (R157). -/
def lndLast (n : Nat) : Nat := 0x10051000 + 16 * n
/-- LNDn_CNT (R157). -/
def lndCnt (n : Nat) : Nat := 0x10051004 + 16 * n
/-- LNDn_DIP (R157). -/
def lndDip (n : Nat) : Nat := 0x10051008 + 16 * n
/-- LNDn_EVENT (R157). -/
def lndEvent (n : Nat) : Nat := 0x1005100c + 16 * n
/-- BSTk_CTRL (R168). -/
def bstCtrl (k : Nat) : Nat := 0x10040000 + 32 * k
/-- BSTk_SET (R168). -/
def bstSet (k : Nat) : Nat := 0x10040004 + 32 * k
/-- BSTk_THRESH (R168). -/
def bstThresh (k : Nat) : Nat := 0x10040008 + 32 * k
/-- BSTk_STATUS (R168). -/
def bstStatus (k : Nat) : Nat := 0x1004000c + 32 * k
/-- BSTk_EVENT (R168). -/
def bstEvent (k : Nat) : Nat := 0x10040010 + 32 * k
/-- BSTk_MIN (R168). -/
def bstMin (k : Nat) : Nat := 0x10040014 + 32 * k
/-- IGNg_CTRL (R185). -/
def ignCtrl (g : Nat) : Nat := 0x10030000 + 32 * g
/-- IGNg_STATUS (R185). -/
def ignStatus (g : Nat) : Nat := 0x10030004 + 32 * g
/-- IGNg_EVENT (R185). -/
def ignEvent (g : Nat) : Nat := 0x10030008 + 32 * g
/-- IGNg_LAST (R185). -/
def ignLast (g : Nat) : Nat := 0x1003000c + 32 * g
/-- IGNg_CNT (R185). -/
def ignCnt (g : Nat) : Nat := 0x10030010 + 32 * g
/-- IGNg_DWEST (R185). -/
def ignDwest (g : Nat) : Nat := 0x10030014 + 32 * g
/-- IGNg_LATE (R185). -/
def ignLate (g : Nat) : Nat := 0x10030018 + 32 * g
/-- IGN_SETs_DWELL (R185). -/
def setDwell (s : Nat) : Nat := 0x10030800 + 16 * s
/-- IGN_SETs_LIMIT (R185). -/
def setLimit (s : Nat) : Nat := 0x10030804 + 16 * s
/-- IGN_SETs_DIAG (R185). -/
def setDiag (s : Nat) : Nat := 0x10030808 + 16 * s
/-- IGN_SETs_RS (R185). -/
def setRs (s : Nat) : Nat := 0x1003080c + 16 * s
/-- ADC_CTRL (R215). -/
def adcCtrl : Nat := 0x10060000
/-- ADC_STAT (R215). -/
def adcStat : Nat := 0x10060004
/-- ADC_EVENT (R215). -/
def adcEvent : Nat := 0x10060008
/-- ADC_TOL (R215). -/
def adcTol : Nat := 0x1006000c
/-- ADC_CALFAIL (R215). -/
def adcCalfail : Nat := 0x10060010
/-- ADCa_CTRL (R215). -/
def acCtrl (a : Nat) : Nat := 0x10060400 + 64 * a
/-- ADCa_WIN (R215). -/
def acWin (a : Nat) : Nat := 0x10060404 + 64 * a
/-- ADCa_ARM (R215). -/
def acArm (a : Nat) : Nat := 0x10060408 + 64 * a
/-- ADCa_COMP (R215). -/
def acComp (a : Nat) : Nat := 0x1006040c + 64 * a
/-- ADCa_FBASE (R215). -/
def acFbase (a : Nat) : Nat := 0x10060410 + 64 * a
/-- ADCa_FSTRIDE (R215). -/
def acFstride (a : Nat) : Nat := 0x10060414 + 64 * a
/-- ADCa_STAT (R215). -/
def acStat (a : Nat) : Nat := 0x1006041c + 64 * a
/-- ADCa_EVENT (R215). -/
def acEvent (a : Nat) : Nat := 0x10060424 + 64 * a
/-- ADCa_FAST (R215). -/
def acFast (a : Nat) : Nat := 0x10060430 + 64 * a
/-- ADCa_CALOFS (R215). -/
def acCalofs (a : Nat) : Nat := 0x10060438 + 64 * a
/-- ADC_SCm_CTRL (R215). -/
def scCtrl (m : Nat) : Nat := 0x10061000 + 256 * m
/-- ADC_SCm_STAT (R215). -/
def scStat (m : Nat) : Nat := 0x10061004 + 256 * m
/-- ADC_SCm_EVENT (R215). -/
def scEvent (m : Nat) : Nat := 0x10061008 + 256 * m
/-- ADC_SCm_QBASE (R215). -/
def scQbase (m : Nat) : Nat := 0x1006100c + 256 * m
/-- ADC_SCm_QCTRL (R215). -/
def scQctrl (m : Nat) : Nat := 0x10061010 + 256 * m
/-- ADC_SCm_INJ (R215). -/
def scInj (m : Nat) : Nat := 0x1006101c + 256 * m
/-- ADC_SCm_INJk (R215). -/
def scInjCfg (m k : Nat) : Nat := 0x10061020 + 256 * m + 4 * k
/-- ADC_SCm_SEQe (R215). -/
def scSeq (m e : Nat) : Nat := 0x10061080 + 256 * m + 4 * e
/-- ADCa_RBASE (R215). -/
def acRbase (a : Nat) : Nat := 0x10060418 + 64 * a
/-- ADCa_SEQ (R215). -/
def acSeq (a : Nat) : Nat := 0x10060420 + 64 * a
/-- ADCa_LAST (R215). -/
def acLast (a : Nat) : Nat := 0x10060428 + 64 * a
/-- ADCa_OUT (R215). -/
def acOut (a : Nat) : Nat := 0x1006042c + 64 * a
/-- ADCa_CTIME (R215). -/
def acCtime (a : Nat) : Nat := 0x10060434 + 64 * a
/-- ADCa_CALGAIN (R215). -/
def acCalgain (a : Nat) : Nat := 0x1006043c + 64 * a
/-- ADC_SCm_QWR (R215). -/
def scQwr (m : Nat) : Nat := 0x10061014 + 256 * m
/-- ADC_SCm_QRD (R215). -/
def scQrd (m : Nat) : Nat := 0x10061018 + 256 * m
/-- ADC_SCm_CALOFS (R215). -/
def scCalofs (m : Nat) : Nat := 0x10061030 + 256 * m
/-- ADC_SCm_CALGAIN (R215). -/
def scCalgain (m : Nat) : Nat := 0x10061034 + 256 * m
/-- ADC_SCm_LAST (R215). -/
def scLast (m : Nat) : Nat := 0x10061038 + 256 * m
/-- CMB_CTRL (R226). -/
def cmbCtrl : Nat := 0x10070000
/-- CMB_SBASE (R226). -/
def cmbSbase : Nat := 0x10070004
/-- CMB_SWR (R226). -/
def cmbSwr : Nat := 0x10070008
/-- CMB_EVENT (R226). -/
def cmbEvent : Nat := 0x1007000c
/-- CMBc_CTRL (R226). -/
def cylCtrl (c : Nat) : Nat := 0x10070100 + 32 * c
/-- CMBc_PEG (R226). -/
def cylPeg (c : Nat) : Nat := 0x10070104 + 32 * c
/-- CMBc_WIN (R226). -/
def cylWin (c : Nat) : Nat := 0x10070108 + 32 * c
/-- CMBc_LIMIT (R226). -/
def cylLimit (c : Nat) : Nat := 0x1007010c + 32 * c
/-- CMBc_CUT (R226). -/
def cylCut (c : Nat) : Nat := 0x10070110 + 32 * c
/-- CMBc_PEGREF (R226). -/
def cylPegref (c : Nat) : Nat := 0x10070114 + 32 * c
/-- CMBc_STAT (R226). -/
def cylStat (c : Nat) : Nat := 0x10070118 + 32 * c
/-- CMB_VDj (R226). -/
def cmbVd (j : Nat) : Nat := 0x10072000 + 4 * j
/-- JCT_STATE (R254). -/
def jctState : Nat := 0x10080000
/-- JCT_VOTE (R254). -/
def jctVote : Nat := 0x10080004
/-- JCT_FENCE (R254). -/
def jctFence : Nat := 0x10080008
/-- JCT_HANDOVER (R254). -/
def jctHandover : Nat := 0x1008000c
/-- JCT_CMP (R254). -/
def jctCmp : Nat := 0x10080010
/-- JCT_MISMATCH (R254). -/
def jctMismatch : Nat := 0x10080014
/-- JCT_CNT (R254). -/
def jctCnt : Nat := 0x10080018
/-- JCT_EVENT (R254). -/
def jctEvent : Nat := 0x1008001c
/-- XWK_STATE (R254). -/
def xwkState : Nat := 0x10080100
/-- XWK_HB (R254). -/
def xwkHb : Nat := 0x10080104
/-- XWK_LAT (R254). -/
def xwkLat : Nat := 0x10080108
/-- XWK_CNT (R254). -/
def xwkCnt : Nat := 0x1008010c
/-- XWK_EVENT (R254). -/
def xwkEvent : Nat := 0x10080110
/-- XWK_OWN_DIGj (R254). -/
def xwkOwnDig (j : Nat) : Nat := 0x10080120 + 4 * j
/-- XWK_OWN_SEQ (R254). -/
def xwkOwnSeq : Nat := 0x10080114
/-- XWK_OTHER_SEQ (R254). -/
def xwkOtherSeq : Nat := 0x10080118
/-- XWK_OTHER_DIGj (R254). -/
def xwkOtherDig (j : Nat) : Nat := 0x10080140 + 4 * j
/-- FLT_PEND (R272). -/
def fltPend : Nat := 0x10090000
/-- FLT_CNT (R272). -/
def fltCnt : Nat := 0x10090008
/-- FLT_LOST (R272). -/
def fltLost : Nat := 0x1009000c
/-- FLT_SAFE (R272). -/
def fltSafe : Nat := 0x10090014
/-- FLT_BIST (R272). -/
def fltBist : Nat := 0x10090018
/-- FLT_REACTn (R272). -/
def fltReact (n : Nat) : Nat := 0x10090040 + 4 * n
/-- FLT_CAPc_INFO (R272). -/
def capInfo (c : Nat) : Nat := 0x10090108 + 32 * c
/-- FLT_CAPc_ANGLE (R272). -/
def capAngle (c : Nat) : Nat := 0x10090114 + 32 * c
/-- FLT_IRQ (R272). -/
def fltIrq : Nat := 0x10090004
/-- FLT_LAST (R272). -/
def fltLast : Nat := 0x10090010
/-- FLT_CAPc_W0 (R272). -/
def capW0 (c : Nat) : Nat := 0x10090100 + 32 * c
/-- FLT_CAPc_W1 (R272). -/
def capW1 (c : Nat) : Nat := 0x10090104 + 32 * c
/-- FLT_CAPc_TIMEL (R272). -/
def capTimel (c : Nat) : Nat := 0x1009010c + 32 * c
/-- FLT_CAPc_TIMEH (R272). -/
def capTimeh (c : Nat) : Nat := 0x10090110 + 32 * c
/-- FLT_CAPc_CYCLE (R272). -/
def capCycle (c : Nat) : Nat := 0x10090118 + 32 * c
/-- MEM_CTRL (R291). -/
def memCtrl : Nat := 0x100a0000
/-- MEM_STAT (R291). -/
def memStat : Nat := 0x100a0004
/-- MEM_ERASE (R291). -/
def memErase : Nat := 0x100a0008
/-- MEM_EVENT (R291). -/
def memEvent : Nat := 0x100a000c
/-- MEM_CNT (R291). -/
def memCnt : Nat := 0x100a0010
/-- MEM_MERGE (R291). -/
def memMerge : Nat := 0x100a0014
/-- MEM_SCRUB_CTRL (R291). -/
def memScrubCtrl : Nat := 0x100a0028
/-- MEM_TRIPLE (R291). -/
def memTriple : Nat := 0x100a0040
/-- MEM_MACROk_CNT (R291). -/
def memMacroCnt (k : Nat) : Nat := 0x100a0100 + 4 * k
/-- MEM_REMAPi (R291). -/
def memRemap (i : Nat) : Nat := 0x100a0200 + 4 * i
/-- MEM_SCRUB_START (R291). -/
def memScrubStart : Nat := 0x100a0020
/-- MEM_SCRUB_END (R291). -/
def memScrubEnd : Nat := 0x100a0024
/-- MEM_SCRUB_READ (R291). -/
def memScrubRead : Nat := 0x100a002c
/-- MEM_SCRUB_CORR (R291). -/
def memScrubCorr : Nat := 0x100a0030
/-- MEM_SCRUB_UNC (R291). -/
def memScrubUnc : Nat := 0x100a0034
/-- MEM_SCRUB_FIRST (R291). -/
def memScrubFirst : Nat := 0x100a0038
/-- MEM_SCRUB_TIME (R291). -/
def memScrubTime : Nat := 0x100a003c
/-- MEM_LASTCORR (R291). -/
def memLastcorr : Nat := 0x100a0048
/-- MEM_SCRUB_HISTk (R291). -/
def memScrubHist (k : Nat) : Nat := 0x100a0180 + 4 * k
/-- HSTn_STAT (R345). -/
def hstStat (n : Nat) : Nat := 0x100b0000 + 256 * n
/-- HSTn_MOD (R345). -/
def hstMod (n : Nat) : Nat := 0x100b0004 + 256 * n
/-- HSTn_WDOG (R345). -/
def hstWdog (n : Nat) : Nat := 0x100b0008 + 256 * n
/-- HSTn_EVENT (R345). -/
def hstEvent (n : Nat) : Nat := 0x100b000c + 256 * n
/-- HSTn_CNT (R345). -/
def hstCnt (n : Nat) : Nat := 0x100b0010 + 256 * n
/-- HSTn_TAGS0 (R345). -/
def hstTags0 (n : Nat) : Nat := 0x100b0014 + 256 * n
/-- HSTn_SOLO (R345). -/
def hstSolo (n : Nat) : Nat := 0x100b001c + 256 * n
/-- HSTn_STRMq (R345). -/
def hstStrm (n q : Nat) : Nat := 0x100b0020 + 256 * n + 4 * q
/-- HSTn_TAGS1 (R345). -/
def hstTags1 (n : Nat) : Nat := 0x100b0018 + 256 * n
/-- ICU_EVENT (R357). -/
def icuEvent : Nat := 0x100c0000
/-- ICU_WAKE (R357). -/
def icuWake : Nat := 0x100c0004
/-- ICU_SW (R357). -/
def icuSw : Nat := 0x100c0008
/-- ICU_MODEk (R357). -/
def icuMode (k : Nat) : Nat := 0x100c0100 + 4 * k
/-- ICU_PENDk (R357). -/
def icuPend (k : Nat) : Nat := 0x100c0200 + 4 * k
/-- ICU_CNTk (R357). -/
def icuCnt (k : Nat) : Nat := 0x100c0300 + 4 * k
/-- ICU_TGTt_ENk (R357). -/
def tgtEn (t k : Nat) : Nat := 0x100c1000 + 256 * t + 4 * k
/-- ICU_TGTt_CLAIM (R357). -/
def tgtClaim (t : Nat) : Nat := 0x100c1020 + 256 * t
/-- ICU_TGTt_COMPLETE (R357). -/
def tgtComplete (t : Nat) : Nat := 0x100c1024 + 256 * t
/-- ICU_TGTt_STAT (R357). -/
def tgtStat (t : Nat) : Nat := 0x100c1028 + 256 * t
/-- ICU_TGTt_CTRL (R357). -/
def tgtCtrl (t : Nat) : Nat := 0x100c102c + 256 * t
/-- DMAc_CTRL (R370). -/
def dmaCtrl (c : Nat) : Nat := 0x100d0000 + 64 * c
/-- DMAc_START (R370). -/
def dmaStart (c : Nat) : Nat := 0x100d0004 + 64 * c
/-- DMAc_DESC (R370). -/
def dmaDesc (c : Nat) : Nat := 0x100d0008 + 64 * c
/-- DMAc_STAT (R370). -/
def dmaStat (c : Nat) : Nat := 0x100d000c + 64 * c
/-- DMAc_EVENT (R370). -/
def dmaEvent (c : Nat) : Nat := 0x100d0018 + 64 * c
/-- DMAc_DONECNT (R370). -/
def dmaDonecnt (c : Nat) : Nat := 0x100d001c + 64 * c
/-- DMA_REQCNTk (R370). -/
def dmaReqcnt (k : Nat) : Nat := 0x100d0400 + 4 * k
/-- DMA_REQOVR (R370). -/
def dmaReqovr : Nat := 0x100d0410
/-- DMAc_HOPS (R370). -/
def dmaHops (c : Nat) : Nat := 0x100d0010 + 64 * c
/-- DMAc_ERRADDR (R370). -/
def dmaErraddr (c : Nat) : Nat := 0x100d0014 + 64 * c
/-- CFG_BOOT (R318). -/
def cfgBoot : Nat := 0x100e0000
/-- CFG_NAND (R318). -/
def cfgNand : Nat := 0x100e0008
/-- CFG_NAND_BLK (R318). -/
def cfgNandBlk : Nat := 0x100e000c
/-- CFG_STORE (R318). -/
def cfgStore : Nat := 0x100e0010
/-- CFG_RDLIM (R318). -/
def cfgRdlim : Nat := 0x100e0014
/-- CFG_EVENT (R318). -/
def cfgEvent : Nat := 0x100e0018
/-- CFG_LASTERR (R318). -/
def cfgLasterr : Nat := 0x100e001c
/-- CFG_STAGE (R318). -/
def cfgStage : Nat := 0x100e0024
/-- CFG_STAGE_LEN (R318). -/
def cfgStageLen : Nat := 0x100e0028
/-- CFG_INSTALL (R318). -/
def cfgInstall : Nat := 0x100e002c
/-- CFG_IMAGE_SEQ (R318). -/
def cfgImageSeq : Nat := 0x100e0004
/-- CFG_JRNL (R318). -/
def cfgJrnl : Nat := 0x100e0020
/-- BYWe_CTRL (R385). -/
def bywCtrl (e : Nat) : Nat := 0x100f0000 + 64 * e
/-- BYWe_RATEN (R385). -/
def bywRaten (e : Nat) : Nat := 0x100f0004 + 64 * e
/-- BYWe_PINCFG (R385). -/
def bywPincfg (e : Nat) : Nat := 0x100f0008 + 64 * e
/-- BYWe_QCFG (R385). -/
def bywQcfg (e : Nat) : Nat := 0x100f000c + 64 * e
/-- BYWe_STAT (R385). -/
def bywStat (e : Nat) : Nat := 0x100f0010 + 64 * e
/-- BYWe_RATED (R385). -/
def bywRated (e : Nat) : Nat := 0x100f003c + 64 * e
/-- BYWe_EVENT (R385). -/
def bywEvent (e : Nat) : Nat := 0x100f0038 + 64 * e
/-- BYW_FLAGS (R385). -/
def bywFlags : Nat := 0x100f040c
/-- BYWe_INSTR (R385). -/
def bywInstr (e : Nat) : Nat := 0x100f0014 + 64 * e
/-- BYWe_INJ (R385). -/
def bywInj (e : Nat) : Nat := 0x100f0018 + 64 * e
/-- BYWe_TXQ (R385). -/
def bywTxq (e : Nat) : Nat := 0x100f001c + 64 * e
/-- BYWe_RXQ (R385). -/
def bywRxq (e : Nat) : Nat := 0x100f0020 + 64 * e
/-- BYWe_G0 (R385). -/
def bywG0 (e : Nat) : Nat := 0x100f0024 + 64 * e
/-- BYWe_G1 (R385). -/
def bywG1 (e : Nat) : Nat := 0x100f0028 + 64 * e
/-- BYWe_G2 (R385). -/
def bywG2 (e : Nat) : Nat := 0x100f002c + 64 * e
/-- BYWe_G3 (R385). -/
def bywG3 (e : Nat) : Nat := 0x100f0030 + 64 * e
/-- BYWe_LT (R385). -/
def bywLt (e : Nat) : Nat := 0x100f0034 + 64 * e
/-- BYWe_RXWIN (R385). -/
def bywRxwin (e j : Nat) : Nat := 0x100f0800 + 32 * e + 4 * j
/-- BYWe_IMEMi (R385). -/
def bywImem (e i : Nat) : Nat := 0x100f1000 + 128 * e + 4 * i
/-- BYW_PINOUT (R385). -/
def bywPinout : Nat := 0x100f0400
/-- BYW_PINDIR (R385). -/
def bywPindir : Nat := 0x100f0404
/-- BYW_PININ (R385). -/
def bywPinin : Nat := 0x100f0408
/-- BYW_PIRQ (R385). -/
def bywPirq : Nat := 0x100f0410
/-- BYW_SYNC (R385). -/
def bywSync : Nat := 0x100f0414
/-- BYW_PINFLT0 (R385). -/
def bywPinflt0 : Nat := 0x100f0418
/-- BYW_PINFLT1 (R385). -/
def bywPinflt1 : Nat := 0x100f041c
/-- TWI_CTRL (R397). -/
def twiCtrl : Nat := 0x10100000
/-- TWI_TIM0 (R397). -/
def twiTim0 : Nat := 0x10100004
/-- TWI_TIM1 (R397). -/
def twiTim1 : Nat := 0x10100008
/-- TWI_TOUT (R397). -/
def twiTout : Nat := 0x1010000c
/-- TWI_CCMD (R397). -/
def twiCcmd : Nat := 0x10100010
/-- TWI_CSTAT (R397). -/
def twiCstat : Nat := 0x10100014
/-- TWI_TADDR (R397). -/
def twiTaddr : Nat := 0x10100018
/-- TWI_TWIN (R397). -/
def twiTwin : Nat := 0x1010001c
/-- TWI_TSTAT (R397). -/
def twiTstat : Nat := 0x10100020
/-- TWI_EVENT (R397). -/
def twiEvent : Nat := 0x10100024
/-- TWI_CBUFi (R397). -/
def twiCbuf (i : Nat) : Nat := 0x10100100 + 4 * i
/-- CLK_STAT (R411). -/
def clkStat : Nat := 0x10110000
/-- CLK_PWR (R411). -/
def clkPwr : Nat := 0x10110004
/-- CLK_RST (R411). -/
def clkRst : Nat := 0x10110008
/-- CLK_EVENT (R411). -/
def clkEvent : Nat := 0x1011000c
/-- CLK_MON (R411). -/
def clkMon : Nat := 0x10110010
/-- CLK_SUPWARN (R411). -/
def clkSupwarn : Nat := 0x10110018
/-- CLK_TEMP (R411). -/
def clkTemp : Nat := 0x1011001c
/-- CLK_CORE_WDOG (R411). -/
def clkCoreWdog : Nat := 0x10110024
/-- FRST_CHk (R411). -/
def frstCh (k : Nat) : Nat := 0x10110100 + 4 * k
/-- FRST_ADC (R411). -/
def frstAdc : Nat := 0x10110120
/-- FRST_AUX (R411). -/
def frstAux : Nat := 0x10110124
/-- CLK_WAKETMR (R411). -/
def clkWaketmr : Nat := 0x10110014
/-- CLK_STBYT (R411). -/
def clkStbyt : Nat := 0x10110020
/-- FRST_IGk (R411). -/
def frstIg (k : Nat) : Nat := 0x10110118 + 4 * k
/-- MON_LOCK (R422). -/
def monLock : Nat := 0x10120000
/-- MON_OPT (R422). -/
def monOpt : Nat := 0x10120004
/-- MON_ID1 (R422). -/
def monId1 : Nat := 0x1012000c
/-- MON_UART (R422). -/
def monUart : Nat := 0x10120010
/-- MON_EVENT (R422). -/
def monEvent : Nat := 0x10120014
/-- MON_ID0 (R422). -/
def monId0 : Nat := 0x10120008

end Reg

/-- Registers of the ODO_ block. -/
def regsOdo : List RegDesc :=
  [ { base := 0x10000000, rw := 0x11 },
    { base := 0x10000004, rw := 0x3fd307ff },
    { base := 0x10000008, rw := 0xf7ff07ff, reset := 0x30000000 },
    { base := 0x1000000c, rw := 0xc0ffffff, reset := 0x400c3018 },
    { base := 0x10000010, rw := 0xff3f3fff, reset := 0x50082710 },
    { base := 0x10000014, rw := 0xc0d8ffff, reset := 0x100a05 },
    { base := 0x10000018, rw := 0xfe00ffff, reset := 0x4000000 },
    { base := 0x1000001c, rw := 0xf, reset := 0x1 },
    { base := 0x10000020 },
    { base := 0x10000024, w1c := 0xffff },
    { base := 0x10000028 },
    { base := 0x1000002c },
    { base := 0x10000030 },
    { base := 0x10000034, rw := 0xffffffff },
    { base := 0x10000038 },
    { base := 0x10000040, rw := 0xffff030f, reset := 0x400020a },
    { base := 0x10000044, rw := 0xffffffff, reset := 0xbb800050 },
    { base := 0x10000048 },
    { base := 0x1000004c },
    { base := 0x10000050 },
    { base := 0x10000054 },
    { base := 0x10000058 },
    { base := 0x1000005c },
    { base := 0x10000060 },
    { base := 0x10000064, rw := 0xffff0000 },
    { base := 0x10000068, w1c := 0x1ff },
    { base := 0x1000006c, rw := 0xff0073, reset := 0x100020 },
    { base := 0x10000070 },
    { base := 0x10000080, s1 := 16, n1 := 8, rw := 0xffffff },
    { base := 0x10000084, s1 := 16, n1 := 8, rw := 0xffffffff, reset := 0x1 },
    { base := 0x10000088, s1 := 16, n1 := 8, rw := 0x8000ffff },
    { base := 0x1000008c, s1 := 16, n1 := 8 },
    { base := 0x10002000, s1 := 4, n1 := 1024, rw := 0xffff, reset := 0x8000 },
    { base := 0x10003000, s1 := 4, n1 := 1024, rw := 0xffff, reset := 0x8000 } ]

/-- Registers of the WPT_ block. -/
def regsWpt : List RegDesc :=
  [ { base := 0x10010000, rw := 0xf00c01, reset := 0x200400 },
    { base := 0x10010004 },
    { base := 0x10010010, s1 := 4, n1 := 8 },
    { base := 0x100100b0, rw := 0x1f8001 },
    { base := 0x100100b4, rw := 0xff },
    { base := 0x100100b8, w1c := 0x7ff },
    { base := 0x100100bc },
    { base := 0x100100c0 },
    { base := 0x100100c4, rw := 0xffffffff },
    { base := 0x100100c8, rw := 0x1f },
    { base := 0x10010100, s1 := 4, n1 := 15, lock := 0xffffffff },
    { base := 0x10010030, s1 := 4, n1 := 8 },
    { base := 0x10010050, s1 := 4, n1 := 8 },
    { base := 0x10010070, s1 := 4, n1 := 8 },
    { base := 0x10010090, s1 := 4, n1 := 8 } ]

/-- Registers of the CHN_ block. -/
def regsChn : List RegDesc :=
  [ { base := 0x10020000, s1 := 64, n1 := 192, rw := 0x7d, reset := 0xc },
    { base := 0x10020004, s1 := 64, n1 := 192, rw := 0xffffffff },
    { base := 0x1002000c, s1 := 64, n1 := 192, rw := 0xffffffff },
    { base := 0x10020010, s1 := 64, n1 := 192, rw := 0x3fff },
    { base := 0x10020014, s1 := 64, n1 := 192, rw := 0xffffffff },
    { base := 0x1002001c, s1 := 64, n1 := 192 },
    { base := 0x10020020, s1 := 64, n1 := 192, w1c := 0xffff },
    { base := 0x10020024, s1 := 64, n1 := 192 },
    { base := 0x10020028, s1 := 64, n1 := 192 },
    { base := 0x1002002c, s1 := 64, n1 := 192 },
    { base := 0x10020030, s1 := 64, n1 := 192, rw := 0xffffffff },
    { base := 0x10023000, s1 := 16, n1 := 48, rw := 0x3ff0007 },
    { base := 0x10023004, s1 := 16, n1 := 48 },
    { base := 0x10023400, s1 := 32, n1 := 12 },
    { base := 0x10023404, s1 := 32, n1 := 12, rw := 0xff00ffff, reset := 0x96000384 },
    { base := 0x10023800 },
    { base := 0x10023804, w1c := 0x70000000 },
    { base := 0x10020008, s1 := 64, n1 := 192, rw := 0xffffffff },
    { base := 0x10020018, s1 := 64, n1 := 192, rw := 0xffffffff } ]

/-- Registers of the LND_ block. -/
def regsLnd : List RegDesc :=
  [ { base := 0x10050000, s1 := 16, n1 := 192, rw := 0xf703, reset := 0x8300 },
    { base := 0x10050004, s1 := 16, n1 := 192, rw := 0xffffff },
    { base := 0x10050008, s1 := 16, n1 := 192, rw := 0xffffffff, reset := 0xffff0000 },
    { base := 0x1005000c, s1 := 16, n1 := 192, rw := 0xffffffff },
    { base := 0x10051000, s1 := 16, n1 := 192 },
    { base := 0x10051004, s1 := 16, n1 := 192, rw := 0xffff },
    { base := 0x10051008, s1 := 16, n1 := 192 },
    { base := 0x1005100c, s1 := 16, n1 := 192, w1c := 0x3f } ]

/-- Registers of the BST_ block. -/
def regsBst : List RegDesc :=
  [ { base := 0x10040000, s1 := 32, n1 := 4, rw := 0xffff01, reset := 0x1e0100 },
    { base := 0x10040004, s1 := 32, n1 := 4, rw := 0xff0f01ff, reset := 0x1040050 },
    { base := 0x10040008, s1 := 32, n1 := 4, rw := 0x7ffffff, reset := 0x640a050 },
    { base := 0x1004000c, s1 := 32, n1 := 4 },
    { base := 0x10040010, s1 := 32, n1 := 4, w1c := 0x7f },
    { base := 0x10040014, s1 := 32, n1 := 4, rw := 0xffff0fff, reset := 0xfff } ]

/-- Registers of the IGN_ block. -/
def regsIgn : List RegDesc :=
  [ { base := 0x10030000, s1 := 32, n1 := 48, rw := 0x3ffff41, reset := 0xa0000 },
    { base := 0x10030004, s1 := 32, n1 := 48 },
    { base := 0x10030008, s1 := 32, n1 := 48, w1c := 0x7ff },
    { base := 0x1003000c, s1 := 32, n1 := 48 },
    { base := 0x10030010, s1 := 32, n1 := 48, rw := 0xffffffff },
    { base := 0x10030014, s1 := 32, n1 := 48, rw := 0xffffff },
    { base := 0x10030018, s1 := 32, n1 := 48 },
    { base := 0x10030800, s1 := 16, n1 := 8, rw := 0x83ffffff },
    { base := 0x10030804, s1 := 16, n1 := 8, rw := 0xffffffff, reset := 0x138801f4 },
    { base := 0x10030808, s1 := 16, n1 := 8, rw := 0xffffffff, reset := 0xfa00a064 },
    { base := 0x1003080c, s1 := 16, n1 := 8, rw := 0xff7fffff, reset := 0xa000000 } ]

/-- Registers of the ADC_ block. -/
def regsAdc : List RegDesc :=
  [ { base := 0x10060000, rw := 0x100 },
    { base := 0x10060004 },
    { base := 0x10060008, w1c := 0xf },
    { base := 0x1006000c, rw := 0xffffffff, reset := 0x32000a },
    { base := 0x10060010 },
    { base := 0x10060400, s1 := 64, n1 := 24, rw := 0x8ffe0000 },
    { base := 0x10060404, s1 := 64, n1 := 24, rw := 0xffffffff },
    { base := 0x10060408, s1 := 64, n1 := 24, rw := 0xffffffff },
    { base := 0x1006040c, s1 := 64, n1 := 24, rw := 0xefff0fff, reset := 0x7ff0800 },
    { base := 0x10060410, s1 := 64, n1 := 24, rw := 0x1ffff0 },
    { base := 0x10060414, s1 := 64, n1 := 24, rw := 0xf003fff0, reset := 0x10000000 },
    { base := 0x1006041c, s1 := 64, n1 := 24 },
    { base := 0x10060424, s1 := 64, n1 := 24, w1c := 0xff },
    { base := 0x10060430, s1 := 64, n1 := 24 },
    { base := 0x10060438, s1 := 64, n1 := 24 },
    { base := 0x10061000, s1 := 256, n1 := 8, rw := 0xfd1fffff },
    { base := 0x10061004, s1 := 256, n1 := 8 },
    { base := 0x10061008, s1 := 256, n1 := 8, w1c := 0xff },
    { base := 0x1006100c, s1 := 256, n1 := 8, rw := 0x1ffff8 },
    { base := 0x10061010, s1 := 256, n1 := 8, rw := 0x800fffff, reset := 0x1 },
    { base := 0x1006101c, s1 := 256, n1 := 8 },
    { base := 0x10061020, s1 := 256, n1 := 8, s2 := 4, n2 := 4, rw := 0xffffffff },
    { base := 0x10061080, s1 := 256, n1 := 8, s2 := 4, n2 := 32, rw := 0xfff8000, reset := 0x8000 },
    { base := 0x10060418, s1 := 64, n1 := 24, rw := 0x1ffff0 },
    { base := 0x10060420, s1 := 64, n1 := 24 },
    { base := 0x10060428, s1 := 64, n1 := 24 },
    { base := 0x1006042c, s1 := 64, n1 := 24 },
    { base := 0x10060434, s1 := 64, n1 := 24 },
    { base := 0x1006043c, s1 := 64, n1 := 24 },
    { base := 0x10061014, s1 := 256, n1 := 8 },
    { base := 0x10061018, s1 := 256, n1 := 8, rw := 0xffffffff },
    { base := 0x10061030, s1 := 256, n1 := 8 },
    { base := 0x10061034, s1 := 256, n1 := 8 },
    { base := 0x10061038, s1 := 256, n1 := 8 } ]

/-- Registers of the CMB_ block. -/
def regsCmb : List RegDesc :=
  [ { base := 0x10070000, rw := 0x800f37ff, reset := 0x5a0 },
    { base := 0x10070004, rw := 0x1ffff0 },
    { base := 0x10070008 },
    { base := 0x1007000c, w1c := 0x7f },
    { base := 0x10070100, s1 := 32, n1 := 24, rw := 0x9f0007ff },
    { base := 0x10070104, s1 := 32, n1 := 24, rw := 0xffffffff },
    { base := 0x10070108, s1 := 32, n1 := 24, rw := 0xffffffff, reset := 0xffff0000 },
    { base := 0x1007010c, s1 := 32, n1 := 24, rw := 0x80ffffff, reset := 0x7fffff },
    { base := 0x10070110, s1 := 32, n1 := 24, rw := 0xff0003ff },
    { base := 0x10070114, s1 := 32, n1 := 24, rw := 0xffffff },
    { base := 0x10070118, s1 := 32, n1 := 24, rw := 0xffff },
    { base := 0x10072000, s1 := 4, n1 := 1440, rw := 0xffffffff } ]

/-- Registers of the JCT_ block. -/
def regsJct : List RegDesc :=
  [ { base := 0x10080000 },
    { base := 0x10080004 },
    { base := 0x10080008 },
    { base := 0x1008000c },
    { base := 0x10080010, rw := 0x80ff00ff, reset := 0x50014 },
    { base := 0x10080014 },
    { base := 0x10080018, rw := 0xffffffff },
    { base := 0x1008001c, w1c := 0xfff } ]

/-- Registers of the XWK_ block. -/
def regsXwk : List RegDesc :=
  [ { base := 0x10080100 },
    { base := 0x10080104 },
    { base := 0x10080108, rw := 0xffff0000 },
    { base := 0x1008010c, rw := 0xffffffff },
    { base := 0x10080110, w1c := 0x3f },
    { base := 0x10080120, s1 := 4, n1 := 8 },
    { base := 0x10080114 },
    { base := 0x10080118 },
    { base := 0x10080140, s1 := 4, n1 := 8 } ]

/-- Registers of the FLT_ block. -/
def regsFlt : List RegDesc :=
  [ { base := 0x10090000, w1c := 0x7 },
    { base := 0x10090008, rw := 0xffffffff },
    { base := 0x1009000c, rw := 0xffff },
    { base := 0x10090014, w1c := 0x4000 },
    { base := 0x10090018, rw := 0x80000000, w1c := 0x40000000, reset := 0x80000000 },
    { base := 0x10090040, s1 := 4, n1 := 16, lock := 0xffffffff },
    { base := 0x10090108, s1 := 32, n1 := 3 },
    { base := 0x10090114, s1 := 32, n1 := 3 },
    { base := 0x10090004, w1c := 0x7 },
    { base := 0x10090010 },
    { base := 0x10090100, s1 := 32, n1 := 3 },
    { base := 0x10090104, s1 := 32, n1 := 3 },
    { base := 0x1009010c, s1 := 32, n1 := 3 },
    { base := 0x10090110, s1 := 32, n1 := 3 },
    { base := 0x10090118, s1 := 32, n1 := 3 } ]

/-- Registers of the MEM_ block. -/
def regsMem : List RegDesc :=
  [ { base := 0x100a0000, rw := 0x1ff, reset := 0x21 },
    { base := 0x100a0004 },
    { base := 0x100a0008, rw := 0x9f9f9f00 },
    { base := 0x100a000c, w1c := 0x1ff },
    { base := 0x100a0010, rw := 0xffffffff },
    { base := 0x100a0014 },
    { base := 0x100a0028, rw := 0x3f8, reset := 0x8 },
    { base := 0x100a0040, w1c := 0xf },
    { base := 0x100a0100, s1 := 4, n1 := 19, rw := 0x3fffffff },
    { base := 0x100a0200, s1 := 4, n1 := 16, rw := 0xbe7fffff },
    { base := 0x100a0020, rw := 0x7fffff0 },
    { base := 0x100a0024, rw := 0x7fffff0 },
    { base := 0x100a002c },
    { base := 0x100a0030 },
    { base := 0x100a0034 },
    { base := 0x100a0038 },
    { base := 0x100a003c },
    { base := 0x100a0048 },
    { base := 0x100a0180, s1 := 4, n1 := 19 } ]

/-- Registers of the HST_ block. -/
def regsHst : List RegDesc :=
  [ { base := 0x100b0000, s1 := 256, n1 := 4 },
    { base := 0x100b0004, s1 := 256, n1 := 4, rw := 0x3ff007f, reset := 0x1 },
    { base := 0x100b0008, s1 := 256, n1 := 4, rw := 0xc0003fff, reset := 0x3e8 },
    { base := 0x100b000c, s1 := 256, n1 := 4, w1c := 0x1ff, reset := 0x100 },
    { base := 0x100b0010, s1 := 256, n1 := 4, rw := 0xffffffff },
    { base := 0x100b0014, s1 := 256, n1 := 4 },
    { base := 0x100b001c, s1 := 256, n1 := 4, rw := 0xffff },
    { base := 0x100b0020, s1 := 256, n1 := 4, s2 := 4, n2 := 4 },
    { base := 0x100b0018, s1 := 256, n1 := 4 } ]

/-- Registers of the ICU_ block. -/
def regsIcu : List RegDesc :=
  [ { base := 0x100c0000, w1c := 0x3 },
    { base := 0x100c0004, rw := 0x3f, w1c := 0x3f0000, reset := 0x3f },
    { base := 0x100c0008, w1s := 0xff },
    { base := 0x100c0100, s1 := 4, n1 := 16, rw := 0xffffffff },
    { base := 0x100c0200, s1 := 4, n1 := 8, w1c := 0xffffffff },
    { base := 0x100c0300, s1 := 4, n1 := 32, rw := 0xffffffff },
    { base := 0x100c1000, s1 := 256, n1 := 5, s2 := 4, n2 := 8, rw := 0xffffffff },
    { base := 0x100c1020, s1 := 256, n1 := 5, reset := 0x3ff },
    { base := 0x100c1024, s1 := 256, n1 := 5 },
    { base := 0x100c1028, s1 := 256, n1 := 5, reset := 0x3ff03ff },
    { base := 0x100c102c, s1 := 256, n1 := 5, rw := 0xff } ]

/-- Registers of the DMA_ block. -/
def regsDma : List RegDesc :=
  [ { base := 0x100d0000, s1 := 64, n1 := 16, rw := 0xffff, reset := 0x100 },
    { base := 0x100d0004, s1 := 64, n1 := 16 },
    { base := 0x100d0008, s1 := 64, n1 := 16, rw := 0x1fffe0 },
    { base := 0x100d000c, s1 := 64, n1 := 16 },
    { base := 0x100d0018, s1 := 64, n1 := 16, w1c := 0x7f },
    { base := 0x100d001c, s1 := 64, n1 := 16, rw := 0xffffffff },
    { base := 0x100d0400, s1 := 4, n1 := 3, rw := 0xffffffff },
    { base := 0x100d040c, rw := 0xf },
    { base := 0x100d0410, w1c := 0x1ffffff },
    { base := 0x100d0010, s1 := 64, n1 := 16 },
    { base := 0x100d0014, s1 := 64, n1 := 16 } ]

/-- Registers of the CFG_ block. -/
def regsCfg : List RegDesc :=
  [ { base := 0x100e0000 },
    { base := 0x100e0008 },
    { base := 0x100e000c },
    { base := 0x100e0010, rw := 0xffffffff, reset := 0x7940a818 },
    { base := 0x100e0014, rw := 0xffff, reset := 0x64 },
    { base := 0x100e0018, w1c := 0x1ff },
    { base := 0x100e001c },
    { base := 0x100e0024, rw := 0x1ff000 },
    { base := 0x100e0028, rw := 0x1fffff },
    { base := 0x100e002c },
    { base := 0x100e0004 },
    { base := 0x100e0020 } ]

/-- Registers of the BYW_ block. -/
def regsByw : List RegDesc :=
  [ { base := 0x100f0000, s1 := 64, n1 := 8, rw := 0x1 },
    { base := 0x100f0004, s1 := 64, n1 := 8, rw := 0xffff, reset := 0x1 },
    { base := 0x100f0008, s1 := 64, n1 := 8, rw := 0xfff1ff0f },
    { base := 0x100f000c, s1 := 64, n1 := 8, rw := 0xffdf0003 },
    { base := 0x100f0010, s1 := 64, n1 := 8 },
    { base := 0x100f003c, s1 := 64, n1 := 8, rw := 0xffffff, reset := 0x1 },
    { base := 0x100f0038, s1 := 64, n1 := 8, w1c := 0x1fc },
    { base := 0x100f040c, w1s := 0xff },
    { base := 0x100f0014, s1 := 64, n1 := 8 },
    { base := 0x100f0018, s1 := 64, n1 := 8 },
    { base := 0x100f001c, s1 := 64, n1 := 8 },
    { base := 0x100f0020, s1 := 64, n1 := 8 },
    { base := 0x100f0024, s1 := 64, n1 := 8 },
    { base := 0x100f0028, s1 := 64, n1 := 8 },
    { base := 0x100f002c, s1 := 64, n1 := 8 },
    { base := 0x100f0030, s1 := 64, n1 := 8 },
    { base := 0x100f0034, s1 := 64, n1 := 8 },
    { base := 0x100f0800, s1 := 32, n1 := 8, s2 := 4, n2 := 8 },
    { base := 0x100f1000, s1 := 128, n1 := 8, s2 := 4, n2 := 32, rw := 0xffffff },
    { base := 0x100f0400, rw := 0xffff },
    { base := 0x100f0404, rw := 0xffff },
    { base := 0x100f0408 },
    { base := 0x100f0410, w1c := 0xff },
    { base := 0x100f0414 },
    { base := 0x100f0418, rw := 0xffffffff },
    { base := 0x100f041c, rw := 0xffffffff } ]

/-- Registers of the TWI_ block. -/
def regsTwi : List RegDesc :=
  [ { base := 0x10100000, rw := 0x3f },
    { base := 0x10100004, rw := 0x3ff03ff, reset := 0x1a001e0 },
    { base := 0x10100008, rw := 0xffffffff, reset := 0x1e5781e0 },
    { base := 0x1010000c, rw := 0xffff, reset := 0x1919 },
    { base := 0x10100010, rw := 0x7f7f7f00 },
    { base := 0x10100014 },
    { base := 0x10100018, rw := 0x80007f7f },
    { base := 0x1010001c, rw := 0x8f1fff00 },
    { base := 0x10100020 },
    { base := 0x10100024, w1c := 0x1f3f },
    { base := 0x10100100, s1 := 4, n1 := 16, rw := 0xffffffff } ]

/-- Registers of the CLK_ block and FRST_. -/
def regsClk : List RegDesc :=
  [ { base := 0x10110000 },
    { base := 0x10110004 },
    { base := 0x10110008 },
    { base := 0x1011000c, w1c := 0x3ff },
    { base := 0x10110010, rw := 0x1, reset := 0x1 },
    { base := 0x10110018, rw := 0xff00ff, reset := 0x740012 },
    { base := 0x1011001c, rw := 0xff, reset := 0x7d },
    { base := 0x10110024, rw := 0xffff, reset := 0x3e8 },
    { base := 0x10110100, s1 := 4, n1 := 6, rw := 0xffffffff },
    { base := 0x10110120, rw := 0xffffffff },
    { base := 0x10110124, rw := 0xfffffff },
    { base := 0x10110014, rw := 0xffffffff },
    { base := 0x10110020 },
    { base := 0x10110118, s1 := 4, n1 := 2, rw := 0xffffffff } ]

/-- Registers of the MON_ block. -/
def regsMon : List RegDesc :=
  [ { base := 0x10120000 },
    { base := 0x10120004 },
    { base := 0x1012000c },
    { base := 0x10120010, rw := 0xfffff, reset := 0x3641 },
    { base := 0x10120014, w1c := 0x1f },
    { base := 0x10120008 } ]

end Sys2Proof.Machine
end

