-- ==== Sys2Proof/Machine/Regs.lean ====
section
/-! DEFINITION. The register file of a lane: a list of (address, value) pairs in one canonical form, addresses
strictly rising and no entry equal to the register's reset value; and bit-field helpers on register words. -/

namespace Sys2Proof.Machine

/-- Bits [lo + w − 1 : lo] of a word, as a number. -/
def bits (v : BitVec 32) (lo w : Nat) : Nat := v.toNat >>> lo % 2 ^ w

/-- The word with bits [lo + w − 1 : lo] replaced by the low w bits of x. -/
def setBits (v : BitVec 32) (lo w x : Nat) : BitVec 32 :=
  let m : BitVec 32 := BitVec.ofNat 32 ((2 ^ w - 1) <<< lo)
  (v &&& ~~~m) ||| (BitVec.ofNat 32 (x % 2 ^ w) <<< lo)

/-- A signed number of w bits, two's complement. -/
def toSigned (x w : Nat) : Int := if x % 2 ^ w < 2 ^ (w - 1) then x % 2 ^ w else (x % 2 ^ w : Int) - 2 ^ w

/-- The low w bits of an integer, two's complement. -/
def ofSigned (x : Int) (w : Nat) : Nat := (x % (2 ^ w : Int)).toNat

/-- The integer held within w signed bits, saturating. -/
def satSigned (x : Int) (w : Nat) : Int := max (-(2 ^ (w - 1) : Int)) (min ((2 ^ (w - 1) : Int) - 1) x)

/-- The number, saturating at the largest of w bits. -/
def satNat (x w : Nat) : Nat := min x (2 ^ w - 1)

/-- The descriptor covers this address. -/
def RegDesc.covers (d : RegDesc) (a : Nat) : Bool :=
  if a < d.base then false
  else
    let o := a - d.base
    let i := if d.s1 = 0 then 0 else o / d.s1
    let r := if d.s1 = 0 then o else o % d.s1
    let j := if d.s2 = 0 then 0 else r / d.s2
    let q := if d.s2 = 0 then r else r % d.s2
    i < d.n1 && j < d.n2 && q == 0

/-- The registers of the block that holds an address (R15). -/
def blockRegs (a : Nat) : List RegDesc :=
  match a / 0x10000 with
  | 0x1000 => regsOdo | 0x1001 => regsWpt | 0x1002 => regsChn | 0x1003 => regsIgn | 0x1004 => regsBst
  | 0x1005 => regsLnd | 0x1006 => regsAdc | 0x1007 => regsCmb | 0x1008 => regsJct ++ regsXwk | 0x1009 => regsFlt
  | 0x100A => regsMem | 0x100B => regsHst | 0x100C => regsIcu | 0x100D => regsDma | 0x100E => regsCfg
  | 0x100F => regsByw | 0x1010 => regsTwi | 0x1011 => regsClk | 0x1012 => regsMon | _ => []

/-- The descriptor of an address, if a register lies there. -/
def regDesc (a : Nat) : Option RegDesc := (blockRegs a).find? fun d => d.covers a

/-- Reset value of FLT_REACTn: the default reactions of its eight kinds (R271). -/
def reactReset (n : Nat) : BitVec 32 :=
  kindRows.foldl (fun v r => if r.code / 8 = n then setBits v (4 * (r.code % 8)) 4 r.react else v) 0

/-- Bits of FLT_REACTn that a LOCK write reaches: the fields of listed kinds that are not fixed (R264, R271). -/
def reactMask (n : Nat) : BitVec 32 :=
  kindRows.foldl (fun v r => if r.code / 8 = n && !r.fixed then setBits v (4 * (r.code % 8)) 4 0xF else v) 0

/-- The value a register holds at reset (the register tables; R271 for FLT_REACTn, R226 for CMBc_CTRL.ACH, R357 for
ICU_MODE0). -/
def regReset (a : Nat) : BitVec 32 :=
  match regDesc a with
  | none => 0
  | some d =>
    if d.base = Reg.fltReact 0 then reactReset ((a - d.base) / 4)
    else if d.base = Reg.cylCtrl 0 then setBits 0 24 5 ((a - d.base) / 32)
    else if a = Reg.icuMode 0 then 0x05550000
    else d.reset

/-- A lane's registers: (address, value) pairs. -/
abbrev RegFile := List (Nat × BitVec 32)

/-- The canonical form: addresses strictly rise and no entry equals its reset value. -/
def RegFile.wf : RegFile → Bool
  | [] => true
  | [(a, v)] => v != regReset a
  | (a, v) :: (b, w) :: r => v != regReset a && decide (a < b) && RegFile.wf ((b, w) :: r)

/-- Read a register: its entry, else its reset value. -/
def RegFile.get (f : RegFile) (a : Nat) : BitVec 32 := (f.lookup a).getD (regReset a)

/-- Insert in address order, replacing an entry of the same address. -/
def RegFile.insert (a : Nat) (v : BitVec 32) : RegFile → RegFile
  | [] => [(a, v)]
  | (b, w) :: r => if a < b then (a, v) :: (b, w) :: r else if a = b then (a, v) :: r else (b, w) :: RegFile.insert a v r

/-- Write a register, keeping the canonical form. -/
def RegFile.set (f : RegFile) (a : Nat) (v : BitVec 32) : RegFile :=
  if v = regReset a then f.filter (fun e => e.1 != a) else RegFile.insert a v f

end Sys2Proof.Machine
end

