-- ==== Sys2Proof/Machine/Operands.lean ====
section
/-! DEFINITION. The operand forms of the commands: the register that an operand names, and the route, channel and gate
numbers that rows carry, as addresses and numbers of the machine. -/

namespace Sys2Proof.Machine

/-- The address of a protected register. -/
def adcProtAddr : AdcProtReg → Nat
  | .acCtrl a => Reg.acCtrl a
  | .acWin a => Reg.acWin a
  | .acFbase a => Reg.acFbase a
  | .acFstride a => Reg.acFstride a
  | .acRbase a => Reg.acRbase a
  | .scQbase m => Reg.scQbase m
  | .scQctrl m => Reg.scQctrl m

/-- The register of ODO_CONFIG_WRITE (R33). -/
def odoCfgAddr : OdoCfgReg → Nat
  | .wheel => Reg.odoWheel
  | .camwin => Reg.odoCamwin
  | .gapratio => Reg.odoGapratio
  | .timeout => Reg.odoTimeout
  | .sensor => Reg.odoSensor
  | .dir => Reg.odoDir
  | .interp => Reg.odoInterp
  | .spdwin => Reg.odoSpdwin

/-- The entry of GEOMETRY_WRITE: i of the ahead set, or of the astern set (R64). -/
def geometryAddr (astern : Bool) (i : Nat) : Nat := if astern then Reg.odoGeob i else Reg.odoGeoa i

/-- The register of PROFILE_SELECT: slots 0 to 3, or 4 to 7 (R123). -/
def profileSelAddr (n : Nat) (hi : Bool) : Nat := if hi then Reg.chnProfileSel1 n else Reg.chnProfileSel0 n

/-- The register of ENGINE_CONFIG_WRITE (R384). -/
def bywCfgAddr (e : Nat) : BywCfgReg → Nat
  | .raten => Reg.bywRaten e
  | .rated => Reg.bywRated e
  | .pincfg => Reg.bywPincfg e
  | .qcfg => Reg.bywQcfg e

/-- The register of TWI_CONFIG_WRITE (R396). -/
def twiCfgAddr : TwiCfgReg → Nat
  | .tim0 => Reg.twiTim0
  | .tim1 => Reg.twiTim1
  | .tout => Reg.twiTout
  | .taddr => Reg.twiTaddr
  | .twin => Reg.twiTwin

/-- The register of PIN_WRITE (R379). -/
def pinLatchAddr (dir : Bool) : Nat := if dir then Reg.bywPindir else Reg.bywPinout

/-- The modulator number of CALIBRATION_DONE: angle channels from 0, scan modulators from 24 (R186). -/
def modulatorNum : Modulator → Nat
  | .ac a => a.val
  | .sc m => 24 + m.val

end Sys2Proof.Machine
end

