-- ==== Sys2Proof/Config.lean ====
section
/-! DEFINITION. What the spec leaves open: free values (constants without a body, so that no proof can see a value
of them) and the values that an implementation fixes. Each is named in the assumption log. -/

namespace Sys2Proof.Config

/-- The free values: a fresh 32-bit value for each reading of the state's counter `freeCount` (log entry 2). -/
opaque freeWord : Nat → BitVec 32

/-- The sense voltage IGSg of gate g at a module time, as the stage outside gives it (08_ignition.md R170): a free value, for
no command reports every sample (log entry 96). -/
opaque senseAt : Nat → Nat → BitVec 10

/-- Factory offset of an angle channel's modulator, by lane (0 or 1) and channel; R193, R214: fuse trim whose value
the spec does not give (log entry 3). -/
opaque acTrimOfs : Nat → Nat → BitVec 24

/-- Factory gain of an angle channel's modulator (log entry 3). -/
opaque acTrimGain : Nat → Nat → BitVec 24

/-- Factory offset of a scan modulator (log entry 3). -/
opaque scTrimOfs : Nat → Nat → BitVec 24

/-- Factory gain of a scan modulator (log entry 3). -/
opaque scTrimGain : Nat → Nat → BitVec 24

/-- Module serial number in a lane's fuses, MON_ID0 (R292, R422): the spec gives the part no number (log entry 3). -/
opaque serial : Nat → BitVec 32

/-- Year of manufacture less 2000, MON_ID1.YEAR (log entry 3). -/
opaque madeYear : Nat → BitVec 8

/-- Week of manufacture, MON_ID1.WEEK (log entry 3). -/
opaque madeWeek : Nat → BitVec 8

/-- Trim words of a lane, by lane and index: reference oscillator, root PLL, always-on oscillator, sensor front-end
thresholds; R292 names them and gives neither width nor value (log entry 3). -/
opaque trimWord : Nat → Nat → BitVec 32

/-- What a read of a triplicated word gives when no two of its copies agree; R289 gives no value (log entry 99). -/
opaque noVote : Nat → BitVec 288

/-- The checksum that the first descriptor of a chain continues with CHK_CONT = 1, by lane time and channel: there is no previous
descriptor, and R364 gives no value (log entry 101). -/
opaque chainSeed : Nat → BitVec 32

/-- What JCT_VOTE shows for a voter that drives none of the four values of R232: the spec gives no code (log entry 35). -/
opaque invalidVote : Nat → BitVec 2

end Sys2Proof.Config
end

