-- ==== Sys2Proof/Machine/State.lean ====
section
/-! DEFINITION. The state of the module as plain data: what each lane die, each drive die, the Junction and the
Crosswalk hold, the reasons a step can stop, and the state after reset. Registers that software writes or that hold
events and counters stand in each lane's register file; state that a status register only shows is a typed field,
and the read computes the register from it, so that every bit has one home. The docstring of a field gives its rule
and its reset value. -/

namespace Sys2Proof.Machine

/-- Why a step can stop. -/
inductive Fault where
  /-- A command names Lane B (or a host port of Lane B) on the S variant, which has no Lane B die (R1). Raised by every
  command of a lane or port. Safe: the machine stops where the hardware has nothing to command. -/
  | laneNotFitted
deriving DecidableEq, Repr

/-- Why a command has no meaning. -/
inductive Refusal where
  /-- Raised by the arms of exec whose command has no meaning yet. Safe: it stops by name. -/
  | notModelled (mnemonic : String)
deriving DecidableEq, Repr

/-! ### Fault messages (12_faults.md) -/

/-- A fault message with what its capture takes when the source raises it (R255, R259). -/
structure FaultMsg where
  w0 : Word
  w1 : Word
  /-- Master ID and access type (R260). -/
  mid : BitVec 8 := 0x3F
  acc : BitVec 4 := 0
  /-- LANE_TIME, angle word with its validity, and cycle counter at the condition (R259). -/
  time : BitVec 64 := 0
  angle : BitVec 24 := 0
  avalid : Bool := false
  cycle : BitVec 32 := 0
deriving DecidableEq, Repr

/-! ### Odometer (02_wheels.md, 03_odometer_angle.md) -/

/-- Synchronisation states (R41). -/
inductive OdoState where
  | stopped | seek | crankSync | fullSync | hold | lost
deriving DecidableEq, Repr

/-- What the gap procedure keeps for one tracked input (R35, R36, R45, R46): a crank sensor, or the cam. -/
structure Tracker where
  /-- Edges since STOPPED, saturating at 65,535; 02_wheels.md R36; reset 0. -/
  edges : Nat := 0
  /-- Stamp of the last edge taken up by the gap procedure, LANE_TIME; 02_wheels.md R25, R35; reset DESIGN CHOICE 0, log entry 5. -/
  last : Nat := 0
  /-- Stamp of the last accepted edge since STOPPED, a contrary tooth included; 02_wheels.md R47; reset none. -/
  seen : Option Nat := none
  /-- Stamp of the active edge of a pulse whose return edge is awaited (pulse-width mode); 02_wheels.md R29, R47; reset none. -/
  pwAt : Option Nat := none
  /-- Period ending at the previous edge, TCLK; 02_wheels.md R35; reset 0. -/
  p0 : Nat := 0
  /-- Period ending at the last edge, TCLK; 02_wheels.md R35; reset 0. -/
  p1 : Nat := 0
  /-- Period of the pending gap candidate; 02_wheels.md R35; reset DESIGN CHOICE 0, log entry 5. -/
  pg : Nat := 0
  /-- A gap candidate is pending; 02_wheels.md R35; reset false. -/
  cand : Bool := false
  /-- Edges since the last GAP_FOUND of the search; 02_wheels.md R36; reset 0. -/
  k : Nat := 0
  /-- Gaps found by the search, saturating at 255; 02_wheels.md R36; reset 0. -/
  gaps : Nat := 0
  /-- Edges since the last gap, none before the first; 02_wheels.md R45; reset none. -/
  sinceGap : Option Nat := none
  /-- Pattern lock; 02_wheels.md R45; reset false. -/
  lock : Bool := false
  /-- Revolution position of the last edge by this input's own gaps; 02_wheels.md R35, R45; reset none. -/
  pos : Option Nat := none
  /-- In agreeing lock; 02_wheels.md R45; reset false. -/
  agree : Bool := false
  /-- Edges in unbroken agreeing lock; 02_wheels.md R46; reset 0. -/
  agreeRun : Nat := 0
  /-- Teeth of the other sensor since this one's last edge; 02_wheels.md R46; reset 0. -/
  noEdge : Nat := 0
  /-- Silent now; 02_wheels.md R46, ODO_HEALTH; reset false. -/
  silent : Bool := false
  /-- Peak Pk in mV of the last lobe that armed the input since STOPPED; 02_wheels.md R26; reset none. -/
  armed : Option Nat := none
  /-- A lobe has armed the input, and its edge is awaited; 02_wheels.md R26; reset false. -/
  primed : Bool := false
  /-- A transition was discarded by the glitch filter, in this direction (true rising); the input's return to the level that
  the filter holds is awaited; 02_wheels.md R28; reset none. -/
  bounced : Option Bool := none
  /-- Primary position, in 1/256, at which this sensor's pending milestone 0 fell; 02_wheels.md R45; reset 0. -/
  zeroAt : Nat := 0
deriving DecidableEq, Repr

/-- A conditioned transition of a crank input (R25, R28). -/
structure PinEdge where
  /-- Its stamp, in the LANE_TIME of the lane that acts on it; 02_wheels.md R25. -/
  stamp : Nat
  /-- It is the active edge; else it is the return edge of a pulse; 02_wheels.md R29. -/
  active : Bool
  /-- At a return edge, the width of the pulse in TCLK; 02_wheels.md R29. -/
  width : Nat
deriving DecidableEq, Repr

/-- A completed span, kept while micro-ticks of it are still to be emitted (R69). -/
structure Span where
  /-- Unwrapped angle of its first edge; 03_odometer_angle.md R65. -/
  base : Nat
  /-- Micro-ticks of the span; 03_odometer_angle.md R65. -/
  len : Nat
  /-- Stamp of its first edge; 03_odometer_angle.md R65. -/
  t0 : Nat
  /-- Measured period; 03_odometer_angle.md R69. -/
  pm : Nat
deriving DecidableEq, Repr

/-- The Odometer of one lane beside its registers. -/
structure Odo where
  /-- Synchronisation state, 3 bits; 02_wheels.md R41; reset STOPPED. -/
  state : OdoState := .stopped
  /-- Confirmed direction, true astern, 1 bit; 02_wheels.md R30; reset ahead. -/
  dir : Bool := false
  /-- ROUTE_SET, true astern, 1 bit; 02_wheels.md R52; reset 0. -/
  routeSet : Bool := false
  /-- The secondary crank sensor is active, 1 bit; 02_wheels.md R57 ODO_STATE; reset 0. -/
  actSec : Bool := false
  /-- Tracking of the primary crank sensor; 02_wheels.md R35; reset empty. -/
  pri : Tracker := {}
  /-- Tracking of the secondary crank sensor; 02_wheels.md R45; reset empty. -/
  sec : Tracker := {}
  /-- Tracking of the cam; 02_wheels.md R37; reset empty. -/
  cam : Tracker := {}
  /-- Conditioned crank edges of the other lane on their way to this one, oldest first; 02_wheels.md R25; reset empty. -/
  secIn : List PinEdge := []
  /-- LANE_TIME and rank in R42 of the condition last acted on: 0 EN written 0, 1 RESYNC, 2 direction, 3 stall, 4 anomaly
  or switch; 02_wheels.md R42; reset none. -/
  acted : Option (Nat × Nat) := none
  /-- Stamps of the contrary teeth counted so far, oldest first; 02_wheels.md R30; reset empty. -/
  contrary : List Nat := []
  /-- Revolution position in CRANK_SYNC, cycle milestone of the span's first edge in FULL_SYNC; 02_wheels.md R41; reset 0. -/
  pos : Nat := 0
  /-- Last milestone raised, 11 bits; 02_wheels.md R57 ODO_STATE; reset 0. -/
  milestone : Nat := 0
  /-- Measured offset of the secondary in 1/256 position; 02_wheels.md R45, ODO_SEC_OFS; reset none. -/
  secOfs : Option Nat := none
  /-- Virtual edges of a sensor switch to come: time and revolution milestone; 02_wheels.md R45; reset empty. -/
  virt : List (Nat × Nat) := []
  /-- The span ends come from virtual edges of the secondary; 02_wheels.md R45; reset false. -/
  byVirt : Bool := false
  /-- Positions passed since CRANK_SYNC was declared; 02_wheels.md R37; reset 0. -/
  absPos : Nat := 0
  /-- Once the cam phase is known: milestone = absPos + this, mod 2N; 02_wheels.md R37; reset none. -/
  phaseOfs : Option Nat := none
  /-- Gapped cam: position and absPos of the pending reference; 02_wheels.md R37; reset none. -/
  camCand : Option (Nat × Nat) := none
  /-- Cam edges that wait for the crank tooth in progress (pulse-width mode); 02_wheels.md R37, R29; reset empty. -/
  camWait : List Nat := []
  /-- absPos of the last cam reference of CRANK_SYNC, of its entry, or of the last CAM_SILENT; 02_wheels.md R37; reset 0. -/
  camFrom : Nat := 0
  /-- A reference fell within the window of this cycle; 02_wheels.md R39; reset false. -/
  camSeen : Bool := false
  /-- The window has passed and is not yet judged, with the positions passed since; 02_wheels.md R39; reset none. -/
  camOpen : Option Nat := none
  /-- A later cam tooth lets a gapped cam's window be judged; 02_wheels.md R39; reset false. -/
  camJudge : Bool := false
  /-- A run of misses is under way; 02_wheels.md R39; reset false. -/
  missRun : Bool := false
  /-- Consecutive conflicting cycles; 02_wheels.md R39; reset 0. -/
  conflicts : Nat := 0
  /-- Cycle (counted by the unwrapped angle) of the last conflict; 02_wheels.md R39; reset none. -/
  conflictAt : Option Nat := none
  /-- CAM_LOCK of ODO_HEALTH, 1 bit; 02_wheels.md R57; reset 0. -/
  camLock : Bool := false
  /-- Unwrapped angle word; 03_odometer_angle.md R65; reset 0. -/
  ang : Nat := 0
  /-- ODO_ANGLE.ANGLE, 24 bits; 03_odometer_angle.md R71, R72; reset 0. -/
  word : Nat := 0
  /-- Unwrapped angle of the edge that starts the current span; 03_odometer_angle.md R65; reset DESIGN CHOICE 0, log entry 5. -/
  base : Nat := 0
  /-- Stamp of that edge; 03_odometer_angle.md R65; reset DESIGN CHOICE 0, log entry 5. -/
  t0 : Nat := 0
  /-- Span length in positions; 03_odometer_angle.md R65; reset DESIGN CHOICE 1, log entry 5. -/
  sp : Nat := 1
  /-- Ppred of the span; 03_odometer_angle.md R60; reset DESIGN CHOICE 0, log entry 5. -/
  pp : Nat := 0
  /-- Normalised periods of the two latest spans; 03_odometer_angle.md R60; reset DESIGN CHOICE 0, log entry 5. -/
  q0 : Nat := 0
  /-- The later of them; 03_odometer_angle.md R60; reset DESIGN CHOICE 0, log entry 5. -/
  q1 : Nat := 0
  /-- Cycle counter; 03_odometer_angle.md R71; reset DESIGN CHOICE 0, log entry 5. -/
  cycle : BitVec 32 := 0
  /-- A catch-up by R68 is under way; 03_odometer_angle.md R68; reset false. -/
  catchup : Bool := false
  /-- LANE_TIME of the last TCLK in which a micro-tick was emitted or withheld; 03_odometer_angle.md R70, R67; reset none. -/
  emitted : Option Nat := none
  /-- LANE_TIME of a micro-tick that waits for an edge of its TCLK; 03_odometer_angle.md R70; reset none. -/
  owed : Option Nat := none
  /-- Completed spans with micro-ticks still to come; 03_odometer_angle.md R69; reset empty. -/
  spans : List Span := []
  /-- Milestones raised since HOLD began; 02_wheels.md R41; reset 0. -/
  holdCount : Nat := 0
  /-- Measured periods of the revolution in progress by span start; 03_odometer_angle.md R63; reset empty. -/
  periods : List (Nat × Nat) := []
  /-- Tprev of the geometry learning; 03_odometer_angle.md R63; reset none. -/
  tprev : Option Nat := none
  /-- The revolution in progress meets the whole-revolution condition; 03_odometer_angle.md R63; reset false. -/
  revClean : Bool := false
deriving DecidableEq, Repr
/-! ### Memory (13_memory.md) -/

/-- One entry of the merge buffer (R278). -/
structure MergeEntry where
  /-- Lane-local word address. -/
  addr : Nat
  /-- Bytes held, bit b for byte b. -/
  mask : BitVec 16
  /-- The 16 data bytes, byte 0 lowest. -/
  data : BitVec 128
  /-- Master ID of the last writer, for the fault of a merge read (R260, R278). -/
  mid : Nat
deriving DecidableEq, Repr

/-- One tracked correction (R282). -/
structure TrackEntry where
  addr : Nat
  sym : Nat
  count : Nat
deriving DecidableEq, Repr

/-- A scrub pass in progress and its figures so far (R286 to R288). -/
structure Scrub where
  /-- Next word address; 13_memory.md R286. -/
  next : Nat
  /-- Last word address; 13_memory.md R286. -/
  last : Nat
  /-- LANE_TIME at GO; 13_memory.md R288. -/
  start : Nat
  /-- Words read; 13_memory.md R288. -/
  read : Nat := 0
  /-- Words corrected; 13_memory.md R288. -/
  corr : Nat := 0
  /-- Words uncorrectable or poisoned; 13_memory.md R288. -/
  unc : Nat := 0
  /-- First uncorrectable or poisoned address; 13_memory.md R288. -/
  first : Option Nat := none
  /-- A pass of the service core over the whole of each array: the array it is at; 13_memory.md R288. -/
  core : Option Nat := none
  /-- Symbols corrected, by macro; 13_memory.md R288. -/
  hist : Vector Nat 19 := Vector.replicate 19 0
deriving DecidableEq, Repr

/-- The arrays of one lane and their controller beside the MEM_ registers. A data byte is a cell at its lane-local
address; check byte c_i of the word at A is a cell of `chk` at A + i; symbol k of spare word i is a cell of `spare` at
32 × i + k. An unlisted cell reads 0 (R22; before cold initialisation DESIGN CHOICE, log entry 4). -/
structure Mem where
  /-- Data bytes of the three arrays; 13_memory.md R273; reset none listed (all 0). -/
  data : List Host.Cell := []
  /-- Check bytes; 13_memory.md R273; reset none listed (all 0). -/
  chk : List Host.Cell := []
  /-- Spare words; 13_memory.md R283; reset none listed (all 0). -/
  spare : List Host.Cell := []
  /-- Merge buffer, oldest first, at most 8; 13_memory.md R278; reset empty. -/
  merge : List MergeEntry := []
  /-- LANE_TIME of the last narrow write; 13_memory.md R278; reset 0. -/
  narrowAt : Nat := 0
  /-- Tracking table, most recent first, at most 32; 13_memory.md R282; reset empty. -/
  track : List TrackEntry := []
  /-- Words for which REMAP_FULL was raised; 13_memory.md R283; reset empty. -/
  fullSeen : List Nat := []
  /-- Scrub pass in progress; 13_memory.md R286; reset none. -/
  scrub : Option Scrub := none
  /-- Figures of the last pass are valid (MEM_SCRUB_CTRL.DONE); 13_memory.md R288; reset false. -/
  scrubDone : Bool := false
  /-- Writes that wait for the end of the cold initialisation, oldest first: writer, address and bytes; 13_memory.md R290; reset
  empty. -/
  waits : List (Writer × Nat × List Byte) := []
  /-- MEM_STAT.INIT_DONE; 13_memory.md R290; reset 0. -/
  initDone : Bool := false
deriving DecidableEq, Repr

/-- A value held in three copies (R289). -/
structure Triple where
  c0 : BitVec 288
  c1 : BitVec 288
  c2 : BitVec 288
deriving DecidableEq, Repr
/-! ### Scheduler and drive links (04_waypoints_routes.md) -/

/-- Types of a drive link command (R105, R141, R171; a poisoned END ends its event by fast decay, R104). -/
inductive DrvKind where
  | startT | startA | endA | endFast | dwell | spark | stop | halt
deriving DecidableEq, Repr

/-- One drive link command (R105). -/
structure DrvCmd where
  kind : DrvKind
  /-- Channel 0 to 15 or gate 0 to 3 within the die. -/
  ch : Nat := 0
  /-- Profile slot, or spark set for a DWELL. -/
  slot : Nat := 0
  /-- DUR in units of 100 ns. -/
  dur : Nat := 0
  /-- Route cycle number [4:0]. -/
  cyc : Nat := 0
  /-- Entry index. -/
  idx : Nat := 0
  /-- The late flag of R102. -/
  late : Bool := false
  /-- Lateness in TCLK (R102). -/
  lateness : Nat := 0
  /-- Added queue delay in TCLK (R105). -/
  qdelay : Nat := 0
deriving DecidableEq, Repr

/-- A command on a drive link: when its 125 ns slot begins and when it reaches the die, in module time. -/
structure LinkEntry where
  cmd : DrvCmd
  slotAt : Nat
  due : Nat
deriving DecidableEq, Repr

/-- A crossing that waits for room in its link queue (R105), or a STOP or HALT behind it (R13, R108). -/
structure HeldCross where
  /-- The route; 240 for STOP and HALT. -/
  route : Nat
  die : Nat
  cmd : DrvCmd
  /-- Module time of the crossing. -/
  since : Nat
  rcn : BitVec 32
deriving DecidableEq, Repr

/-- Where a route takes its entries from in this route cycle (R93). -/
inductive RouteSrc where
  | none | bank (b : Bool) | detour
deriving DecidableEq, Repr

/-- What a route is doing (R107, R108). -/
inductive RoutePhase where
  | idle | waiting | running
deriving DecidableEq, Repr

/-- The armed waypoint of a route (R98, R171). -/
structure Armed where
  idx : Nat
  entry : Entry
  /-- Electrical offset of the dwell point of a SPARK entry, until it is crossed. -/
  dwell : Option Nat := none
  /-- Electrical offset of the waypoint, or of the spark point. -/
  eoff : Nat
  /-- The dwell offset is frozen. -/
  dwellFrozen : Bool := false
  /-- The offset is frozen (R98). -/
  frozen : Bool := false
  /-- A recomputation put the waypoint, or the spark point, at or behind the angle word (R98, R102). -/
  behind : Bool := false
  /-- A recomputation put the dwell point at or behind the angle word (R98, R173). -/
  dwellBehind : Bool := false
  /-- The next point was reached while its guard verdict was awaited (R223). -/
  waited : Bool := false
deriving DecidableEq, Repr

/-- One route (R82, R83). -/
structure Route where
  /-- Latched header word 0; 04_waypoints_routes.md R90, R91; reset EN = 0. -/
  w0 : Word := 0
  /-- Latched header word 1; 04_waypoints_routes.md R90; reset DESIGN CHOICE 0, log entry 5. -/
  w1 : Word := 0
  /-- Latched header word 2; 04_waypoints_routes.md R90; reset DESIGN CHOICE 0, log entry 5. -/
  w2 : Word := 0
  /-- What the route is doing; 04_waypoints_routes.md R108; reset idle. -/
  phase : RoutePhase := .idle
  /-- The header read at the last route cycle start was poisoned; 13_memory.md R280; reset false. -/
  hdrBad : Bool := false
  /-- The present route cycle is a partial one; 04_waypoints_routes.md R441; reset false. -/
  isPartial : Bool := false
  /-- Route cycle number, 32 bits; 04_waypoints_routes.md R83; reset DESIGN CHOICE 0, log entry 5. -/
  rcn : BitVec 32 := 0
  /-- Source of the entries; 04_waypoints_routes.md R93; reset none. -/
  src : RouteSrc := .none
  /-- Armed waypoint; 04_waypoints_routes.md R98; reset none. -/
  armed : Option Armed := none
  /-- Entry to be armed in a later TCLK than the given one; 04_waypoints_routes.md R100; reset none. -/
  armNext : Option (Nat × Nat) := none
  /-- Hydraulic offset of the entry before the next one; 04_waypoints_routes.md R85; reset none. -/
  prevOff : Option Nat := none
  /-- Entry indices of the START_As of this route cycle that were sent, each until it is refused, dropped or cancelled or its
  event ends; 04_waypoints_routes.md R86, R87; reset none. -/
  openA : List Nat := []
  /-- Partial route cycle: off(entry angle), at or below which entries are cancelled; 04_waypoints_routes.md R107, R441; reset none. -/
  entryOff : Option Nat := none
  /-- Offsets below this one were passed while the swap decision was awaited; 04_waypoints_routes.md R95; reset 0. -/
  lateTo : Nat := 0
  /-- Standby lane: waiting for the swap decision since this LANE_TIME; 04_waypoints_routes.md R95; reset none. -/
  decWait : Option Nat := none
  /-- Standby lane: the route cycle that it decided alone, or was stopped in, before the decision came; that decision is
  discarded; 04_waypoints_routes.md R95; reset none. -/
  decMissed : Option (BitVec 32) := none
  /-- Full route cycles since the conditions of comparison hold, at most 2; 11_lanes_junction.md R240; reset 0. -/
  cmpCycles : Nat := 0
deriving DecidableEq, Repr

/-- A swap decision (R95) with the estimate that travels with it (R154, R175). -/
structure Decision where
  route : Nat
  rcn : BitVec 32
  swapAh : Bool
  swapAs : Bool
  /-- LNDn_EST of an actuator route, IGNg_DWEST of a gate route. -/
  est : BitVec 32
deriving DecidableEq, Repr

/-- The scheduler of one lane beside its registers. -/
structure Sched where
  /-- The 240 routes; 04_waypoints_routes.md R82; reset all idle. -/
  routes : Vector Route 240 := Vector.replicate 240 {}
  /-- Pending flags of the ahead set; 04_waypoints_routes.md R92; reset 0. -/
  pendAh : BitVec 256 := 0
  /-- Pending flags of the astern set; 04_waypoints_routes.md R92; reset 0. -/
  pendAs : BitVec 256 := 0
  /-- Active banks of the ahead set; 04_waypoints_routes.md R88; reset 0. -/
  bankAh : BitVec 256 := 0
  /-- Active banks of the astern set; 04_waypoints_routes.md R88; reset 0. -/
  bankAs : BitVec 256 := 0
  /-- Routes that follow their detour; 04_waypoints_routes.md R113 WPT_DETn; reset 0. -/
  det : BitVec 256 := 0
  /-- Detour requests; 04_waypoints_routes.md R93, R111; reset 0. -/
  detReq : BitVec 256 := 0
  /-- Routes idle by host silence until a commit; 04_waypoints_routes.md R111; reset 0. -/
  hostIdle : BitVec 256 := 0
  /-- Routes that become idle by host silence at their next cycle start; 04_waypoints_routes.md R111; reset 0. -/
  idleReq : BitVec 256 := 0
  /-- LANE_TIME of the last TCLK in which every route took its turn; 04_waypoints_routes.md R100; reset none. -/
  turnAt : Option Nat := none
  /-- WPT_CTRL as taken at the last milestone (HORIZON, HOLD_STOP, SYNC_WAIT); 04_waypoints_routes.md R113; reset as WPT_CTRL, 0x0020_0400. -/
  gov : Word := 0x00200400
  /-- Drive link queues, one per die, oldest first; 04_waypoints_routes.md R105; reset empty. -/
  links : Vector (List LinkEntry) 12 := Vector.replicate 12 []
  /-- Module time at which each link is free; 04_waypoints_routes.md R105; reset 0. -/
  linkFree : Vector Nat 12 := Vector.replicate 12 0
  /-- Crossings that wait for room, in order; 04_waypoints_routes.md R105; reset empty. -/
  held : List HeldCross := []
  /-- Decisions that arrived before this lane's own start; 04_waypoints_routes.md R95; reset empty. -/
  decisions : List Decision := []
deriving DecidableEq, Repr
/-! ### Drive dies: channels, quads, gates, rails (05_actuator_channels.md to 08_ignition.md) -/

/-- Channel states (R140). -/
inductive ChanState where
  | off | idle | wait | run | decay | fault | slave
deriving DecidableEq, Repr

/-- What the landing detector of an event keeps (R148). -/
structure Detect where
  /-- Points a[k], newest first: sum in mA, centre time, clear of blanking. -/
  pts : List (Nat × Nat × Bool) := []
  /-- The point being summed: samples so far, sum, time of the first, clear of blanking. -/
  n : Nat := 0
  sum : Nat := 0
  t1 : Nat := 0
  clear : Bool := true
  /-- Reference slope once a segment has begun. -/
  ref : Option Int := none
  /-- Lowest slope and its candidate landing time. -/
  low : Option (Int × Nat) := none
deriving DecidableEq, Repr

/-- An event in progress at a channel (R122). -/
structure Event where
  /-- The slot copy it started with, 64 bytes (R125). -/
  prof : BitVec 512
  /-- Angle-ended (START_A). -/
  angle : Bool
  /-- Start at the die. -/
  start : Nat
  /-- Time end or maximum duration, module time; none for no limit. -/
  stop : Option Nat
  /-- Present phase and its start. -/
  phase : Nat := 0
  phaseAt : Nat := 0
  /-- The present phase runs from the battery because the rail was low (R135). -/
  starved : Bool := false
  /-- The event's first boost-using phase was starved (R133); none before one. -/
  altWin : Option Bool := none
  /-- A later boost-using phase has been blocked since this time (R129). -/
  blocked : Option Nat := none
  /-- The first BOOST or PEAK phase reached I_HI (R133). -/
  peaked : Bool := false
  /-- The switching element is on (R119), and since when. -/
  elOn : Bool := true
  elAt : Nat := 0
  /-- Landing detection still running (R148). -/
  detect : Option Detect := none
deriving DecidableEq, Repr

/-- The switches that the table of R117 turns on for one channel: the battery and the boost high-side of its quad that it
needs, its low-side and its recirculation switch, and its clamp path to the rail in use. -/
structure Drive where
  batt : Bool := false
  boost : Bool := false
  low : Bool := false
  recirc : Bool := false
  clamp : Bool := false
deriving DecidableEq, Repr

/-- A start that waits (R139). -/
structure WaitStart where
  cmd : DrvCmd
  lane : LaneId
  /-- Arrival ta at the die and earliest start tr, module time (R139). -/
  arrived : Nat
  earliest : Nat
  /-- Waiting for the quad since this time (R126). -/
  quadSince : Option Nat := none
deriving DecidableEq, Repr

/-- One actuator channel at its drive die. -/
structure Chan where
  /-- State; 05_actuator_channels.md R140; reset OFF. -/
  state : ChanState := .off
  /-- The die's copy of CHNn_CTRL; 05_actuator_channels.md R442; reset 0x0000_000C. -/
  ctrl : Word := 0xC
  /-- The die's copy of CHNn_OFFTIME; 05_actuator_channels.md R442; reset 0. -/
  offtime : Word := 0
  /-- The die's copy of CHNn_DUTY; 05_actuator_channels.md R442; reset 0. -/
  duty : Word := 0
  /-- The die's copy of CHNn_PKWIN; 05_actuator_channels.md R442; reset 0. -/
  pkwin : Word := 0
  /-- The die's copy of CHNn_PKWIN_ALT; 05_actuator_channels.md R442; reset 0. -/
  pkwinAlt : Word := 0
  /-- The eight slot copies; 05_actuator_channels.md R123, R125; reset empty. -/
  slots : Vector (Option (BitVec 512)) 8 := Vector.replicate 8 none
  /-- Event in progress; 05_actuator_channels.md R122; reset none. -/
  ev : Option Event := none
  /-- Waiting start; 05_actuator_channels.md R139; reset none. -/
  wait : Option WaitStart := none
  /-- End of the previous event; 05_actuator_channels.md R131; reset none. -/
  prevEnd : Option Nat := none
  /-- Start of the present decay; 05_actuator_channels.md R140; reset 0. -/
  decayAt : Nat := 0
  /-- The present decay is fast throughout; 05_actuator_channels.md R122; reset false. -/
  decayFast : Bool := false
  /-- MIX_T of the decaying event, 100 ns; 05_actuator_channels.md R117; reset 0. -/
  mixT : Nat := 0
  /-- Current still flows after an event, also while a start waits; 05_actuator_channels.md R139, R140; reset false. -/
  decaying : Bool := false
  /-- The last phase of the decaying event ran from the boost high-side; 05_actuator_channels.md R117; reset false. -/
  decayBoost : Bool := false
  /-- The edge at the end of the fast part of the present mixed decay has been taken; 05_actuator_channels.md R117, R118;
  reset false. -/
  mixSeen : Bool := false
  /-- BLANK of the current or last event's profile, in TCLK; 05_actuator_channels.md R118; reset 0. -/
  blank : Nat := 0
  /-- Start of the current or last event; 05_actuator_channels.md R122; reset 0. -/
  startAt : Nat := 0
  /-- State after the decay; 05_actuator_channels.md R140; reset IDLE. -/
  afterDecay : ChanState := .idle
  /-- Last current sample, 16 mA, the sum of a pair; 05_actuator_channels.md R118; reset 0. -/
  cur : Nat := 0
  /-- Consecutive OPEN results; 05_actuator_channels.md R133; reset 0. -/
  openRun : Nat := 0
  /-- A run of DUTY refusals is under way; 05_actuator_channels.md R132; reset false. -/
  dutyRun : Bool := false
  /-- On-time in TCLK by 1 ms bin of die time, newest first; 05_actuator_channels.md R132; reset empty. -/
  bins : List (Nat × Nat) := []
  /-- Samples are ignored until this time (BLANK after a switching edge); 05_actuator_channels.md R118; reset 0. -/
  blankTo : Nat := 0
  /-- Idle since; 05_actuator_channels.md R137; reset 0. -/
  idleAt : Nat := 0
  /-- CHNn_STATUS of the current or last event: STARVED, 1 bit; 05_actuator_channels.md R146; reset 0. -/
  starved : Bool := false
  /-- LATE, 1 bit; 05_actuator_channels.md R146; reset 0. -/
  late : Bool := false
  /-- SLOT, 3 bits; 05_actuator_channels.md R146; reset 0. -/
  slot : Nat := 0
  /-- CYC, 5 bits; 05_actuator_channels.md R146; reset 0. -/
  cyc : Nat := 0
  /-- INDEX, 3 bits; 05_actuator_channels.md R146; reset 0. -/
  idx : Nat := 0
  /-- LANE, 1 bit; 05_actuator_channels.md R146; reset A. -/
  lane : LaneId := .a
  /-- OSD, 2 bits; 05_actuator_channels.md R137, R146; reset 0. -/
  osd : Nat := 0
deriving DecidableEq, Repr

/-- One quad at its drive die. -/
structure Quad where
  /-- The die's copy of CHN_QUADq_CTRL; 05_actuator_channels.md R442; reset 0. -/
  ctrl : Word := 0
  /-- Time of the last off-state diagnosis; 05_actuator_channels.md R137; reset none. -/
  osdAt : Option Nat := none
deriving DecidableEq, Repr

/-- Gate states (R184). -/
inductive GateState where
  | off | idle | dwell | restrike | soft | fault
deriving DecidableEq, Repr

/-- How IGg is driven (R169): low, high, or as a continuous voltage closed-loop on IGSg, to limit it at I_TGT or to ramp it
down. -/
inductive GateDrive where
  | low | high | limit | ramp
deriving DecidableEq, Repr

/-- One ignition gate at its drive die. -/
structure Gate where
  /-- State; 08_ignition.md R184; reset OFF. -/
  state : GateState := .off
  /-- Settings of IGNg_CTRL in use; 08_ignition.md R185; reset 0x000A_0000. -/
  ctrl : Word := 0x000A0000
  /-- How IGg is driven; 08_ignition.md R169; reset low. -/
  drive : GateDrive := .low
  /-- Start of the dwell; 08_ignition.md R177; reset 0. -/
  td : Nat := 0
  /-- A spark held to the dwell floor until this time; 08_ignition.md R177; reset none. -/
  heldTo : Option Nat := none
  /-- Charge time once I_TGT is reached; 08_ignition.md R175; reset none. -/
  charged : Option Nat := none
  /-- The open check of this dwell has run; 08_ignition.md R182; reset false. -/
  openDone : Bool := false
  /-- Restrikes still to come; 08_ignition.md R178; reset 0. -/
  rsLeft : Nat := 0
  /-- Start of the present restrike gap or dwell; 08_ignition.md R178; reset 0. -/
  rsAt : Nat := 0
  /-- Start of the soft-abort ramp; 08_ignition.md R180; reset 0. -/
  softAt : Nat := 0
  /-- Sensed voltage at the start of the ramp, 2 mV; 08_ignition.md R180; reset 0. -/
  softI0 : Nat := 0
  /-- FAULT follows the ramp (SHORT or fencing), else IDLE, or OFF with EN = 0; 08_ignition.md R184; reset IDLE. -/
  afterSoft : GateState := .idle
  /-- Last sample of IGSg, 10 bits; 08_ignition.md R170, R185; reset 0. -/
  igs : BitVec 10 := 0
  /-- Time of that sample, or of the last DWELL; before the first of them IGS reads 0; 08_ignition.md R170, R185; reset none. -/
  igsAt : Option Nat := none
  /-- Time since which IGg is low with no sample of IGSg at or below I_LEAK; 08_ignition.md R182; reset 0. -/
  leakAt : Nat := 0
  /-- Peak IGS of the dwell in progress; 08_ignition.md R177; reset 0. -/
  peak : BitVec 10 := 0
  /-- LANE, 1 bit; 08_ignition.md R185; reset A. -/
  lane : LaneId := .a
  /-- SET, 3 bits; 08_ignition.md R185; reset 0. -/
  set : Nat := 0
  /-- CYC, 5 bits; 08_ignition.md R185; reset 0. -/
  cyc : Nat := 0
  /-- Entry index of the event, for fault messages; 12_faults.md R255; reset 0. -/
  idx : Nat := 0
deriving DecidableEq, Repr

/-- Boost controller states (R163). -/
inductive RailState where
  | off | ramp | reg | stopped
deriving DecidableEq, Repr

/-- One boost rail controller, on drive die 3k. -/
structure Rail where
  /-- State; 07_boost_rails.md R163; reset OFF. -/
  state : RailState := .off
  /-- Settings in use, BSTk_CTRL; 07_boost_rails.md R159; reset 0x001E_0100. -/
  ctrl : Word := 0x001E0100
  /-- Settings in use, BSTk_SET; 07_boost_rails.md R159; reset 0x0104_0050. -/
  set : Word := 0x01040050
  /-- Settings in use, BSTk_THRESH; 07_boost_rails.md R159; reset 0x0640_A050. -/
  thresh : Word := 0x0640A050
  /-- CHARGING, 1 bit; 07_boost_rails.md R160; reset 0. -/
  charging : Bool := false
  /-- Last measurement, 12 bits; 07_boost_rails.md R168; reset 0. -/
  v : Nat := 0
  /-- Time of the last measurement; 07_boost_rails.md R166; reset 0. -/
  vAt : Nat := 0
  /-- The measurement before it; 07_boost_rails.md R166; reset 0. -/
  vPrev : Nat := 0
  /-- Time EN was written 1, start of the ramp; 07_boost_rails.md R162; reset 0. -/
  enAt : Nat := 0
  /-- Rail voltage at the start of the ramp; 07_boost_rails.md R162; reset 0. -/
  v0 : Nat := 0
  /-- Since when the rail lies more than 10 V below the ramp target; 07_boost_rails.md R163; reset none. -/
  lagAt : Option Nat := none
  /-- Start of the charge in REG, or the entry to REG if later; 07_boost_rails.md R163; reset none. -/
  chargeAt : Option Nat := none
  /-- The FET is on; 07_boost_rails.md R161; reset off. -/
  fet : Bool := false
  /-- Time the FET last turned on or off; 07_boost_rails.md R161; reset 0. -/
  fetAt : Nat := 0
  /-- A write of BSTk_CTRL that a settings mismatch kept from the controller still counts when the lanes agree;
  07_boost_rails.md R159, R163; reset false. -/
  enOwed : Bool := false
  /-- TOFF of the present switching cycle, TCLK; 07_boost_rails.md R162; reset 1,200, that of TOFF. -/
  toffIn : Nat := 1200
  /-- ILIM in force, units of 5 mV; 07_boost_rails.md R162; reset 1, that of ILIM. -/
  ilimIn : Nat := 1
  /-- Consecutive cycles ended by the 10 µs limit; 07_boost_rails.md R161; reset 0. -/
  limitRun : Nat := 0
  /-- In over-voltage; 07_boost_rails.md R164; reset false. -/
  ov : Bool := false
  /-- Consecutive measurements below UV; 07_boost_rails.md R165; reset 0. -/
  uvRun : Nat := 0
  /-- UV was raised since the last return to at or above MIN; 07_boost_rails.md R165; reset false. -/
  uvRaised : Bool := false
deriving DecidableEq, Repr

/-- A command kept at a drive die (R237, R239). -/
structure Stored where
  lane : LaneId
  cmd : DrvCmd
  arrived : Nat
  /-- It takes part in the comparison and has no partner yet. -/
  open_ : Bool
  /-- It was executed. -/
  done : Bool
  /-- It is held unexecuted for a change of authority. -/
  held : Bool
deriving DecidableEq, Repr

/-- One drive die. -/
structure Die where
  /-- The voted value in force at the die; 11_lanes_junction.md R232, R233; reset no authority. -/
  auth : Voted := .none
  /-- Comparison state as last sent; 11_lanes_junction.md R236, R240; reset off. -/
  cmpOn : Bool := false
  /-- The lane that the last comparison state named as fenced; 11_lanes_junction.md R236; reset none. -/
  fencedLane : Option LaneId := none
  /-- Speed words of lane A and lane B, TCLK; 11_lanes_junction.md R236; reset DESIGN CHOICE 0, log entry 5. -/
  speedA : Nat := 0
  /-- See speedA. -/
  speedB : Nat := 0
  /-- Commands kept, oldest first; 11_lanes_junction.md R237; reset empty. -/
  store : List Stored := []
  /-- The three copies of the safe-state word; 12_faults.md R266; reset DESIGN CHOICE loaded, log entry 7. -/
  safe0 : Word := 0x5A0000FC
  /-- See safe0. -/
  safe1 : Word := 0x5A0000FC
  /-- See safe0. -/
  safe2 : Word := 0x5A0000FC
  /-- TEMP, 12 bits; 05_actuator_channels.md R146; reset 0. -/
  temp : BitVec 12 := 0
  /-- POWER, 12 bits; 05_actuator_channels.md R146; reset 0. -/
  power : BitVec 12 := 0
  /-- HOT, 1 bit; 05_actuator_channels.md R136; reset 0. -/
  hot : Bool := false
  /-- FENCED, 1 bit; 05_actuator_channels.md R136; reset 0. -/
  fenced : Bool := false
  /-- Spark sets in use: DWELL, LIMIT, DIAG and RS words; 08_ignition.md R185; reset 0, 0x1388_01F4, 0xFA00_A064, 0x0A00_0000. -/
  sets : Vector (Word × Word × Word × Word) 8 := Vector.replicate 8 (0, 0x138801F4, 0xFA00A064, 0x0A000000)
deriving DecidableEq, Repr

/-- A landing report (R150). -/
structure LandingReport where
  ch : Nat
  /-- 0 NONE, 1 LANDED, 2 MISSING. -/
  verdict : Nat
  x : Nat
  depth : Nat
  /-- The event's name of R105. -/
  name : Nat := 0
deriving DecidableEq, Repr

/-- A charge-time report (R175): charge time if I_TGT was reached before the spark. -/
structure ChargeReport where
  gate : Nat
  set : Nat
  x : Option Nat
deriving DecidableEq, Repr

/-- A write to a register that a drive die holds a copy of (R442). -/
structure DieWrite where
  addr : Nat
  v : Word
deriving DecidableEq, Repr

/-- A slot copy queued for distribution (R123). -/
structure SlotCopy where
  ch : Nat
  slot : Nat
  prof : Nat
deriving DecidableEq, Repr
/-! ### Junction and Crosswalk (11_lanes_junction.md) -/

/-- States of the Junction voters (R230). -/
inductive VoterState where
  | start
  | auth (l : LaneId)
  | coast
  | safe
deriving DecidableEq, Repr

/-- What the Junction holds of one lane. -/
structure JctLane where
  /-- Fence causes SILENT, DISPUTE, DIGEST, XWK, REJOIN from bit 0; 11_lanes_junction.md R234; reset 0. -/
  fence : BitVec 5 := 0
  /-- Module time of the last keep-alive toggle; 11_lanes_junction.md R227; reset 0. -/
  kaAt : Nat := 0
  /-- The keep-alive is lost; 11_lanes_junction.md R227; reset true (it has never toggled). -/
  kaLost : Bool := true
  /-- Eligible in START since; 11_lanes_junction.md R231; reset none. -/
  eligAt : Option Nat := none
deriving DecidableEq, Repr

/-- The Junction: three voters that sample the same inputs. -/
structure Junction where
  /-- State of the voters; 11_lanes_junction.md R230; reset START. -/
  state : VoterState := .start
  /-- Outputs of the three voters; 11_lanes_junction.md R232; reset no authority. -/
  v0 : VoterOut := .level .none
  /-- See v0. -/
  v1 : VoterOut := .level .none
  /-- See v0. -/
  v2 : VoterOut := .level .none
  /-- The voted value; 11_lanes_junction.md R232; reset no authority. -/
  voted : Voted := .none
  /-- Module time of the decision in force; 11_lanes_junction.md R233; reset 0. -/
  votedAt : Nat := 0
  /-- Start of the COAST timer; 11_lanes_junction.md R230; reset 0. -/
  coastAt : Nat := 0
  /-- The 20 µs of COAST have passed in this cycle, and other commands of the cycle may still make a lane eligible;
  01_architecture.md R20; reset false. -/
  coastOwed : Bool := false
  /-- Split shown in JCT_VOTE: 0 none, 1 2–1, 2 three-way; 11_lanes_junction.md R254; reset 0. -/
  split : Nat := 0
  /-- Odd voter of the last 2–1 split; 11_lanes_junction.md R254; reset 0. -/
  odd : Nat := 0
  /-- Lane A's part. -/
  a : JctLane := {}
  /-- Lane B's part. -/
  b : JctLane := {}
  /-- Health of the three voters as of the last decision; 11_lanes_junction.md R232; reset healthy. -/
  f0 : VoterFault := .healthy
  /-- See f0. -/
  f1 : VoterFault := .healthy
  /-- See f0. -/
  f2 : VoterFault := .healthy
  /-- Mismatches that await judgement, oldest first: since when, and at which die; 11_lanes_junction.md R238; reset none. -/
  judge : List (Nat × Nat) := []
  /-- The conditions of comparison but the route cycles held at the last look; 11_lanes_junction.md R240; reset false. -/
  cmpOk : Bool := false
  /-- Comparison active; 11_lanes_junction.md R240; reset false. -/
  cmpOn : Bool := false
deriving DecidableEq, Repr

/-- Heartbeat of a lane (R245). -/
structure Heartbeat where
  claim : BitVec 2
  ready : Bool
  odo : OdoState
  dir : Bool
  angle : Nat
  cycle : BitVec 32
  seq : BitVec 32
  mirror : Nat
  fatal : Bool
deriving DecidableEq, Repr

/-- A host access through the remote-lane window (R17): port and tag of the request. -/
structure RemoteReq where
  port : Nat
  tag : Nat
  isWrite : Bool
  addr : Nat
  len : Nat
  payload : List Byte
deriving DecidableEq, Repr

/-- A frame of the rejoin copy: what it carries was read in the lane in service as it left (R251). -/
inductive CopyFrame where
  /-- Bytes of the arrays: address, bytes and poison of each piece of a word. -/
  | mem (ws : List (Nat × List Byte × Bool))
  /-- RW fields of the registers from lo to before hi: those listed, and the rest at their reset values. -/
  | regs (lo hi : Nat) (rs : List (Nat × Word))
  /-- Active banks and pending commits of both sets, detours and detour requests. -/
  | routes (bankAh bankAs pendAh pendAs det detReq : BitVec 256)
  /-- Route cycles left of the cuts, by route. -/
  | cuts (cs : Vector Nat 240)
deriving DecidableEq, Repr

/-- Frames of the Crosswalk (R244). -/
inductive XMsg where
  | heartbeat (h : Heartbeat)
  | decision (d : Decision)
  /-- Guard verdict of a cylinder: cycle and trip (R223). -/
  | verdict (cyl : Nat) (cycle : BitVec 32) (trip : Bool)
  /-- A forwarded mirrored write, with its order number (R248). -/
  | fwdWrite (num : Nat) (port : Nat) (addr : Nat) (payload : List Byte)
  | fwdAck (num : Nat)
  | remote (r : RemoteReq)
  /-- Response to a remote access: status, INFO and data. -/
  | response (port tag : Nat) (status : Nat) (info : BitVec 32) (data : List Byte)
  /-- A remote target's line (R354). -/
  | line (target : Nat) (on : Bool)
  /-- Expiry of a host watchdog (R340). -/
  | silence (port : Nat)
  | copy (c : CopyFrame)
deriving DecidableEq, Repr

/-- State of the link (R245). -/
inductive LinkState where
  | down | train | up
deriving DecidableEq, Repr

/-- Mirror state (R248). -/
inductive MirrorState where
  | solo | rejoin | linked
deriving DecidableEq, Repr

/-- A forwarded write that the other lane has not acknowledged (R248, R249). -/
structure FwdWrite where
  num : Nat
  port : Nat
  tag : Nat
  /-- LANE_TIME at which the write arrived, for the round trip of XWK_LAT. -/
  sentAt : Nat
  /-- The write came through the remote-lane window of the other lane's port (R17). -/
  viaRemote : Bool
  /-- Its lane-local address and length (R342). -/
  addr : Nat
  len : Nat
deriving DecidableEq, Repr

/-- What one lane keeps of the Crosswalk. -/
structure Xwk where
  /-- Frames that have arrived or are on their way to this lane, in order; 11_lanes_junction.md R244; reset empty. -/
  rx : List XMsg := []
  /-- Frames that this lane has ready to send; they leave at the end of the command that made them; 11_lanes_junction.md R244; reset empty. -/
  tx : List XMsg := []
  /-- Consecutive missed heartbeat slots, 3 bits; 11_lanes_junction.md R245; reset 0. -/
  missed : Nat := 0
  /-- Consecutive good heartbeats in training; 11_lanes_junction.md R245; reset 0. -/
  good : Nat := 0
  /-- Time of the present heartbeat slot's begin; 11_lanes_junction.md R245; reset 0. -/
  slotAt : Nat := 0
  /-- Last heartbeat received; 11_lanes_junction.md R245, R247; reset none. -/
  hb : Option Heartbeat := none
  /-- Forwarded writes not yet acknowledged; 11_lanes_junction.md R248; reset empty. -/
  unacked : List FwdWrite := []
  /-- Number of the next forwarded write; 11_lanes_junction.md R248; reset 0. -/
  nextNum : Nat := 0
  /-- Failures of the frame in flight (R244), 0 to 4; 11_lanes_junction.md R244; reset 0. -/
  retries : Nat := 0
  /-- Module time at which the frame in flight was sent, or sent again; 11_lanes_junction.md R244; reset 0. -/
  frameAt : Nat := 0
  /-- LANE_TIME of the last heartbeat sent; 11_lanes_junction.md R245; reset 0. -/
  sentAt : Nat := 0
  /-- Pieces of the rejoin copy that have arrived at this lane; 11_lanes_junction.md R251; reset none. -/
  copyNext : Option Nat := none
  /-- Bytes of the rejoin copy sent or received; 11_lanes_junction.md R254; reset 0. -/
  progress : Nat := 0
  /-- The digest exchange with the link UP is done; 11_lanes_junction.md R250; reset false. -/
  exchanged : Bool := false
  /-- The lane has served alone, or become READY without the exchange, since the mirror was last LINKED; 11_lanes_junction.md R246, R248, R250; reset false. -/
  alone : Bool := false
  /-- Digest and sequence number were received from the other lane, and not yet resolved; 11_lanes_junction.md R250; reset none. -/
  digestIn : Option (BitVec 32 × BitVec 256) := none
deriving DecidableEq, Repr
/-! ### Host ports and the interrupt controller (15_host_ports.md, 16_interrupts.md) -/

/-- A response in a port's queue (R324, R329). -/
structure Resp where
  tag : Nat
  status : Nat
  data : List Byte
  info : BitVec 32
  /-- Its place in the order of completion (R328). -/
  num : Nat := 0
  /-- It has been delivered (R329). -/
  sent : Bool := false
deriving DecidableEq, Repr

/-- What a port does with a request that has no completion yet (R327 to R334). -/
inductive ReqKind where
  /-- Held back behind an action write: the frame's opcode and its fields (R331). -/
  | held (opcode : Nat) (f : Frame)
  /-- A mirrored write that the other lane has not acknowledged (R248), with its address and length. -/
  | mirrored (addr len : Nat)
  /-- An access through the remote-lane window (R17), with its address there. -/
  | remote (isWrite : Bool) (addr : Nat)
  /-- A FENCE with the tags of the writes it waits for and its single-lane mark (R333). -/
  | fence (covers : List Nat) (solo : Bool)
  /-- A STREAM that waits for its queue (R334). -/
  | stream (q len : Nat) (wait : Bool)
deriving DecidableEq, Repr

/-- A request in flight without a completion. -/
structure Req where
  tag : Nat
  kind : ReqKind
deriving DecidableEq, Repr

/-- One host port beside its registers. -/
structure Port where
  /-- Receiver in DOZE, 1 bit; 15_host_ports.md R339; reset 0. -/
  doze : Bool := false
  /-- The port has left DOZE and is not ready before this module time; 15_host_ports.md R339; reset none. -/
  wakeTo : Option Nat := none
  /-- Width of the last frame, 1 bit (true quad); 15_host_ports.md R345; reset 0. -/
  quad : Bool := false
  /-- Requests in flight without a completion, arrival order, at most 64; 15_host_ports.md R327; reset empty. -/
  reqs : List Req := []
  /-- Response queue in the order of the next block, at most 64; 15_host_ports.md R329; reset empty. -/
  queue : List Resp := []
  /-- How many the previous READ_RESP delivered; 15_host_ports.md R329; reset 0. -/
  lastDel : Nat := 0
  /-- RESP_SIG, 1 bit; 15_host_ports.md R336; reset 0. -/
  respSig : Bool := false
  /-- Expiry of the moderation timer, module time; 15_host_ports.md R336; reset none. -/
  modEnd : Option Nat := none
  /-- Entries not yet signalled; 15_host_ports.md R336; reset 0. -/
  unsig : Nat := 0
  /-- Expiry of the running watchdog, module time; 15_host_ports.md R340; reset none. -/
  wdEnd : Option Nat := none
  /-- Time left of a watchdog that DOZE suspends; 15_host_ports.md R339, R340; reset none. -/
  wdLeft : Option Nat := none
  /-- EXPIRED, 1 bit; 15_host_ports.md R340; reset 0. -/
  expired : Bool := false
  /-- Bytes of the last response block the port drove; 15_host_ports.md R325; reset empty. -/
  out : List Byte := []
  /-- The four stream queues: words with their poison marks; 15_host_ports.md R334; reset empty. -/
  streams : Vector (List (Word × Bool)) 4 := Vector.replicate 4 []
deriving DecidableEq, Repr

/-- The interrupt controller of one lane beside its registers. -/
structure Icu where
  /-- Pending bits of edge-sensed sources, 256 bits; 16_interrupts.md R347; reset 0. -/
  pend : BitVec 256 := 0
  /-- Last sensed level of every source, 256 bits; 16_interrupts.md R347, R356; reset DESIGN CHOICE 0, log entry 5. -/
  last : BitVec 256 := 0
  /-- Mode and mask registers written in the present PCLK, by address, with the value that is still in effect in it;
  16_interrupts.md R347, R352; reset none. -/
  old : List (Nat × Word) := []
  /-- In-service records of the five targets; 16_interrupts.md R350; reset none (0x3FF). -/
  recs : Vector (Option Nat) 5 := Vector.replicate 5 none
  /-- Lines of the other lane's targets for this lane's two ports, as last received; 16_interrupts.md R354; reset 0. -/
  remote : BitVec 2 := 0
  /-- Lines of this lane's remote targets, as last sent; 16_interrupts.md R354; reset 0. -/
  sent : BitVec 2 := 0
deriving DecidableEq, Repr
/-! ### Acquisition and combustion (09_acquisition.md, 10_combustion.md) -/

/-- Capture states of an angle channel (R203). -/
inductive CapState where
  | idle | armed | capture | cal
deriving DecidableEq, Repr

/-- A mark that awaits placement (R196). -/
structure AcMark where
  /-- Mark index. -/
  idx : Nat
  /-- Its exact instant ts, LANE_TIME. -/
  ts : Nat
  /-- It fired late. -/
  late : Bool
  /-- It found 8 marks waiting and is written as MISS (R197). -/
  lost : Bool
  /-- The cycle counter as it fired (R201). -/
  cycle : BitVec 32
  /-- It belongs to the open frame (R199). -/
  framed : Bool := false
deriving DecidableEq, Repr

/-- One angle channel of a lane beside its registers. -/
structure AcChan where
  /-- Capture state; 09_acquisition.md R203; reset IDLE. -/
  state : CapState := .idle
  /-- The main path is being refilled until this LANE_TIME; 09_acquisition.md R203; reset none. -/
  refill : Option Nat := none
  /-- A calibration commanded begins at the next MCLK edge; 09_acquisition.md R210; reset false. -/
  calDue : Bool := false
  /-- A calibration aborted a frame with RERUN = 0; 09_acquisition.md R203; reset false. -/
  calAbort : Bool := false
  /-- Outputs held, newest first, at most 32: calibrated unclamped value, completion time, overload; 09_acquisition.md R197; reset empty. -/
  outs : List (Int × Nat × Bool) := []
  /-- Marks that wait, oldest first; 09_acquisition.md R197; reset empty. -/
  marks : List AcMark := []
  /-- Marks taken into the open frame; 09_acquisition.md R199; reset 0. -/
  taken : Nat := 0
  /-- COUNT, sample words written to the open frame; 09_acquisition.md R201; reset 0. -/
  count : Nat := 0
  /-- SLOT, 4 bits; 09_acquisition.md R201; reset 0. -/
  slot : Nat := 0
  /-- Slot of the open frame; 09_acquisition.md R201; reset 0. -/
  frame : Nat := 0
  /-- FIRST of the open frame; 09_acquisition.md R201; reset 0. -/
  first : Nat := 0
  /-- Cycle counter at the opening mark of the open frame; 09_acquisition.md R201; reset 0. -/
  cycle : BitVec 32 := 0
  /-- The open frame was opened by a crossing; 09_acquisition.md R201; reset false. -/
  comp : Bool := false
  /-- OVR_ANY, LATE_ANY, MISS_ANY of the open frame; 09_acquisition.md R201; reset false. -/
  ovrAny : Bool := false
  /-- See ovrAny. -/
  lateAny : Bool := false
  /-- See ovrAny. -/
  missAny : Bool := false
  /-- No further mark enters the open frame, which closes ABORTED once its waiting marks are placed; 09_acquisition.md R203; reset false. -/
  closing : Bool := false
  /-- Time of a comparator crossing that awaits its opening mark; 09_acquisition.md R199; reset none. -/
  cross : Option Nat := none
  /-- The fast value lay below HI − 4 since the last crossing of HI; 09_acquisition.md R200; reset false. -/
  lay : Bool := false
  /-- The fast value lay above LO + 4 since the last crossing of LO; 09_acquisition.md R200; reset false. -/
  layHi : Bool := false
  /-- Coefficients of the last accepted self-calibration, OFS and GAIN; 09_acquisition.md R210; reset none (factory trim). -/
  coef : Option (BitVec 24 × BitVec 24) := none
deriving DecidableEq, Repr

/-- States of a scan modulator (R215 ADC_SCm_STAT). -/
inductive ScanState where
  | off | seq | inj | calWait | cal | idle
deriving DecidableEq, Repr

/-- One scan modulator of a lane beside its registers. -/
structure ScanMod where
  /-- State; 09_acquisition.md R215; reset OFF. -/
  state : ScanState := .off
  /-- Entry converting, or the resume entry, 5 bits; 09_acquisition.md R206; reset 0. -/
  entry : Nat := 0
  /-- Injected slot that converts now (in CAL_WAIT too), none for a sequence entry; 09_acquisition.md R205; reset none. -/
  inj : Option Nat := none
  /-- Pending slots, 4 bits; 09_acquisition.md R205; reset 0. -/
  pend : BitVec 4 := 0
  /-- A request arrived during the present sequence conversion, which it preempts at the next MCLK edge; 09_acquisition.md
  R206; reset false. -/
  pre : Bool := false
  /-- ADC_SCm_SEQe or ADC_SCm_INJk as the conversion now running began with it; 09_acquisition.md R204, R205; reset 0. -/
  conv : Word := 0
  /-- The injected conversion now running was delayed by calibration; 09_acquisition.md R211; reset false. -/
  convCald : Bool := false
  /-- Hardware advances of QRD in a PCLK, by LANE_TIME div 4: that PCLK and their number; 09_acquisition.md R208; reset 0. -/
  advAt : Nat := 0
  /-- See advAt. -/
  adv : Nat := 0
  /-- LANE_TIME at which a host write of QRD was applied ahead of an advance of its cycle; 09_acquisition.md R208; reset
  none. -/
  qrdFirst : Option Nat := none
  /-- Pending slots that calibration delayed; 09_acquisition.md R211; reset 0. -/
  cald : BitVec 4 := 0
  /-- A pass is in progress; 09_acquisition.md R204; reset false. -/
  pass : Bool := false
  /-- A pass trigger held during calibration or IDLE; 09_acquisition.md R211, R405; reset false. -/
  trig : Bool := false
  /-- Results were lost since the queue last had room; 09_acquisition.md R212; reset false. -/
  full : Bool := false
  /-- Coefficients of the last accepted self-calibration; 09_acquisition.md R210; reset none (factory trim). -/
  coef : Option (BitVec 24 × BitVec 24) := none
deriving DecidableEq, Repr

/-- What the combustion unit keeps of one frame (R216, R217). -/
structure CylAcc where
  /-- Settings latched at the opening: CTRL, PEG, WIN, LIMIT, CUT and PEGREF. -/
  ctrl : Word
  peg : Word
  win : Word
  limit : Word
  cut : Word
  pegref : Word
  acc : Int := 0
  sdv : Int := 0
  ps : Int := 0
  pn : Nat := 0
  /-- pmax with ipk and povr. -/
  pmax : Option (Int × Nat × Bool) := none
  /-- dmax with idp. -/
  dmax : Option (Int × Nat) := none
  xh : Int := 0
  /-- Samples received. -/
  n : Nat := 0
  /-- The last 9 samples, newest first; none for a missing one. -/
  last : List (Option Int) := []
deriving DecidableEq, Repr

/-- What the frame record hands on at the close (R202, R220). -/
structure FrameInfo where
  ach : Nat
  aborted : Bool
  first : Nat
  seq : BitVec 32
  cycle : BitVec 32
  ovrAny : Bool
  missAny : Bool
  lateAny : Bool
deriving DecidableEq, Repr

/-- One cylinder of the combustion unit. -/
structure Cyl where
  /-- Accumulation of the open frame; 10_combustion.md R216; reset none. -/
  cur : Option CylAcc := none
  /-- A closed frame whose summary is to be written; 10_combustion.md R219; reset none. -/
  closed : Option (CylAcc × FrameInfo) := none
  /-- Standby lane: own verdict that waits for the authority lane's: CYCLE, trip, LANE_TIME, and the CMBc_CUT it goes with; 10_combustion.md R223; reset none. -/
  own : Option (BitVec 32 × Bool × Nat × Word) := none
  /-- Verdicts that arrived before the own record: CYCLE and trip; 10_combustion.md R223; reset empty. -/
  early : List (BitVec 32 × Bool) := []
  /-- CYCLE of the record on which the lane acted alone, while its verdict may still come: that one is discarded;
  10_combustion.md R223; reset none. -/
  missed : Option (BitVec 32) := none
deriving DecidableEq, Repr

/-- Acquisition and combustion of one lane. -/
structure Acq where
  /-- Angle channels; 09_acquisition.md R186; reset as their fields. -/
  acs : Vector AcChan 24 := Vector.replicate 24 {}
  /-- Scan modulators; 09_acquisition.md R186; reset as their fields. -/
  scs : Vector ScanMod 8 := Vector.replicate 8 {}
  /-- Modulators whose calibration runs or is due (angle channels from bit 0, scan modulators from bit 24); 09_acquisition.md R209; reset 0. -/
  calRun : BitVec 32 := 0
  /-- Mark generators that have fired a mark, 8 bits; 09_acquisition.md R200; reset 0. -/
  fired : BitVec 8 := 0
  /-- Cylinders; 10_combustion.md R216; reset as their fields. -/
  cyls : Vector Cyl 24 := Vector.replicate 24 {}
deriving DecidableEq, Repr
/-! ### DMA, byway engines, two-wire bus (17_dma.md, 18_byways.md, 19_two_wire.md) -/

/-- States of a DMA channel (R368). -/
inductive DmaState where
  | idle | fetch | waitReq | move | waitFlow
deriving DecidableEq, Repr

/-- A 32-bit word in the DMA engine's buffer: where it was read, and whether it is poisoned (R358, R366). -/
structure DmaWord where
  addr : Nat
  word : Word
  poison : Bool
deriving DecidableEq, Repr

/-- One DMA channel beside its registers. -/
structure DmaChan where
  /-- State; 17_dma.md R368; reset IDLE. -/
  state : DmaState := .idle
  /-- CAUSE of the last stop, 4 bits; 17_dma.md R365; reset 0. -/
  cause : Nat := 0
  /-- Address of the current descriptor; 17_dma.md R370; reset 0. -/
  cur : Nat := 0
  /-- Words 0 to 4 of the current descriptor; 17_dma.md R361; reset 0. -/
  desc : Vector Word 5 := Vector.replicate 5 0
  /-- Bytes of the current descriptor written; 17_dma.md R359; reset 0. -/
  moved : Nat := 0
  /-- Its share of the engine's 16 KiB buffer, at most 2 KiB: read and not yet written, oldest first; 17_dma.md R358; reset
  empty. -/
  buf : List DmaWord := []
  /-- Running checksum before its final step; 17_dma.md R364; reset 0. -/
  chk : BitVec 32 := 0
  /-- LANE_TIME of the last response to an access; 17_dma.md R365; reset none. -/
  answerAt : Option Nat := none
  /-- A word of the current descriptor was poisoned; 17_dma.md R366; reset false. -/
  poison : Bool := false
  /-- The chain was started by the service core; 17_dma.md R361; reset false. -/
  byCore : Bool := false
deriving DecidableEq, Repr

/-- One byway engine beside its registers. -/
structure Byw where
  /-- PC, 5 bits; 18_byways.md R371; reset 0. -/
  pc : Nat := 0
  /-- G0 to G3, 32 bits each; 18_byways.md R371; reset 0. -/
  g : Vector Word 4 := Vector.replicate 4 0
  /-- C2, 0 to 32; 18_byways.md R371; reset 0. -/
  c2 : Nat := 0
  /-- C3, 0 to 32; 18_byways.md R371; reset 0. -/
  c3 : Nat := 0
  /-- LT, 32 bits; 18_byways.md R371; reset 0. -/
  lt : Word := 0
  /-- Receive queue, oldest first; 18_byways.md R380; reset empty. -/
  rx : List Word := []
  /-- Transmit queue, oldest first; 18_byways.md R380; reset empty. -/
  tx : List Word := []
  /-- Rate accumulator, 25 bits; 18_byways.md R372; reset 0. -/
  acc : Nat := 0
  /-- Engine cycles that have come due and are not yet carried out; 18_byways.md R372; reset 0. -/
  due : Nat := 0
  /-- Instruction latch, 24 bits; 18_byways.md R375; reset 0. -/
  latch : BitVec 24 := 0
  /-- The latched instruction stalls; 18_byways.md R375; reset false. -/
  stalled : Bool := false
  /-- The event a stalled WAIT waits for has come about since its first evaluation; 18_byways.md R378; reset false. -/
  seen : Bool := false
  /-- Idle engine cycles left; 18_byways.md R375; reset 0. -/
  idle : Nat := 0
  /-- HALTED; 18_byways.md R375; reset false. -/
  halted : Bool := false
  /-- Instruction injected for the next PCLK; 18_byways.md R382; reset none. -/
  inj : Option (BitVec 24) := none
  /-- Host words that a queue access of the engine in the same PCLK found in TX ahead of their own commands; 18_byways.md R380; reset 0. -/
  txEarly : Nat := 0
  /-- Host reads of RX that wait in the cycle, for which an engine push finds room; 18_byways.md R380; reset 0. -/
  rxEarly : Nat := 0
  /-- Words that the engine pulled from TX in the present PCLK; 18_byways.md R380; reset 0. -/
  pulled : Nat := 0
  /-- Words that the engine pushed into RX in the present PCLK; 18_byways.md R380; reset 0. -/
  pushed : Nat := 0
deriving DecidableEq, Repr

/-- States of the two-wire controller (R397). -/
inductive TwiState where
  | idle | check | waitBus | active | arbWait
deriving DecidableEq, Repr

/-- The two-wire block of one lane beside its registers. -/
structure Twi where
  /-- State of the controller; 19_two_wire.md R397; reset IDLE. -/
  state : TwiState := .idle
  /-- The command in progress as TWI_CCMD held it at GO; 19_two_wire.md R387; reset 0. -/
  cmd : Word := 0
  /-- Retries left of the command in progress; 19_two_wire.md R389; reset 0. -/
  retries : Nat := 0
  /-- A command is under way in CHECK: the lines are sampled before its START; 19_two_wire.md R394; reset false. -/
  go : Bool := false
  /-- LANE_TIME at which a transfer to the target last ended; 19_two_wire.md R395; reset none. -/
  heardAt : Option Nat := none
  /-- The bus is free; 19_two_wire.md R386; reset DESIGN CHOICE true, log entry 5. -/
  free : Bool := true
  /-- Target pointer, 16 bits; 19_two_wire.md R391; reset 0. -/
  ptr : Nat := 0
  /-- Bytes of TWI_CBUF that the controller's last command sent; 19_two_wire.md R387; reset empty. -/
  wrote : List Byte := []
  /-- Bytes that the target's last read transfer sent; 19_two_wire.md R392; reset empty. -/
  sent : List Byte := []
deriving DecidableEq, Repr

/-! ### Configuration store and monitor (14_start_up.md, 21_monitor.md) -/

/-- A sector of a written page (R300, R301). -/
structure NandSector where
  /-- Its 1,024 data bytes as programmed. -/
  data : List Byte
  /-- Which of its bits read wrong: data from 0, then in sector 0 the spare bytes 1 to 7, then parity. -/
  flips : List Nat := []
deriving DecidableEq, Repr

/-- A journal record (R311). -/
structure JRec where
  typ : Nat
  rseq : Nat
  time : BitVec 32
  payload : List Word
deriving DecidableEq, Repr

/-- The head and the good records of a journal page (R311). -/
structure JPage where
  pseq : Nat
  boot : Nat
  recs : List JRec
deriving DecidableEq, Repr

/-- A written page: spare bytes 0 to 4 as programmed and the sectors (R300). A page that is not listed is erased. -/
structure NandPage where
  marker : Byte := 0xFF
  kind : Byte
  slot : Nat := 0
  copy : Nat := 0
  idx : Nat := 0
  /-- The sectors; one beyond the list is erased. -/
  sectors : List NandSector
deriving DecidableEq, Repr

/-- What one copy of the parameter page lists (R298, R299). -/
structure NandParam where
  /-- Its ONFI CRC-16 is valid. -/
  crcOk : Bool := true
  /-- Page size in KiB. -/
  pageK : Nat := 16
  /-- Spare bytes per page. -/
  spare : Nat := 1216
  /-- Pages per block. -/
  ppb : Nat := 128
  /-- Blocks per logical unit. -/
  blocks : Nat := 1024
  /-- Two logical units. -/
  lun2 : Bool := false
  /-- Highest timing mode. -/
  tmode : Nat := 5
deriving DecidableEq, Repr

/-- The NAND device of a lane (R298, R299), outside the die. -/
structure Nand where
  /-- NFx_RB_N answers a RESET; 14_start_up.md R298; reset DESIGN CHOICE true, log entry 12. -/
  rb : Bool := true
  /-- READ ID answers with a valid ID; 14_start_up.md R298; reset DESIGN CHOICE true, log entry 12. -/
  idOk : Bool := true
  /-- The copies of the parameter page, in order; 14_start_up.md R298; reset DESIGN CHOICE three equal ones, log entry 12. -/
  params : List NandParam := [{}, {}, {}]
  /-- Timing mode that GET FEATURES reads back; 14_start_up.md R298; reset DESIGN CHOICE 0, log entry 12. -/
  mode : Nat := 0
  /-- Written pages by (unit × 4096 + block) × 512 + page, rising; 14_start_up.md R300; reset DESIGN CHOICE none (erased), log entry 12. -/
  pages : List (Nat × NandPage) := []
  /-- Blocks whose programs and erases fail, by unit × 4096 + block; 14_start_up.md R303; reset DESIGN CHOICE none, log entry 12. -/
  worn : List Nat := []
deriving DecidableEq, Repr

/-- What the loader, the store and the journal of a lane keep beside the CFG_ registers. -/
structure Store where
  /-- The device; 14_start_up.md R298; reset as its fields. -/
  nand : Nand := {}
  /-- The controller has discovered the device; 14_start_up.md R298, R403; reset false. -/
  found : Bool := false
  /-- The NAND page buffer, 32 KiB; 17_dma.md R360; reset none listed (reads 0), log entry 4. -/
  page : List Host.Cell := []
  /-- Start count BOOT; 14_start_up.md R311; reset 0. -/
  boot : Nat := 0
  /-- PSEQ of the next journal page; 14_start_up.md R311; reset 0. -/
  pseq : Nat := 0
  /-- RSEQ of the next record; 14_start_up.md R311; reset 0. -/
  rseq : Nat := 0
  /-- Ring position of the next page, in pages; 14_start_up.md R312; reset 0. -/
  head : Nat := 0
  /-- Records in the page buffer, oldest first, and LANE_TIME of the first; 14_start_up.md R313; reset empty. -/
  buf : List JRec := []
  /-- See buf. -/
  bufAt : Nat := 0
  /-- A CONTAINED or FATAL record is to be written at once; 14_start_up.md R313; reset false. -/
  urgent : Bool := false
  /-- LANE_TIME of each buffered page written within the last hour, newest first; 14_start_up.md R313; reset empty. -/
  pagesAt : List Nat := []
  /-- LANE_TIME of each immediate page written within the last hour, newest first; 14_start_up.md R313; reset empty. -/
  urgentAt : List Nat := []
  /-- LANE_TIME at which JOURNAL was last raised for a dropped record; 14_start_up.md R313; reset none. -/
  lostAt : Option Nat := none
  /-- Captures already copied into the journal, by class; 12_faults.md R262; reset none. -/
  capSeen : BitVec 3 := 0
  /-- Bad-block table; 14_start_up.md R303; reset empty. -/
  bad : List Nat := []
  /-- The store has a journal, so its bad-block table holds the factory marks; 14_start_up.md R303; reset false. -/
  formatted : Bool := false
  /-- Reads per block of the image region; 14_start_up.md R314; reset 0. -/
  reads : Vector Nat 128 := Vector.replicate 128 0
  /-- Time of the last patrol, scrub pass, snapshot and RUN record, LANE_TIME; 14_start_up.md R311 to R314; reset 0. -/
  patrolAt : Nat := 0
  /-- Patrol position: (unit × 4096 + block) × 512 + page from which the next patrol reads on; 14_start_up.md R311, R314; reset 0. -/
  patrolPos : Nat := 0
  /-- See patrolAt. -/
  scrubAt : Nat := 0
  /-- See patrolAt. -/
  snapAt : Nat := 0
  /-- See patrolAt. -/
  runAt : Nat := 0
  /-- MEM_REMAPi and MEM_ERASE as of the last snapshot; 14_start_up.md R312; reset none. -/
  snapMap : List Word := []
  /-- A snapshot is due after the release; 14_start_up.md R312; reset false. -/
  snapDue : Bool := false
  /-- Shared SRAM areas of the running image, base and length; 14_start_up.md R306; reset none. -/
  shared : List (Nat × Nat) := []
  /-- Start block of the running copy, none without an image; 14_start_up.md R309; reset none. -/
  image : Option Nat := none
  /-- The repair after the release has been done; 14_start_up.md R310; reset false. -/
  repaired : Bool := false
  /-- The install in progress: the staged image's bytes as read at its start; 14_start_up.md R315; reset none. -/
  install : Option (List Byte) := none
deriving DecidableEq, Repr

/-- Lock states (R415, R422). -/
inductive LockState where
  | opened | locked | sealed | erasing
deriving DecidableEq, Repr

/-- A reply of the monitor (R413). -/
inductive MonReply where
  | none
  | ok (vals : List Word)
  | er (code : Nat)
deriving DecidableEq, Repr

/-- One of the three copies of a lane's fuse rows (R292, R293). -/
structure FuseCopy where
  /-- Options row, laid out as MON_OPT but for VARIANT; 14_start_up.md R292; reset unprogrammed, TMODE_MAX 5. -/
  opt : Word := 5
  /-- Bits in which the identity row differs from the identity programmed; 14_start_up.md R292; reset DESIGN CHOICE 0, log entry 6. -/
  idErr : BitVec 64 := 0
  /-- Safe-state word row; 12_faults.md R266; reset 0x5A00_00FC. -/
  safe : Word := 0x5A0000FC
  /-- Bits in which the trim rows (reference oscillator, root PLL, always-on oscillator, sensor front-end thresholds) differ
  from the trims programmed; 14_start_up.md R292; reset DESIGN CHOICE 0, log entry 6. -/
  trimErr : BitVec 128 := 0
  /-- Bits in which the sigma-delta factory offset and gain rows differ from the trims programmed, 24 bits each: offset and gain
  of angle channel a from bit 48 a, of scan modulator m from bit 1152 + 48 m; 14_start_up.md R292; reset DESIGN CHOICE 0, log
  entry 6. -/
  sdErr : BitVec 1536 := 0
  /-- The TMODE_MAX fuses are programmed; 21_monitor.md R414; reset false. -/
  tmodeSet : Bool := false
  /-- Seal fuse; 21_monitor.md R415, R420; reset false. -/
  sealed : Bool := false
deriving DecidableEq, Repr

/-- An access of the monitor that waits for the end of the memory initialisation (R290). -/
structure MonWait where
  addr : Nat
  /-- Words to read. -/
  count : Nat
  /-- The word to write, of a WR. -/
  wr : Option Word
deriving DecidableEq, Repr

/-- Fuses, key store and monitor of a lane. -/
structure Mon where
  /-- The three copies of the fuse rows; 14_start_up.md R293; reset unprogrammed, log entry 6. -/
  fuse : Vector FuseCopy 3 := Vector.replicate 3 {}
  /-- Lock state; 21_monitor.md R415; reset OPEN (as delivered). -/
  lock : LockState := .opened
  /-- KA, empty when absent; 14_start_up.md R292; reset absent (as delivered). -/
  ka : List Byte := []
  /-- KE, empty when absent; 14_start_up.md R292; reset absent. -/
  ke : List Byte := []
  /-- KC, empty when absent; 14_start_up.md R292; reset absent. -/
  kc : List Byte := []
  /-- FAILS, 0 to 8; 21_monitor.md R416; reset 0. -/
  fails : Nat := 0
  /-- HOLD, 1 bit; 21_monitor.md R418; reset 0. -/
  hold : Bool := false
  /-- Valid nonce with the module time of its CHAL; 21_monitor.md R416; reset none. -/
  nonce : Option (List Byte × Nat) := none
  /-- End of the challenge delay, module time; 21_monitor.md R416; reset none. -/
  delay : Option Nat := none
  /-- Last reply line; 21_monitor.md R413; reset none. -/
  reply : MonReply := .none
  /-- An access that waits for the memory initialisation; 13_memory.md R290; reset none. -/
  wait : Option MonWait := none
deriving DecidableEq, Repr

/-- Power, clocks and what the always-on part of a lane keeps beside the CLK_ and FLT_ registers. -/
structure Power where
  /-- The lane is in IDLE; 20_clocks_power.md R405; reset false. -/
  idle : Bool := false
  /-- Module time of the check of an accepted standby request, while entry is in progress; 20_clocks_power.md R406; reset none. -/
  entry : Option Nat := none
  /-- A privileged source has started the wake; 20_clocks_power.md R409; reset false. -/
  waking : Bool := false
  /-- PLL_LOCK of CLK_STAT, 1 bit; 20_clocks_power.md R411; reset 0. -/
  pll : Bool := false
  /-- REF_OK of CLK_STAT, 1 bit; 20_clocks_power.md R411; reset 0. -/
  ref : Bool := false
  /-- The present start is a cold one; 14_start_up.md R294; reset false. -/
  cold : Bool := false
  /-- Module time of the start under way, for CFG_BOOT.TIME; 14_start_up.md R294; reset 0. -/
  startAt : Nat := 0
  /-- Module time at which the present attempt of the PLL to lock began; 20_clocks_power.md R400; reset 0. -/
  pllAt : Nat := 0
  /-- A clock fault has been recorded and awaits the warm reset; 20_clocks_power.md R399; reset false. -/
  clockFault : Bool := false
  /-- Module time at which the clock monitor last found a deviation, or the PLL lost lock; 20_clocks_power.md R399; reset
  none. -/
  devAt : Option Nat := none
  /-- The present start is the warm reset that a clock fault brought; 20_clocks_power.md R399; reset false. -/
  byClock : Bool := false
  /-- Module time at which the service-core watchdog was last restarted; 20_clocks_power.md R401; reset 0. -/
  coreAt : Nat := 0
  /-- Expiry of the wake timer, module time; 20_clocks_power.md R406; reset none. -/
  wakeAt : Option Nat := none
  /-- VSUP lies below LO, above HI, as last measured; 20_clocks_power.md R410; reset false. -/
  supLo : Bool := false
  /-- See supLo. -/
  supHi : Bool := false
deriving DecidableEq, Repr

/-- A sensor supply output SUPx (R429). -/
structure Sup where
  /-- The output is on; 22_electrical.md R429; reset DESIGN CHOICE on, log entry 5. -/
  on : Bool := true
  /-- Module time of a thermal shutdown, none otherwise; 22_electrical.md R429; reset none. -/
  hotAt : Option Nat := none
  /-- The pin was above 5.5 V when the output last turned off; 22_electrical.md R423; reset false. -/
  overV : Bool := false
deriving DecidableEq, Repr
/-! ### The lane -/

/-- How far a lane die is from running (R294, R399 to R411). -/
inductive LaneRun where
  /-- No supply, or not yet powered up. -/
  | off
  /-- Cold power-up under way: memories are being cleared and the PLL has not locked. -/
  | init
  /-- Held in reset, the clocks stopped (PLL not locked, fuse row without majority, clock fault). -/
  | stopped
  /-- The PLL is locked and the lane's clocks run. -/
  | running
  /-- Standby: only the always-on part runs. -/
  | standby
deriving DecidableEq, Repr

/-- One lane die. -/
structure Lane where
  /-- Whether the lane runs; 20_clocks_power.md R405; reset off. -/
  run : LaneRun := .off
  /-- LANE_TIME, 64 bits, kept unwrapped; 01_architecture.md R19; reset 0. -/
  time : Nat := 0
  /-- Registers that software writes, events and counters; every register table of spec/; reset values of the tables. -/
  regs : RegFile := []
  /-- Addresses of LOCK registers already written; 01_architecture.md R7; reset none. -/
  locked : List Nat := []
  /-- Event bits that hardware set in the present cycle, by register; 01_architecture.md R21; reset none. -/
  fresh : List (Nat × BitVec 32) := []
  /-- Odometer; 02_wheels.md, 03_odometer_angle.md; reset as its fields. -/
  odo : Odo := {}
  /-- Scheduler; 04_waypoints_routes.md; reset as its fields. -/
  sched : Sched := {}
  /-- Arrays; 13_memory.md; reset as its fields. -/
  mem : Mem := {}
  /-- READY; 14_start_up.md R294; reset false. -/
  ready : Bool := false
  /-- Silenced by LANE_SILENT, until a restart; 11_lanes_junction.md R229; reset false. -/
  silenced : Bool := false
  /-- The lane can take authority and presents STANDBY; 11_lanes_junction.md R227, R250; reset false. -/
  standby : Bool := false
  /-- Triplicated words: fuse options, identity, authority state (the lane's view of the voted value in [1:0] and its own claim
  code in [3:2]; 11_lanes_junction.md R232), digest and sequence number; 13_memory.md R289; reset DESIGN CHOICE 0, log entry 5. -/
  triples : Vector Triple 4 := Vector.replicate 4 ⟨0, 0, 0⟩
  /-- Items of R289 that hold no two equal copies and were reported; 13_memory.md R289; reset none. -/
  tripleBad : BitVec 4 := 0
  /-- The lane's three copies of the safe-state word; 12_faults.md R266; reset DESIGN CHOICE loaded, log entry 7. -/
  safeW : Vector Word 3 := Vector.replicate 3 0x5A0000FC
  /-- Trim registers: reference oscillator, root PLL, always-on oscillator, sensor front-end thresholds; 14_start_up.md R292;
  reset DESIGN CHOICE 0 until the fuse load, log entry 3. -/
  trim : Vector Word 4 := Vector.replicate 4 0
  /-- Trim registers of the sigma-delta modulators, as bits in which they differ from the trims programmed; 14_start_up.md R292;
  reset DESIGN CHOICE 0 until the fuse load, log entry 3. -/
  sdTrim : BitVec 1536 := 0
  /-- The lane has sent its report of R250 (it stands at step 6 or beyond, or stopped at step 4), LANE_TIME of it; 14_start_up.md R297; reset none. -/
  reported : Option Nat := none
  /-- Crosswalk side of the lane; 11_lanes_junction.md R244 to R251; reset as its fields. -/
  xwk : Xwk := {}
  /-- Route cycles for which each route is still cut, the present one included, plus one before its first counted start; 10_combustion.md R222; reset 0. -/
  cuts : Vector Nat 240 := Vector.replicate 240 0
  /-- Standby lane: the starts of a cylinder's routes that the latched CMBc_CUT of its record names wait for the guard
  verdict; 10_combustion.md R216, R223; reset none. -/
  cutWait : Vector (Option Word) 24 := Vector.replicate 24 none
  /-- Opening-delay estimates as they stood before a report of the present TCLK; 06_armature_landing.md R152; reset empty. -/
  estOld : List (Nat × BitVec 32) := []
  /-- Words of byway instruction memory as they stood before a write of the present PCLK; 18_byways.md R383; reset empty. -/
  imemOld : List (Nat × Word) := []
  /-- Byway pin latches that an engine wrote in the present PCLK, each with one more than the engine's number: output latch p as
  p, direction latch p as 16 + p; 18_byways.md R379; reset empty. -/
  pinOwn : List (Nat × Nat) := []
  /-- Byway flags that a WAIT cleared in the present PCLK, 8 bits; 18_byways.md R378; reset 0. -/
  flagWas : BitVec 8 := 0
  /-- Landing reports on their way to this lane, oldest first; 06_armature_landing.md R150; reset empty. -/
  landingQ : List LandingReport := []
  /-- Charge-time reports on their way to this lane, oldest first; 08_ignition.md R175; reset empty. -/
  chargeQ : List ChargeReport := []
  /-- Functions whose registers went back to their reset values in this lane, by the first register's address, and when: the
  lane's view of what a die reported before is gone; 05_actuator_channels.md R144, 20_clocks_power.md R402; reset empty. -/
  viewAt : List (Nat × Nat) := []
  /-- Setting writes on their way to each drive die, oldest first; 05_actuator_channels.md R442; reset empty. -/
  dieWrites : Vector (List DieWrite) 12 := Vector.replicate 12 []
  /-- Slot copies queued for each drive die, oldest first; 05_actuator_channels.md R123, R125; reset empty. -/
  pdQ : Vector (List SlotCopy) 12 := Vector.replicate 12 []
  /-- Rails whose BSTk_CTRL was written and not yet taken by the controller; 07_boost_rails.md R159; reset none. -/
  railSent : BitVec 4 := 0
  /-- Interrupt controller; 16_interrupts.md; reset as its fields. -/
  icu : Icu := {}
  /-- Acquisition and combustion; 09_acquisition.md, 10_combustion.md; reset as its fields. -/
  acq : Acq := {}
  /-- DMA channels; 17_dma.md; reset as their fields. -/
  dma : Vector DmaChan 16 := Vector.replicate 16 {}
  /-- The channel at which the next round of the DMA engine's arbitration begins, 0 to 15; 17_dma.md R358; reset DESIGN CHOICE
  0, log entry 24. -/
  dmaTurn : Nat := 0
  /-- Byway engines; 18_byways.md; reset as their fields. -/
  byw : Vector Byw 8 := Vector.replicate 8 {}
  /-- Filtered byway inputs, 16 bits; 18_byways.md R377; reset 0. -/
  pins : BitVec 16 := 0
  /-- Stamps of the last rising and falling transition of each byway pin; 18_byways.md R377; reset DESIGN CHOICE 0, log entry 5. -/
  rises : Vector Word 16 := Vector.replicate 16 0
  /-- See rises. -/
  falls : Vector Word 16 := Vector.replicate 16 0
  /-- Two-wire block; 19_two_wire.md; reset as its fields. -/
  twi : Twi := {}
  /-- Configuration store; 14_start_up.md; reset as its fields. -/
  store : Store := {}
  /-- Fuses, key store and monitor; 21_monitor.md; reset as its fields. -/
  mon : Mon := {}
  /-- Power and clocks; 20_clocks_power.md; reset as its fields. -/
  power : Power := {}
  /-- Self-test items tested in the present round; 12_faults.md R270; reset none. -/
  bistDone : BitVec 10 := 0
  /-- LANE_TIME at which the present round began; 12_faults.md R270; reset 0. -/
  bistAt : Nat := 0
  /-- Fault messages queued at the collector, arrival order, at most 32; 12_faults.md R258; reset empty. -/
  fltQ : List FaultMsg := []
  /-- CONTAINED and FATAL messages that their sources hold; 12_faults.md R258; reset empty. -/
  fltHeld : List FaultMsg := []
deriving DecidableEq, Repr

/-! ### The module -/

/-- The whole module: two lanes, the drive dies, the Junction, and the queue of waiting commands. -/
structure State where
  /-- Module time in TCLK; 01_architecture.md R19; reset 0. -/
  now : Nat := 0
  /-- The S variant, with Lane A alone; 00_scope.md R1; reset DESIGN CHOICE false (the D variant), log entry 6. -/
  variantS : Bool := false
  /-- Lane A. -/
  laneA : Lane := {}
  /-- Lane B. -/
  laneB : Lane := {}
  /-- Actuator channels at the drive dies; 05_actuator_channels.md; reset as its fields. -/
  chans : Vector Chan 192 := Vector.replicate 192 {}
  /-- Quads; 05_actuator_channels.md; reset as its fields. -/
  quads : Vector Quad 48 := Vector.replicate 48 {}
  /-- Ignition gates; 08_ignition.md; reset as its fields. -/
  gates : Vector Gate 48 := Vector.replicate 48 {}
  /-- Boost rail controllers; 07_boost_rails.md; reset as its fields. -/
  rails : Vector Rail 4 := Vector.replicate 4 {}
  /-- Drive dies; 11_lanes_junction.md R232 to R240; reset as its fields. -/
  dies : Vector Die 12 := Vector.replicate 12 {}
  /-- Sensor supply outputs; 22_electrical.md R429; reset as their fields. -/
  sups : Vector Sup 8 := Vector.replicate 8 {}
  /-- VSUP is below 7.0 V, so every drive die switch is off; 22_electrical.md R426, R428; reset DESIGN CHOICE false, log entry
  111. -/
  vsupLow : Bool := false
  /-- Host ports H0 to H3; 15_host_ports.md; reset as their fields. -/
  ports : Vector Port 4 := Vector.replicate 4 {}
  /-- The Junction; 11_lanes_junction.md R230; reset START. -/
  jct : Junction := {}
  /-- Preferred-lane fuse; 00_scope.md R5, 11_lanes_junction.md R231; reset DESIGN CHOICE Lane A, log entry 6. -/
  pref : LaneId := .a
  /-- State of the Crosswalk link, as both lanes see it; 11_lanes_junction.md R245; reset DOWN. -/
  link : LinkState := .down
  /-- Mirror state, shared by both lanes; 11_lanes_junction.md R248; reset SOLO. -/
  mirror : MirrorState := .solo
  /-- The model's own counter of free values drawn; reset DESIGN CHOICE 0, log entry 2. -/
  freeCount : Nat := 0
  /-- Commands waiting, first in first out. -/
  pending : List Instr := []
deriving DecidableEq, Repr

/-- The module before any command: every field at its reset value, no supply yet (COLD_POWER_UP starts the lanes),
memory with nothing listed, and no command waiting. -/
def State.reset : State := {}

end Sys2Proof.Machine
end

