-- ==== Sys2Proof/Machine/Cells.lean ====
section
/-! DEFINITION. Byte cells in their canonical form: addresses strictly rising, no entry equal to the 0 that an
unlisted address reads as (R22). -/

namespace Sys2Proof.Machine

/-- A byte store. -/
abbrev Cells := List Host.Cell

/-- The canonical form. -/
def Cells.wf : Cells → Bool
  | [] => true
  | [(_, v)] => v != 0
  | (a, v) :: (b, w) :: r => v != 0 && decide (a < b) && Cells.wf ((b, w) :: r)

/-- Read a byte: 0 where nothing is listed. -/
def Cells.get (m : Cells) (a : Nat) : Byte := (m.lookup a).getD 0

/-- Insert in address order, replacing an entry of the same address. -/
def Cells.insert (a : Nat) (v : Byte) : Cells → Cells
  | [] => [(a, v)]
  | (b, w) :: r => if a < b then (a, v) :: (b, w) :: r else if a = b then (a, v) :: r else (b, w) :: Cells.insert a v r

/-- Write a byte, keeping the canonical form. -/
def Cells.set (m : Cells) (a : Nat) (v : Byte) : Cells :=
  if v = 0 then m.filter (fun e => e.1 != a) else Cells.insert a v m

/-- Write bytes from an address upwards. -/
def Cells.setMany (m : Cells) (a : Nat) : List Byte → Cells
  | [] => m
  | b :: bs => Cells.setMany (m.set a b) (a + 1) bs

/-- Read n bytes from an address upwards. -/
def Cells.getMany (m : Cells) (a n : Nat) : List Byte := (List.range n).map fun i => m.get (a + i)

end Sys2Proof.Machine
end

