-- ==== Sys2Proof/Machine/Code.lean ====
section
/-! DEFINITION. The symbol code of the arrays: RS(19,16) over GF(2^8) with the polynomial 0x11D (R274 to R276). -/

namespace Sys2Proof.Machine

/-- Multiply by α = 0x02. -/
def gfX (a : BitVec 8) : BitVec 8 := if a.getLsbD 7 then (a <<< 1) ^^^ 0x1D else a <<< 1

/-- Product in GF(2^8). -/
def gfMul (a b : BitVec 8) : BitVec 8 :=
  ((List.range 8).foldl (fun (p : BitVec 8 × BitVec 8) i => (if b.getLsbD i then p.1 ^^^ p.2 else p.1, gfX p.2)) (0, a)).1

/-- α to the power n. -/
def gfPow (n : Nat) : BitVec 8 := Nat.repeat gfX n 1

/-- The inverse of a non-zero element, a to the power 254. -/
def gfInv (a : BitVec 8) : BitVec 8 := Nat.repeat (gfMul a) 254 1

/-- Data symbol b, or check symbol b − 16, of a stored word (R273). -/
def symbolOf (d : BitVec 128) (c : BitVec 24) (k : Nat) : BitVec 8 :=
  if k < 16 then d.extractLsb' (8 * k) 8 else c.extractLsb' (8 * (k - 16)) 8

/-- The stored word with an error added to symbol k. -/
def fixSymbol (d : BitVec 128) (c : BitVec 24) (k : Nat) (e : BitVec 8) : BitVec 128 × BitVec 24 :=
  if k < 16 then (d ^^^ (e.setWidth 128 <<< (8 * k)), c) else (d, c ^^^ (e.setWidth 24 <<< (8 * (k - 16))))

/-- Locator of symbol k (R274). -/
def locator (k : Nat) : BitVec 8 := gfPow (if k < 16 then k + 3 else k - 16)

/-- Symbols by falling power of x: data 15 to 0, then check 2 to 0. -/
def symbolsDown (d : BitVec 128) (c : BitVec 24) : List (BitVec 8) :=
  (List.range 16).map (fun i => symbolOf d c (15 - i)) ++ [symbolOf d c 18, symbolOf d c 17, symbolOf d c 16]

/-- The three check bytes of a data word (R274): the remainder by x³ + 7x² + 14x + 8, byte i for c_i. -/
def checkBytes (d : BitVec 128) : BitVec 24 :=
  let r := (List.range 16).foldl
    (fun (r : BitVec 8 × BitVec 8 × BitVec 8) i =>
      let fb := symbolOf d 0 (15 - i) ^^^ r.2.2
      (gfMul fb 8, r.1 ^^^ gfMul fb 14, r.2.1 ^^^ gfMul fb 7)) (0, 0, 0)
  r.2.2 ++ r.2.1 ++ r.1

/-- Syndromes S0, S1, S2 (R274). -/
def syndromes (d : BitVec 128) (c : BitVec 24) : BitVec 8 × BitVec 8 × BitVec 8 :=
  (symbolsDown d c).foldl (fun s x => (s.1 ^^^ x, gfX s.2.1 ^^^ x, gfX (gfX s.2.2) ^^^ x)) (0, 0, 0)

/-- Check bytes of a poisoned word: all inverted (R275). -/
def poisonCheck (d : BitVec 128) : BitVec 24 := ~~~(checkBytes d)

/-- The syndrome of poison (R275): that of inverted check bytes over zero data. -/
def poisonSyndrome : BitVec 8 × BitVec 8 × BitVec 8 := syndromes 0 0xFFFFFF

/-- What a decode finds (R276). -/
inductive Decoded where
  | clean
  | corrected (d : BitVec 128) (c : BitVec 24) (macros : List Nat)
  | poison
  | uncorrectable
deriving DecidableEq, Repr

/-- Decode without an erasure (R276). -/
def decodePlain (d : BitVec 128) (c : BitVec 24) (s : BitVec 8 × BitVec 8 × BitVec 8) : Decoded :=
  if s = poisonSyndrome then .poison
  else if s.1 = 0 || s.2.1 = 0 then .uncorrectable
  else
    match (List.range 19).find? fun j => gfMul (locator j) s.1 = s.2.1 && gfMul (locator j) s.2.1 = s.2.2 with
    | some j => let r := fixSymbol d c j s.1; .corrected r.1 r.2 [j]
    | none => .uncorrectable

/-- Decode with macro f erased (R276). -/
def decodeErased (f : Nat) (d : BitVec 128) (c : BitVec 24) (s : BitVec 8 × BitVec 8 × BitVec 8) : Decoded :=
  let xf := locator f
  let q0 := s.1 ^^^ poisonSyndrome.1
  let q1 := s.2.1 ^^^ poisonSyndrome.2.1
  let q2 := s.2.2 ^^^ poisonSyndrome.2.2
  if q1 = gfMul xf q0 && q2 = gfMul xf q1 then .poison
  else
    let t0 := s.2.1 ^^^ gfMul xf s.1
    let t1 := s.2.2 ^^^ gfMul xf s.2.1
    if t0 = 0 && t1 = 0 then let r := fixSymbol d c f s.1; .corrected r.1 r.2 [f]
    else if t0 = 0 then .uncorrectable
    else
      match (List.range 19).find? fun j => j != f && gfMul (locator j) t0 = t1 with
      | some j =>
        let ej := gfMul t0 (gfInv (locator j ^^^ xf))
        let r := fixSymbol d c j ej
        let r' := fixSymbol r.1 r.2 f (s.1 ^^^ ej)
        .corrected r'.1 r'.2 [j, f]
      | none => .uncorrectable

/-- Decode a stored word; f is the erased macro of its array (R276). -/
def decodeWord (f : Option Nat) (d : BitVec 128) (c : BitVec 24) : Decoded :=
  let s := syndromes d c
  if s = (0, 0, 0) then .clean
  else
    match f with
    | none => decodePlain d c s
    | some f => decodeErased f d c s

end Sys2Proof.Machine
end

