-- ==== Sys2Proof/Machine/Ops.lean ====
section
/-! DEFINITION. Named operations on lanes, registers, vectors and free values. -/

namespace Sys2Proof.Machine

/-! ### Lanes -/

/-- The lane die named. -/
def State.lane (s : State) : LaneId → Lane
  | .a => s.laneA
  | .b => s.laneB

/-- Put a lane die back. -/
def State.setLane (s : State) (l : LaneId) (x : Lane) : State :=
  match l with
  | .a => { s with laneA := x }
  | .b => { s with laneB := x }

/-- Change one lane die. -/
def State.upd (s : State) (l : LaneId) (f : Lane → Lane) : State := s.setLane l (f (s.lane l))

/-- The other lane (R1). -/
def otherLane : LaneId → LaneId
  | .a => .b
  | .b => .a

/-- Number of a lane: 0 for A, 1 for B. -/
def laneNum : LaneId → Nat
  | .a => 0
  | .b => 1

/-- The lane that holds a host port (R6): Lane A has H0 and H1. -/
def portLane (p : Fin 4) : LaneId := if p.val < 2 then .a else .b

/-- The lane die is fitted in this variant (R1). -/
def State.fitted (s : State) (l : LaneId) : Bool := l == .a || !s.variantS

/-- A command of lane l: a fault where the variant has no such lane, else the next state (R1). -/
def onLane (l : LaneId) (s : State) (f : State → State) : Host.Outcome State Fault Refusal :=
  if s.fitted l then .next (f s) else .fault .laneNotFitted

/-- The lane's clocks run (R294, R399, R405). -/
def Lane.on (L : Lane) : Bool := L.run == .running

/-- A lane's clocks count LANE_TIME: it runs, or its entry to STANDBY is still in progress (R19, R406). -/
def Lane.counts (L : Lane) : Bool := L.on || (L.run == .standby && L.power.entry.isSome)

/-- A command that the lane carries out only while its clocks run; otherwise nothing happens. -/
def whenOn (l : LaneId) (s : State) (f : State → State) : Host.Outcome State Fault Refusal :=
  onLane l s fun s => if (s.lane l).on then f s else s

/-! ### Registers -/

/-- Read a register of the file. -/
def Lane.reg (L : Lane) (a : Nat) : Word := L.regs.get a

/-- Write a register of the file. -/
def Lane.setReg (L : Lane) (a : Nat) (v : Word) : Lane := { L with regs := L.regs.set a v }

/-- A field of a register. -/
def Lane.fld (L : Lane) (a lo w : Nat) : Nat := bits (L.reg a) lo w

/-- One bit of a register. -/
def Lane.bit (L : Lane) (a i : Nat) : Bool := (L.reg a).getLsbD i

/-- Write a field of a register. -/
def Lane.setFld (L : Lane) (a lo w x : Nat) : Lane := L.setReg a (setBits (L.reg a) lo w x)

/-- Write one bit of a register. -/
def Lane.setBit (L : Lane) (a i : Nat) (b : Bool) : Lane := L.setFld a i 1 (if b then 1 else 0)

/-! ### Vectors -/

/-- Read element i of a vector, by a number; the default outside it. -/
def vget {α : Type} {n : Nat} (v : Vector α n) (i : Nat) (d : α) : α := v.getD i d

/-- Change element i of a vector, by a number; nothing outside it. -/
def vmod {α : Type} {n : Nat} (v : Vector α n) (i : Nat) (f : α → α) : Vector α n :=
  if h : i < n then v.set i (f v[i]) else v

/-- Set bit i of a bit vector. -/
def putBit {w : Nat} (v : BitVec w) (i : Nat) (b : Bool) : BitVec w :=
  if b then v ||| BitVec.ofNat w (2 ^ i) else v &&& ~~~(BitVec.ofNat w (2 ^ i))

/-! ### Both lanes, and free values -/

/-- Both running lanes change their registers alike (reports and events of shared dies). -/
def State.both (s : State) (f : Lane → Lane) : State :=
  let g := fun (L : Lane) => if L.on then f L else L
  { s with laneA := g s.laneA, laneB := g s.laneB }

/-- Take a free value (log entry 2). -/
def State.free (s : State) : BitVec 32 × State :=
  (Config.freeWord s.freeCount, { s with freeCount := s.freeCount + 1 })

/-- Insert into a list in rising order of f. -/
def insertAt {α : Type} (f : α → Nat) (x : α) : List α → List α
  | [] => [x]
  | y :: r => if f x ≤ f y then x :: y :: r else y :: insertAt f x r

/-- The value that at least two of three copies hold (R289, R293). -/
def vote3 {α : Type} [DecidableEq α] (a b c : α) : Option α :=
  if a = b then some a else if a = c then some a else if b = c then some b else none

/-! ### Frames of the Crosswalk (R244) -/

/-- A frame that a lane sends whether or not the link is UP. -/
def XMsg.isHb : XMsg → Bool
  | .heartbeat _ => true
  | _ => false

/-- Priority class of a frame (R244, R340): 0 leaves first. -/
def XMsg.cls : XMsg → Nat
  | .heartbeat _ => 0
  | .decision _ | .verdict _ _ _ | .silence _ => 1
  | .fwdWrite _ _ _ _ | .fwdAck _ => 2
  | .remote _ | .response _ _ _ _ _ | .line _ _ => 3
  | .copy _ => 4

/-- Frame m leaves before x, which was ready earlier (R244): its class is a higher one; a forwarded write stays in the
stream of the rejoin copy (R251). -/
def XMsg.overtakes (m x : XMsg) : Bool :=
  decide (m.cls < x.cls) && !(match m, x with | .fwdWrite _ _ _ _, .copy _ => true | _, _ => false)

/-- A frame takes its place among those that wait to leave (R244). -/
def XMsg.queue (m : XMsg) : List XMsg → List XMsg
  | [] => [m]
  | x :: r => if (x :: r).all m.overtakes then m :: x :: r else x :: m.queue r

/-- The first frame of a kind among those that have arrived or are under way, and the rest; none while a frame that leaves
before it has not been taken (R244). -/
def takeMsg {α : Type} (f : XMsg → Option α) (rx : List XMsg) : Option (α × List XMsg) :=
  match rx.find? fun m => (f m).isSome with
  | none => none
  | some m =>
    if (rx.takeWhile fun x => (f x).isNone).all m.overtakes then
      (f m).map fun x => (x, rx.eraseP fun y => (f y).isSome)
    else none

end Sys2Proof.Machine
end

