-- ==== Sys2Proof/Machine/Flags.lean ====
section
/-! DEFINITION. Counters, event flags, register writes by their field access codes, the validity of the angle word, and
fault messages (01_architecture.md R7, R21, 12_faults.md R255 to R260). -/

namespace Sys2Proof.Machine

/-! ### Counters and flags -/

/-- Add one to a counter field, saturating. -/
def Lane.count (L : Lane) (a lo w : Nat) : Lane := L.setFld a lo w (min (L.fld a lo w + 1) (2 ^ w - 1))

/-- Hardware sets an event bit; the bit stays set against a clear in the same cycle (R21). -/
def Lane.event (L : Lane) (a i : Nat) : Lane :=
  { L.setBit a i true with fresh := (a, BitVec.ofNat 32 (2 ^ i)) :: L.fresh }

/-- The bits of an event register set by hardware in this cycle (R21). -/
def Lane.freshMask (L : Lane) (a : Nat) : BitVec 32 :=
  L.fresh.foldl (fun m e => if e.1 = a then m ||| e.2 else m) 0

/-- Put a register back to its reset value. -/
def Lane.resetReg (L : Lane) (a : Nat) : Lane := L.setReg a (regReset a)

/-- Put every register with lo ≤ address < hi back to its reset value. -/
def Lane.resetRange (L : Lane) (lo hi : Nat) : Lane :=
  { L with regs := L.regs.filter fun e => e.1 < lo || hi ≤ e.1 }

/-- A write according to the field access codes (R7): RW bits take the value, W1C bits clear where it has 1 unless
hardware set them in this cycle (R21), W1S bits set, LOCK bits take the value once. -/
def Lane.applyCodes (L : Lane) (a : Nat) (v : Word) : Lane :=
  match regDesc a with
  | none => L
  | some d =>
    let old := L.reg a
    let lockM := if d.base = Reg.fltReact 0 then reactMask ((a - d.base) / 4) else d.lock
    let wr := if lockM = 0 || L.locked.contains a then d.rw else d.rw ||| lockM
    let clr := v &&& d.w1c &&& ~~~(L.freshMask a)
    let new := (((old &&& ~~~wr) ||| (v &&& wr)) &&& ~~~clr) ||| (v &&& d.w1s)
    let L := L.setReg a new
    if lockM = 0 || L.locked.contains a then L else { L with locked := a :: L.locked }

/-! ### The angle word as others see it -/

/-- ANGLE_VALID: FULL_SYNC or HOLD (R43). -/
def Odo.valid (o : Odo) : Bool := o.state == .fullSync || o.state == .hold

/-! ### Fault messages -/

/-- Code of a class (R255). -/
def FaultClass.code : FaultClass → Nat
  | .corrected => 0
  | .contained => 1
  | .fatal => 2

/-- Word 0 of a message (R255). -/
def faultWord (k : Kind) (inst : Nat) : Word :=
  BitVec.ofNat 32 (k.src * 2 ^ 24 + k.code * 2 ^ 16 + k.cls.code * 2 ^ 14 + inst % 2 ^ 14)

/-- Class of a message by its word 0 (R255, R258): unlisted kinds count as CONTAINED, as MSG_BAD does. -/
def FaultMsg.cls (m : FaultMsg) : Nat := if bits m.w0 14 2 = 3 then 1 else bits m.w0 14 2

/-- A message reaches the collector: with 32 queued, a CORRECTED message is counted as lost and any other is held by
its source (R258). -/
def Lane.queueFault (L : Lane) (m : FaultMsg) : Lane :=
  if L.fltQ.length < 32 then { L with fltQ := L.fltQ ++ [m] }
  else if m.cls = 0 then L.count Reg.fltLost 0 16
  else { L with fltHeld := L.fltHeld ++ [m] }

/-- The lane raises a fault that an access caused (R255, R260). -/
def Lane.raiseBy (L : Lane) (k : Kind) (inst w1 mid acc : Nat) : Lane :=
  L.queueFault
    { w0 := faultWord k inst, w1 := BitVec.ofNat 32 w1, mid := BitVec.ofNat 8 mid, acc := BitVec.ofNat 4 acc,
      time := BitVec.ofNat 64 L.time, angle := BitVec.ofNat 24 L.odo.word, avalid := L.odo.valid, cycle := L.odo.cycle }

/-- The lane raises a fault that no access caused (R255, R260). -/
def Lane.raise (L : Lane) (k : Kind) (inst : Nat) (w1 : Nat := 0) : Lane := L.raiseBy k inst w1 0x3F 0

/-- Master ID of a checker's message (R260): 0x20 for the scheduler comparators, as the worked capture of 12_faults.md shows;
0x21 for the Odometer's by analogy (log entry 99); 0x3F for the rest, which no access causes. -/
def checkerMid (w0 : Word) : BitVec 8 :=
  if bits w0 16 8 = Kind.selfSchedCmp.code then 0x20 else if bits w0 16 8 = Kind.selfOdoLock.code then 0x21 else 0x3F

/-- A checker of the lane sends the two words of a message (R241, R255). -/
def Lane.checkerSends (L : Lane) (m : Option (Word × Word)) : Lane :=
  match m with
  | none => L
  | some (w0, w1) =>
    L.queueFault
      { w0 := w0, w1 := w1, mid := checkerMid w0, acc := 0, time := BitVec.ofNat 64 L.time, angle := BitVec.ofNat 24 L.odo.word
        avalid := L.odo.valid, cycle := L.odo.cycle }

/-- A drive die or the Junction, shared by both lanes, sends its message to every running collector (R255). -/
def State.raiseBoth (s : State) (k : Kind) (inst : Nat) (w1 : Nat := 0) : State :=
  let f := fun (L : Lane) => if L.on then L.raise k inst w1 else L
  { s with laneA := f s.laneA, laneB := f s.laneB }

/-! ### Triplicated words (R289) -/

/-- A word in three equal copies. -/
def Triple.same (v : BitVec 288) : Triple := ⟨v, v, v⟩

/-- The value that at least two copies hold. -/
def Triple.vote (t : Triple) : Option (BitVec 288) := vote3 t.c0 t.c1 t.c2

/-- The value that a read of item i gives: the vote, and a free value when no two copies agree. -/
def Lane.item (L : Lane) (i : Nat) : BitVec 288 := (vget L.triples i ⟨0, 0, 0⟩).vote.getD (Config.noVote i)

/-- Load item i. -/
def Lane.loadTriple (L : Lane) (i : Nat) (v : BitVec 288) : Lane :=
  { L with triples := vmod L.triples i fun _ => Triple.same v, tripleBad := putBit L.tripleBad i false }

/-- All three copies of item i are equal (R289). -/
def Lane.tripleClean (L : Lane) (i : Nat) : Bool :=
  let t := vget L.triples i ⟨0, 0, 0⟩
  t.vote.any fun v => t == Triple.same v

/-- What a look at item i reports (R289): TRIPLE for a differing copy; with no two copies equal TRIPLE_FAIL, once for each such
failure. -/
def Lane.tripleReport (L : Lane) (i : Nat) : Lane :=
  if L.tripleClean i then L
  else if (vget L.triples i ⟨0, 0, 0⟩).vote.isSome then
    (((L.setBit Reg.memTriple i true).event Reg.memTriple i).event Reg.memEvent 4).raise .memTriple 0x3FFF i
  else if L.tripleBad.getLsbD i then L
  else { L with tripleBad := putBit L.tripleBad i true }.raise .memTripleFail 0x3FFF i

/-- What a read of item i does (R289): it reports, and rewrites a differing copy from the other two. -/
def Lane.readTriple (L : Lane) (i : Nat) : Lane :=
  if L.tripleClean i then L
  else
    let M := L.tripleReport i
    match (vget L.triples i ⟨0, 0, 0⟩).vote with
    | some v => { M with triples := vmod M.triples i fun _ => Triple.same v }
    | none => M

/-- The fuse options of item 0, laid out as MON_OPT (R289, R292, R422). -/
def Lane.options (L : Lane) : Word := (L.item 0).setWidth 32

/-- The lane that the preferred-lane fuse in item 0 names (R5, R289); Lane A on the S variant. -/
def Lane.pref (L : Lane) (variantS : Bool) : LaneId := if L.options.getLsbD 7 && !variantS then .b else .a

/-- Value of a voted level in registers (R254). -/
def votedCode : Voted → Nat
  | .none => 0 | .laneA => 1 | .laneB => 2 | .safe => 3

/-- The level of a code in registers (R254). -/
def votedOfCode (n : Nat) : Voted :=
  match n % 4 with
  | 0 => .none | 1 => .laneA | 2 => .laneB | _ => .safe

/-- The lane's view of the voted value, in item 2 (R232, R289). -/
def Lane.view (L : Lane) : Voted := votedOfCode (L.item 2).toNat

/-- The lane's own claim code, in item 2 (R289). -/
def Lane.ownClaim (L : Lane) : Nat := (L.item 2).toNat / 4 % 4

/-- Item 2 is loaded with the voted value and the own claim code (R289). -/
def Lane.setView (L : Lane) (v : Voted) (claim : Nat) : Lane := L.loadTriple 2 (BitVec.ofNat 288 (votedCode v + 4 * (claim % 4)))

/-- The digest of item 3, that a lane reports (R250, R289): all zero without an image (R297). -/
def Lane.ownDigest (L : Lane) : BitVec 256 := (L.item 3).setWidth 256

/-- The sequence number of item 3 (R250, R289). -/
def Lane.ownSeq (L : Lane) : Word := (L.item 3 >>> 256).setWidth 32

end Sys2Proof.Machine
end

