-- ==== Sys2Proof/Machine/Memory.lean ====
section
/-! DEFINITION. Reads and writes of the arrays through the symbol code, the remap table, macro erasure and the merge
buffer (R273 to R285). -/

namespace Sys2Proof.Machine

/-- The array that holds a lane-local address: 0 main SRAM, 1 route RAM, 2 profile RAM (R273). -/
def arrayOf (a : Nat) : Option Nat :=
  if a < 0x00200000 then some 0
  else if 0x04000000 ≤ a && a < 0x04010000 then some 1
  else if 0x04100000 ≤ a && a < 0x04104000 then some 2
  else none

/-- Base and size in bytes of each array (R273). -/
def arrayBase (k : Nat) : Nat := if k = 0 then 0 else if k = 1 then 0x04000000 else 0x04100000

/-- Size in bytes of each array (R273). -/
def arraySize (k : Nat) : Nat := if k = 0 then 0x00200000 else if k = 1 then 0x00010000 else 0x00004000

/-- The cold initialisation of the arrays is under way (R290, R294 step 3). -/
def Lane.initing (L : Lane) : Bool := L.on && L.power.cold && !L.mem.initDone && L.fld Reg.cfgBoot 28 4 == 2

/-- A word whose access reaches an array or the spare words (R91, R283, R285, R315): an array's own, one of the shadow window,
and the registers whose write copies, releases or reads words. -/
def reachesArray (a : Nat) : Bool :=
  (arrayOf a).isSome || (decide (0x10018000 ≤ a) && decide (a < 0x1001F800)) || a == Reg.cfgInstall || a == Reg.memErase
    || (decide (Reg.memRemap 0 ≤ a) && decide (a < Reg.memRemap 16))

/-- An access to n bytes at a waits for the end of the initialisation (R290). -/
def Lane.waitsInit (L : Lane) (a n : Nat) : Bool :=
  L.initing && (List.range ((n + 3) / 4)).any fun i => reachesArray (a + 4 * i)

/-- A write waits for the end of the initialisation (R290). -/
def Lane.waitWrite (L : Lane) (w : Writer) (a : Nat) (bs : List Byte) : Lane :=
  { L with mem := { L.mem with waits := L.mem.waits ++ [(w, a, bs)] } }

/-- The word address of a byte address. -/
def wordAddr (a : Nat) : Nat := a / 16 * 16

/-- A number from bytes, least significant first. -/
def leNat : List Byte → Nat
  | [] => 0
  | b :: bs => b.toNat + 256 * leNat bs

/-- The k low bytes of a number, least significant first. -/
def leBytes (n : Nat) : Nat → List Byte
  | 0 => []
  | k + 1 => BitVec.ofNat 8 n :: leBytes (n / 256) k

/-- The low bit and macro field of each array in MEM_ERASE (R291). -/
def eraseField (k : Nat) : Nat × Nat := if k = 0 then (31, 24) else if k = 1 then (23, 16) else (15, 8)

/-- The erased macro of an array (R285). -/
def Lane.erased (L : Lane) (k : Nat) : Option Nat :=
  if L.bit Reg.memErase (eraseField k).1 then some (L.fld Reg.memErase (eraseField k).2 5) else none

/-- The valid remap entry that serves a word, if any (R282). -/
def Lane.remapOf (L : Lane) (A : Nat) : Option Nat :=
  (List.range 16).find? fun i => L.bit (Reg.memRemap i) 31 && L.fld (Reg.memRemap i) 0 23 * 16 == A

/-- The stored symbols of the word at A, from its array or its spare word. -/
def Lane.rawWord (L : Lane) (A : Nat) : BitVec 128 × BitVec 24 :=
  match L.remapOf A with
  | some i => (BitVec.ofNat 128 (leNat (Cells.getMany L.mem.spare (32 * i) 16)),
               BitVec.ofNat 24 (leNat (Cells.getMany L.mem.spare (32 * i + 16) 3)))
  | none => (BitVec.ofNat 128 (leNat (Cells.getMany L.mem.data A 16)),
             BitVec.ofNat 24 (leNat (Cells.getMany L.mem.chk A 3)))

/-- Store symbols in spare word i. -/
def Lane.putSpare (L : Lane) (i : Nat) (d : BitVec 128) (c : BitVec 24) : Lane :=
  { L with mem := { L.mem with
    spare := Cells.setMany (Cells.setMany L.mem.spare (32 * i) (leBytes d.toNat 16)) (32 * i + 16) (leBytes c.toNat 3) } }

/-- Store symbols in the array at A. -/
def Lane.putArray (L : Lane) (A : Nat) (d : BitVec 128) (c : BitVec 24) : Lane :=
  { L with mem := { L.mem with
    data := Cells.setMany L.mem.data A (leBytes d.toNat 16)
    chk := Cells.setMany L.mem.chk A (leBytes c.toNat 3) } }

/-- Store symbols where accesses to A are served from. -/
def Lane.putRaw (L : Lane) (A : Nat) (d : BitVec 128) (c : BitVec 24) : Lane :=
  match L.remapOf A with
  | some i => L.putSpare i d c
  | none => L.putArray A d c

/-- A full-width write: the word becomes valid (R280). -/
def Lane.putWord (L : Lane) (A : Nat) (d : BitVec 128) : Lane := L.putRaw A d (checkBytes d)

/-- Store a word as poison (R275). -/
def Lane.putPoison (L : Lane) (A : Nat) (d : BitVec 128) : Lane := L.putRaw A d (poisonCheck d)

/-- A correction of macro m in array k raises its counter (R277, R291); whether the threshold of R285 is reached. -/
def Lane.bumpMacro (L : Lane) (k m : Nat) : Lane × Bool :=
  let a := Reg.memMacroCnt m
  let n := if L.fld a 30 2 = k then min (L.fld a 0 30 + 1) (2 ^ 30 - 1) else 1
  ((L.setFld a 30 2 k).setFld a 0 30 n, n == max (L.fld Reg.memCtrl 1 8) 1 * 16)

/-- A correction counted in an array that has an erased macro: a second macro that reaches the threshold changes nothing
but ERASE_FULL, whatever ERASE_AUTO (R285). -/
def Lane.countErased (L : Lane) (k m : Nat) : Lane :=
  let (L, full) := L.bumpMacro k m
  if full && L.erased k != some m then L.event Reg.memEvent 7 else L

/-- The outcome of decoding a word that serves address A, as it is counted and reported, with `count` for each corrected
macro: the data, and whether they carry a poison mark (R277, R280). -/
def Lane.outcomeBy (count : Lane → Nat → Nat → Lane) (L : Lane) (A : Nat) (f : Option Nat) (d : BitVec 128) (r : Decoded)
    (mid acc : Nat) : Lane × BitVec 128 × Bool :=
  match r with
  | .clean => (L, d, false)
  | .poison => (L, d, true)
  | .uncorrectable => (((L.event Reg.memEvent 1).count Reg.memCnt 0 16).raiseBy .memMemUncorr 0x3FFF A mid acc, d, true)
  | .corrected d' _ ms =>
    let L := (L.event Reg.memEvent 0).count Reg.memCnt 16 16
    let live := ms.filter fun m => some m != f
    let m0 := live.foldl min 31
    let L := L.setReg Reg.memLastcorr (BitVec.ofNat 32 ((if live = [] then ms.headD 0 else m0) * 2 ^ 27 + A / 16 * 16))
    let L := if live = [] then L else L.raiseBy .memMemCorr m0 A mid acc
    (ms.foldl (fun L m => count L ((arrayOf A).getD 0) m) L, d', false)

/-- A correction of symbol m in the word at A is counted in the tracking table: its count, and the table without the pair
(R282). -/
def Lane.trackCount (L : Lane) (A m : Nat) : Nat × List TrackEntry :=
  (match L.mem.track.find? fun t => t.addr == A && t.sym == m with
    | some t => t.count + 1
    | none => 1, L.mem.track.filter fun t => !(t.addr == A && t.sym == m))

/-- The corrections of a decode are counted in the tracking table, in a word that is not remapped by them: f is the erased
macro (R282, R283). -/
def Lane.trackOnly (L : Lane) (A : Nat) (f : Option Nat) (r : Decoded) : Lane :=
  match r with
  | .corrected _ _ ms => (ms.filter fun m => some m != f).foldl (fun L m =>
      let c := L.trackCount A m
      { L with mem := { L.mem with track := (⟨A, m, c.1⟩ :: c.2).take 32 } }) L
  | _ => L

/-- Release remap entry i (R283): its spare word, decoded and counted like any other, goes back to its address, poison
included, and VALID clears. -/
def Lane.releaseBy (count : Lane → Nat → Nat → Lane) (L : Lane) (i mid acc : Nat) : Lane :=
  if !L.bit (Reg.memRemap i) 31 then L
  else
    let A := L.fld (Reg.memRemap i) 0 23 * 16
    let d := BitVec.ofNat 128 (leNat (Cells.getMany L.mem.spare (32 * i) 16))
    let c := BitVec.ofNat 24 (leNat (Cells.getMany L.mem.spare (32 * i + 16) 3))
    let L := L.setBit (Reg.memRemap i) 31 false
    if (arrayOf A).isNone then L
    else
      let r := decodeWord none d c
      let (L, d, bad) := (L.trackOnly A none r).outcomeBy count A none d r mid acc
      L.putArray A d (if bad then poisonCheck d else checkBytes d)

/-- Set erasure of macro m in array k, releasing the automatic remap entries it makes needless (R285). -/
def Lane.setErasure (L : Lane) (k m mid acc : Nat) : Lane :=
  let L := ((L.setBit Reg.memErase (eraseField k).1 true).setFld Reg.memErase (eraseField k).2 5 m).event Reg.memEvent 6
  (List.range 16).foldl
    (fun L i =>
      if L.bit (Reg.memRemap i) 30 && L.fld (Reg.memRemap i) 25 5 == m
          && arrayOf (L.fld (Reg.memRemap i) 0 23 * 16) == some k then L.releaseBy Lane.countErased i mid acc else L) L

/-- Count a correction of macro m in array k, and set erasure at the threshold (R277, R285, R291). -/
def Lane.countMacro (mid acc : Nat) (L : Lane) (k m : Nat) : Lane :=
  match L.erased k with
  | some _ => L.countErased k m
  | none =>
    let (L, full) := L.bumpMacro k m
    if full && L.bit Reg.memCtrl 0 then L.setErasure k m mid acc else L

/-- Release remap entry i by the service core (R283). -/
def Lane.releaseRemap (L : Lane) (i : Nat) : Lane := L.releaseBy (Lane.countMacro 0 1) i 0 1

/-- Count a correction of a symbol in a word, and remap the word at the third (R282, R283). -/
def Lane.trackSymbol (L : Lane) (A m : Nat) (d : BitVec 128) (mid acc : Nat) : Lane :=
  let (n, rest) := L.trackCount A m
  let keep := { L with mem := { L.mem with track := (⟨A, m, n⟩ :: rest).take 32 } }
  if n < 3 || (L.remapOf A).isSome then keep
  else
    match (List.range 16).find? fun i => !L.bit (Reg.memRemap i) 31 with
    | some i =>
      let L := { L with mem := { L.mem with track := rest } }
      let L := L.putSpare i d (checkBytes d)
      (L.setReg (Reg.memRemap i) (BitVec.ofNat 32 (2 ^ 31 + 2 ^ 30 + m * 2 ^ 25 + A / 16))).event Reg.memEvent 2
    | none =>
      if L.mem.fullSeen.contains A then keep
      else
        let L := { keep with mem := { keep.mem with fullSeen := A :: keep.mem.fullSeen } }
        (L.event Reg.memEvent 3).raiseBy .memRemapFull m A mid acc

/-- An array word was read with its outcome: counters, fault, tracking, erasure; an uncorrectable word is stored as poison
(R277, R280, R282, R285). The data and whether they carry a poison mark. -/
def Lane.readOutcome (L : Lane) (A : Nat) (f : Option Nat) (d : BitVec 128) (r : Decoded) (mid acc : Nat) :
    Lane × BitVec 128 × Bool :=
  let (L, d', bad) := L.outcomeBy (Lane.countMacro mid acc) A f d r mid acc
  match r with
  | .uncorrectable => (L.putPoison A d', d', bad)
  | .corrected _ _ ms => ((ms.filter fun m => some m != f).foldl (fun L m => L.trackSymbol A m d' mid acc) L, d', bad)
  | _ => (L, d', bad)

/-- Read and decode the word at A, by master `mid` with access type `acc` (R276). -/
def Lane.readWord (L : Lane) (A mid acc : Nat) : Lane × BitVec 128 × Bool :=
  let f := if (L.remapOf A).isSome then none else L.erased ((arrayOf A).getD 0)
  let w := L.rawWord A
  L.readOutcome A f w.1 (decodeWord f w.1 w.2) mid acc

/-! ### Merge buffer -/

/-- The byte mask as a 128-bit mask. -/
def wideMask (m : BitVec 16) : BitVec 128 :=
  (List.range 16).foldl (fun w i => if m.getLsbD i then w ||| (0xFF#128 <<< (8 * i)) else w) 0

/-- Flush one entry: a full mask writes the word; a partial one reads, merges and writes it (R278, R280). -/
def Lane.flushEntry (L : Lane) (e : MergeEntry) : Lane :=
  if e.mask = 0xFFFF then L.putWord e.addr e.data
  else
    let (L, d, p) := L.readWord e.addr e.mid 3
    let w := wideMask e.mask
    let d := (d &&& ~~~w) ||| (e.data &&& w)
    if p then L.putPoison e.addr d else L.putWord e.addr d

/-- Take the entry of word A out of the buffer and flush it, if there is one. -/
def Lane.flushWord (L : Lane) (A : Nat) : Lane :=
  match L.mem.merge.find? fun e => e.addr == A with
  | none => L
  | some e => { L with mem := { L.mem with merge := L.mem.merge.filter fun e => e.addr != A } }.flushEntry e

/-- Flush every entry, oldest first (R278). -/
def Lane.flushAll (L : Lane) : Lane :=
  let es := L.mem.merge
  es.foldl (fun L e => L.flushEntry e) { L with mem := { L.mem with merge := [] } }

/-- Write some bytes of word A (R278, R279): all 16 go to the array, fewer merge into the buffer. -/
def Lane.writeChunk (L : Lane) (A : Nat) (mask : BitVec 16) (d : BitVec 128) (mid : Nat) : Lane :=
  if mask = 0xFFFF then
    { L with mem := { L.mem with merge := L.mem.merge.filter fun e => e.addr != A } }.putWord A d
  else
    let L := { L with mem := { L.mem with narrowAt := L.time } }
    let w := wideMask mask
    if L.mem.merge.any fun e => e.addr == A then
      { L with mem := { L.mem with merge := L.mem.merge.map fun e =>
        if e.addr == A then { e with mask := e.mask ||| mask, data := (e.data &&& ~~~w) ||| (d &&& w), mid := mid } else e } }
    else
      let L := if L.mem.merge.length < 8 then L
        else match L.mem.merge with
          | [] => L
          | e :: r => { L with mem := { L.mem with merge := r } }.flushEntry e
      { L with mem := { L.mem with merge := L.mem.merge ++ [⟨A, mask, d &&& w, mid⟩] } }

/-- The part of a byte range that lies in the word at A: first byte index and count. -/
def chunkOf (A a n : Nat) : Nat × Nat :=
  let lo := max a A
  let hi := min (a + n) (A + 16)
  (lo - A, hi - lo)

/-- The word addresses that a byte range touches. -/
def wordsOf (a n : Nat) : List Nat :=
  if n = 0 then [] else (List.range ((a + n - 1) / 16 - a / 16 + 1)).map fun i => wordAddr a + 16 * i

/-- Write bytes at an address of the arrays. -/
def Lane.writeBytes (L : Lane) (a : Nat) (bs : List Byte) (mid : Nat) : Lane :=
  (wordsOf a bs.length).foldl
    (fun L A =>
      let c := chunkOf A a bs.length
      let part := (bs.drop (A + c.1 - a)).take c.2
      L.writeChunk A (BitVec.ofNat 16 ((2 ^ c.2 - 1) * 2 ^ c.1)) (BitVec.ofNat 128 (leNat part * 2 ^ (8 * c.1))) mid) L

/-- Read a word as a master sees it, needing the bytes of `mask` (R279): from the buffer entry when it holds them all,
else after the entry is flushed. -/
def Lane.readMerged (L : Lane) (A : Nat) (mask : BitVec 16) (mid acc : Nat) : Lane × BitVec 128 × Bool :=
  match L.mem.merge.find? fun e => e.addr == A with
  | some e => if e.mask &&& mask = mask then (L, e.data, false) else (L.flushWord A).readWord A mid acc
  | none => L.readWord A mid acc

/-- Read n bytes at an address of the arrays: the bytes, and whether any word carries a poison mark. -/
def Lane.readBytes (L : Lane) (a n mid acc : Nat) : Lane × List Byte × Bool :=
  (wordsOf a n).foldl
    (fun (r : Lane × List Byte × Bool) A =>
      let c := chunkOf A a n
      let (L, d, p) := r.1.readMerged A (BitVec.ofNat 16 ((2 ^ c.2 - 1) * 2 ^ c.1)) mid acc
      (L, r.2.1 ++ ((leBytes d.toNat 16).drop c.1).take c.2, r.2.2 || p)) (L, [], false)

/-- The word at A as its decoder shows it, corrected, with nothing counted; none where it is poisoned or uncorrectable
(R276). -/
def Lane.seenWord (L : Lane) (A : Nat) : Option (BitVec 128) :=
  let f := if (L.remapOf A).isSome then none else L.erased ((arrayOf A).getD 0)
  let w := L.rawWord A
  match decodeWord f w.1 w.2 with
  | .clean => some w.1
  | .corrected d _ _ => some d
  | .poison | .uncorrectable => none

/-- A byte as it stands, by a look that decodes nothing: the newest write, uncorrected. -/
def Lane.peekByte (L : Lane) (a : Nat) : Byte :=
  let A := wordAddr a
  match L.mem.merge.find? fun e => e.addr == A && e.mask.getLsbD (a - A) with
  | some e => e.data.extractLsb' (8 * (a - A)) 8
  | none => (L.rawWord A).1.extractLsb' (8 * (a - A)) 8

/-- Store the words of a byte range as poison, keeping their other bytes (R280, DMA and rejoin copy). -/
def Lane.poisonBytes (L : Lane) (a : Nat) (bs : List Byte) (mid : Nat) : Lane :=
  let L := L.writeBytes a bs mid
  (wordsOf a bs.length).foldl (fun L A => let L := L.flushWord A; L.putPoison A (L.rawWord A).1) L

end Sys2Proof.Machine
end

