-- ==== Sys2Proof/Machine/OdoCore.lean ====
section
/-! DEFINITION. The Odometer of one lane: gap procedure, search, prediction, geometry learning, the angle word's target
and due times, the two crank sensors, cam and phase, stall and reversal (02_wheels.md, 03_odometer_angle.md). What the
scheduler and the other blocks do about it stands in the files that import this one. -/

namespace Sys2Proof.Machine

/-! ### Settings -/

/-- N, positions per revolution (R57 ODO_WHEEL). -/
def Lane.odoN (L : Lane) : Nat := L.fld Reg.odoWheel 0 11
/-- G, missing teeth (R57 ODO_WHEEL). -/
def Lane.odoG (L : Lane) : Nat := L.fld Reg.odoWheel 16 2
/-- Four-stroke (R57 ODO_WHEEL). -/
def Lane.fourStroke (L : Lane) : Bool := L.bit Reg.odoWheel 20
/-- M = 2^MK (R80 ODO_INTERP). -/
def Lane.odoM (L : Lane) : Nat := 2 ^ L.fld Reg.odoInterp 0 4
/-- Positions per cycle: N, or 2N on a four-stroke engine (R31). -/
def Lane.cyclePos (L : Lane) : Nat := if L.fourStroke then 2 * L.odoN else L.odoN
/-- Cycle length L in micro-ticks (R78). -/
def Lane.cycleLen (L : Lane) : Nat := L.cyclePos * L.odoM
/-- D_IN, the delay between an edge's stamp and its action (R59). -/
def Lane.dIn (L : Lane) : Nat := L.fld Reg.odoSensor 0 8 * 40 + 3
/-- The Odometer is enabled (R57 ODO_CTRL). -/
def Lane.odoEn (L : Lane) : Bool := L.bit Reg.odoCtrl 0
/-- The secondary crank sensor is tracked: SEC_EN, without effect on the S variant (R45, R46). -/
def Lane.secEn (L : Lane) (variantS : Bool) : Bool := L.bit Reg.odoSrc 3 && !variantS
/-- Largest 32-bit number, at which periods saturate (R58). -/
def u32max : Nat := 2 ^ 32 - 1

/-- Span length of the span starting at revolution position i (R60). -/
def Lane.spanLen (L : Lane) (i : Nat) : Nat := if i + L.odoG + 1 = L.odoN then L.odoG + 1 else 1

/-- The revolution position of the edge before the one at position i (R31). -/
def Lane.prevPos (L : Lane) (i : Nat) : Nat := if i = 0 then L.odoN - L.odoG - 1 else i - 1

/-- Limits of the wheel description (R32) and of the angle word (R78) that an enable needs. -/
def Lane.wheelOk (L : Lane) : Bool :=
  let n := L.odoN
  let camMode := L.fld Reg.odoWheel 22 2
  let camN := L.fld Reg.odoWheel 24 6
  let lo := L.fld Reg.odoCamwin 0 11
  let hi := L.fld Reg.odoCamwin 16 11
  let src := L.fld Reg.odoDir 30 2
  let mk := L.fld Reg.odoInterp 0 4
  let schedHi := min (L.fld Reg.odoSpdwin 16 16) 0xBB80
  decide (12 ≤ n ∧ n ≤ 1024) && (L.odoG == 1 || L.odoG == 2) && camMode != 3
    && (!L.fourStroke || camMode == 1 || camMode == 2)
    && (camMode != 2 || decide (3 ≤ camN ∧ camN ≤ 36))
    && decide (lo ≤ hi ∧ hi < 2 * n ∧ lo / n = hi / n)
    && decide (L.fld Reg.odoGapratio 0 8 < L.fld Reg.odoGapratio 8 8)
    && decide (L.fld Reg.odoGapratio 8 8 < L.fld Reg.odoTimeout 24 8)
    && src != 3 && (src != 1 || L.bit Reg.odoSensor 23)
    && (!L.bit Reg.odoDir 29 || src == 1 || src == 2)
    && decide (4 ≤ mk ∧ mk ≤ 12) && decide (n * 2 ^ mk * schedHi ≤ 192000000000)

/-! ### The order of conditions in one TCLK (R42) -/

/-- A condition of this rank in R42's list may be acted on: none of its rank or a lower one was acted on in this TCLK. -/
def Lane.mayAct (L : Lane) (rank : Nat) : Bool :=
  match L.odo.acted with
  | some (t, r) => !(t == L.time && decide (r ≤ rank))
  | none => true

/-- A condition of this rank in R42's list is acted on. -/
def Lane.acts (L : Lane) (rank : Nat) : Lane :=
  if L.mayAct rank then { L with odo := { L.odo with acted := some (L.time, rank) } } else L

/-! ### Gap procedure -/

/-- Results of the gap procedure (R35). -/
inductive EdgeResult where
  | gapFound | candidate | extra | tooth
deriving DecidableEq, Repr

/-- Take up an edge: its period becomes p1 (R35, R58). The u16 count of edges stays at its top value (DESIGN CHOICE, log
entry 88). -/
def Tracker.take (t : Tracker) (stamp : Nat) : Tracker :=
  { t with
    edges := min (t.edges + 1) 65535
    last := stamp
    p0 := t.p1
    p1 := if t.edges = 0 then 0 else min (stamp - t.last) u32max }

/-- The procedure on_edge of R35, with ratios in units of 1/16. -/
def Tracker.onEdge (t : Tracker) (lo hi after : Nat) : EdgeResult × Tracker :=
  let found := t.cand && decide (t.p1 * 16 ≤ t.pg * after)
  let t := { t with cand := false }
  if found then (.gapFound, t)
  else if t.p0 * lo ≤ t.p1 * 16 ∧ t.p1 * 16 ≤ t.p0 * hi then (.candidate, { t with cand := true, pg := t.p1 })
  else if t.p1 * 16 < t.p0 * 4 then (.extra, t)
  else (.tooth, t)

/-- Follow the input's own pattern: position, pattern lock, edges since the gap (R35, R45). n is N, d is N − G. -/
def Tracker.follow (t : Tracker) (r : EdgeResult) (n d : Nat) : Tracker :=
  let since := t.sinceGap.map (· + 1)
  match r with
  | .gapFound =>
    let ok := since == some d
    { t with sinceGap := some 0, lock := ok, silent := t.silent && !ok, pos := some 1,
             agree := t.agree && ok }
  | _ =>
    let next := t.pos.map fun p => if p + 1 = d then 0 else (p + 1) % n
    let good : Bool := match next with
      | none => r != .extra
      | some 0 => r == .candidate
      | some 1 => false
      | some _ => r == .tooth
    if good then { t with sinceGap := since, pos := next }
    else { t with sinceGap := since, pos := none, lock := false, agree := false, agreeRun := 0 }

/-- The crank tracker of a sensor. -/
def Odo.sensor (o : Odo) (sec : Bool) : Tracker := if sec then o.sec else o.pri

/-- Put a crank tracker back. -/
def Odo.setSensor (o : Odo) (sec : Bool) (t : Tracker) : Odo := if sec then { o with sec := t } else { o with pri := t }

/-- Change the Odometer of a lane. -/
def Lane.odoUpd (L : Lane) (f : Odo → Odo) : Lane := { L with odo := f L.odo }

/-! ### Prediction, speed, angle -/

/-- Geometry factor of the span starting at position i, by the confirmed direction (R60, R62); nominal at the gap
positions, whose entries are never read. -/
def Lane.geo (L : Lane) (i : Nat) : Nat :=
  if L.odoN ≤ i + L.odoG then 0x8000
  else L.fld (if L.odo.dir then Reg.odoGeob i else Reg.odoGeoa i) 0 16

/-- Normalised period of a span of length len starting at position i (R60). A factor of 0 gives 0 (DESIGN CHOICE, log
entry 91). -/
def Lane.normal (L : Lane) (i len P : Nat) : Nat := min (P * 32768 / (L.geo i * len)) u32max

/-- Slope gain sn of ODO_INTERP.SLOPE (R60). -/
def Lane.slopeGain (L : Lane) : Nat := match L.fld Reg.odoInterp 8 2 with | 0 => 0 | 1 => 1 | 2 => 2 | _ => 4

/-- Ppred of a span of length len starting at position i (R60). The slope term qp is not cut to 32 bits where its clamp
limit 2 × q1 goes beyond them; only Ppred saturates (DESIGN CHOICE, log entry 105). -/
def Lane.predict (L : Lane) (q0 q1 i len : Nat) : Nat :=
  let d : Int := (q1 : Int) - q0
  let qp : Int := q1 + (d * L.slopeGain) / 4
  let qp := max (q1 / 2 : Int) (min qp (2 * q1))
  min (qp.toNat * L.geo i * len / 32768) u32max

/-- The target: micro-ticks due at a time, sp × M of them in Ppred (R65 with R67 and R69, log entry 20). A Ppred of 0
puts it at the last micro-tick of the span (DESIGN CHOICE, log entry 91). -/
def Lane.target (L : Lane) (t : Nat) : Nat :=
  let o := L.odo
  let n := o.sp * L.odoM
  if o.pp = 0 then o.base + (n - 1) else o.base + min ((t - o.t0) * n / o.pp) (n - 1)

/-- Due time of a micro-tick (R69). -/
def Lane.due (L : Lane) (a : Nat) : Nat :=
  let o := L.odo
  match o.spans.find? fun s => s.base ≤ a && a < s.base + s.len with
  | some s => s.t0 + (a - s.base) * s.pm / s.len
  | none => o.t0 + (a - o.base) * o.pp / (o.sp * L.odoM)

/-- Lateness of the micro-tick just reached (R69): none on schedule. -/
def Lane.lateness (L : Lane) : Nat := if L.odo.catchup then L.time - L.due L.odo.ang else 0

/-- Pn, predicted period per position (R97); one of 0 counts as 1 TCLK (DESIGN CHOICE, log entry 105). -/
def Lane.perPos (L : Lane) : Nat := max (L.odo.pp / max L.odo.sp 1) 1

/-- Acting limits of the scheduling window, in 1/16 rpm (R80 ODO_SPDWIN). -/
def Lane.schedLim (L : Lane) : Nat × Nat :=
  (max (L.fld Reg.odoSpdwin 0 16) 0x50, min (L.fld Reg.odoSpdwin 16 16) 0xBB80)

/-- SCHED_OK (R77). -/
def Lane.schedOk (L : Lane) : Bool :=
  let r := L.fld Reg.odoSpeed 0 24
  L.odo.valid && decide (L.schedLim.1 * 64 ≤ r ∧ r ≤ L.schedLim.2 * 64)

/-- Speed and slope at an edge that ends a span (R76, R77). N × q1 = 0 gives the largest RPM (DESIGN CHOICE, log entry
91). -/
def Lane.speedUpdate (L : Lane) : Lane :=
  let q1 := L.odo.q1
  let rpm := if L.odoN * q1 = 0 then 0xFFFFFF else min (24000000000 * 1024 / (L.odoN * q1)) 0xFFFFFF
  let old := L.fld Reg.odoSpeed 0 24
  let d := ofSigned (satSigned ((q1 : Int) - L.odo.q0) 32) 32
  let L := (L.setFld Reg.odoSpeed 0 24 rpm).setReg Reg.odoSlope (BitVec.ofNat 32 d)
  let L := if old ≤ L.schedLim.2 * 64 && decide (L.schedLim.2 * 64 < rpm) then L.event Reg.odoEvent2 4 else L
  if L.odo.valid && decide (L.schedLim.1 * 64 ≤ old ∧ rpm < L.schedLim.1 * 64) then L.event Reg.odoEvent2 3 else L

/-- ODO_LAG.MAX and LAG_HI by the lag that this TCLK leaves (R80). -/
def Lane.lagUpdate (L : Lane) : Lane :=
  if !L.odo.valid then L
  else
    let lag := L.target L.time - L.odo.ang
    let L := if L.fld Reg.odoLag 16 16 < lag then L.setFld Reg.odoLag 16 16 (min lag 0xFFFF) else L
    if L.fld Reg.odoInterp 16 16 < lag then L.event Reg.odoEvent2 2 else L

/-! ### Geometry learning -/

/-- The learning of R63 over the completed revolution's periods P; T is their sum. A factor that the first update drives past
16 bits wraps, and the renormalised value is limited by the clamp alone (DESIGN CHOICE, log entry 105). -/
def Lane.learn (L : Lane) (P : List (Nat × Nat)) (T : Nat) : Lane :=
  let reg := fun i => if L.odo.dir then Reg.odoGeob i else Reg.odoGeoa i
  let n := L.odoN
  let gain := L.fld Reg.odoGeoctrl 4 3 + 2
  let g1 := P.map fun e =>
    let r := min (e.2 * n * 32768 / (T * L.spanLen e.1)) u32max
    let g : Int := L.geo e.1
    (e.1, (g + ((r : Int) - g) / 2 ^ gain).toNat % 2 ^ 16)
  let S := g1.foldl (fun s e => s + e.2 * L.spanLen e.1) 0
  let g2 := g1.map fun e => (e.1, e.2 * n * 32768 / max S 1)
  let clamped := g2.any fun e => e.2 < 0x6000 || 0xA000 < e.2
  let L := g2.foldl (fun L e => L.setFld (reg e.1) 0 16 (max 0x6000 (min e.2 0xA000))) L
  let L := (L.count Reg.odoGeostat 16 16).event Reg.odoEvent2 5
  if clamped then (L.setBit Reg.odoGeostat 1 true).event Reg.odoEvent2 6 else L

/-- The check of R63 at an edge that ends revolution position N − 1. -/
def Lane.revolutionEnd (L : Lane) : Lane :=
  let o := L.odo
  let P := o.periods
  let T := P.foldl (fun s e => s + e.2) 0
  let whole := o.revClean && P.length == L.odoN - L.odoG
  let steady := match o.tprev with
    | none => false
    | some t => decide (((T : Int) - t).natAbs * 16384 ≤ t * L.fld Reg.odoGeoctrl 16 8)
  let qualify := L.bit Reg.odoGeoctrl 0 && !L.bit Reg.odoGeoctrl 1 && !o.actSec && whole && steady
  let L := L.odoUpd fun o => { o with periods := [], revClean := true, tprev := if whole then some T else none }
  if qualify then L.learn P T else L

/-- Something broke the whole-revolution condition of R63. -/
def Odo.breakRev (o : Odo) : Odo := { o with revClean := false, tprev := none }

/-! ### Span ends -/

/-- An edge ending a span is acted on (R60, R65, R67, R68): the span of `adv` positions from o.pos ends at `stamp`, and
one of `len` positions begins. -/
def Lane.spanEnd (L : Lane) (stamp adv len : Nat) : Lane :=
  let o := L.odo
  let n := L.odoN
  let i := o.pos % n
  let P := min (stamp - o.t0) u32max
  let old : Span := ⟨o.base, adv * L.odoM, o.t0, P⟩
  let lastTick := o.base + adv * L.odoM - 1
  let early := decide (o.ang < lastTick)
  let late := decide (o.pp < P)
  let q1 := L.normal i adv P
  let np := (o.pos + adv) % L.cyclePos
  let L := L.odoUpd fun o => { o with
    q0 := o.q1
    q1 := q1
    periods := o.periods ++ [(i, P)]
    spans := (o.spans ++ [old]).filter fun s => o.ang < s.base + s.len
    pos := np
    base := o.base + adv * L.odoM
    t0 := stamp
    sp := len
    catchup := o.catchup || early
    emitted := if late && !early then some L.time else o.emitted }
  let L := if np % n = 0 then L.revolutionEnd else L
  let L := L.odoUpd fun o => { o with pp := L.predict o.q0 o.q1 (np % n) len }
  let L := (L.setReg Reg.odoPeriod (BitVec.ofNat 32 P)).setReg Reg.odoPred (BitVec.ofNat 32 L.odo.pp)
  let L := if early then L.event Reg.odoEvent2 0 else L
  let L := if late then L.event Reg.odoEvent2 1 else L
  L.speedUpdate

/-- The span that starts at unwrapped angle b, milestone np, is taken up at `stamp` with no measured end of the one in
progress: `len` positions are predicted to last pp. What is still to be emitted up to b falls due over the time since t0 (R69), and a word
that has not reached the last micro-tick before b catches up (R44, R68, R73). A word beyond b holds until the target passes
it. -/
def Lane.realign (L : Lane) (stamp b np len pp : Nat) : Lane :=
  let o := L.odo
  let old : List Span := if o.base < b then [⟨o.base, b - o.base, o.t0, stamp - o.t0⟩] else []
  let early := decide (o.ang + 1 < b)
  let L := L.odoUpd fun o => { o with
    spans := (o.spans ++ old).filter fun s => decide (o.ang < s.base + s.len) && decide (s.base + s.len ≤ b)
    base := b
    t0 := stamp
    sp := len
    pp := pp
    pos := np
    catchup := o.catchup || early }
  let L := L.setReg Reg.odoPred (BitVec.ofNat 32 pp)
  if early then L.event Reg.odoEvent2 0 else L

/-- Entry to FULL_SYNC from CRANK_SYNC, SEEK or LOST at cycle milestone m (R43, R60, R72). -/
def Lane.enterFull (L : Lane) (stamp m : Nat) : Lane :=
  let t := L.odo.sensor L.odo.actSec
  let n := L.odoN
  let i1 := L.prevPos (m % n)
  let i0 := L.prevPos i1
  let q1 := L.normal i1 (L.spanLen i1) t.p1
  let q0 := L.normal i0 (L.spanLen i0) t.p0
  let len := L.spanLen (m % n)
  let pp := L.predict q0 q1 (m % n) len
  let L := L.odoUpd fun o => { o with
    state := .fullSync, routeSet := o.dir, cycle := 0, pos := m, milestone := m
    ang := L.odoM * m, word := L.odoM * m, base := L.odoM * m, t0 := stamp, sp := len, pp := pp, q0 := q0, q1 := q1
    catchup := false, emitted := some L.time, spans := [], holdCount := 0, periods := [], tprev := none, revClean := false
    virt := [], byVirt := false, phaseOfs := none, camCand := none, camOpen := none, camJudge := false, missRun := false
    conflicts := 0, conflictAt := none
    camSeen := decide (L.fld Reg.odoCamwin 0 11 ≤ m ∧ m ≤ L.fld Reg.odoCamwin 16 11) }
  let L := (L.setReg Reg.odoPeriod (BitVec.ofNat 32 t.p1)).setReg Reg.odoPred (BitVec.ofNat 32 pp)
  (L.event Reg.odoEvent 2).speedUpdate

/-! ### States -/

/-- Restart the search: gaps and k are cleared (R440). Cam edges that wait for a crank tooth are still evaluated as edges of
the cam (R37); a pending cam reference is given up (DESIGN CHOICE, log entry 104). -/
def Lane.restart (L : Lane) (st : OdoState) : Lane :=
  L.odoUpd fun o =>
    let t := o.sensor o.actSec
    { (o.setSensor o.actSec { t with gaps := 0, k := 0 }).breakRev with
      state := st, phaseOfs := none, camCand := none, virt := [], byVirt := false, camOpen := none, milestone := 0 }

/-- A tracker as STOPPED leaves it: the history, the locks and the arming of the input end (R26, R36, R440); SILENT and the
offset's pending position stay. -/
def Tracker.stopped (t : Tracker) : Tracker :=
  { t with edges := 0, p0 := 0, p1 := 0, cand := false, k := 0, gaps := 0, sinceGap := none, lock := false, pos := none
           agree := false, agreeRun := 0, noEdge := 0, armed := none, primed := false, seen := none, pwAt := none }

/-- Treat as a stall (R41, R48): to STOPPED, the histories end there and the arming floor applies again (R26). The active
sensor stays named as it was (DESIGN CHOICE, log entry 89). -/
def Lane.toStopped (L : Lane) : Lane :=
  let L := L.restart .stopped
  (L.odoUpd fun o => { o with
    contrary := [], camLock := false, byVirt := false, camWait := []
    pri := o.pri.stopped, sec := o.sec.stopped, cam := o.cam.stopped }).event Reg.odoEvent 0

/-- Enter LOST, with its fault unless an unexpected reversal caused it (R41, R51). -/
def Lane.toLost (L : Lane) (byReversal : Bool) : Lane :=
  let L := ((L.restart .lost).event Reg.odoEvent 4).count Reg.odoSynccnt 24 8
  if byReversal then L else L.raise .odoLost 0

/-- Enter HOLD on a pattern anomaly (R41, R44, R73). -/
def Lane.toHold (L : Lane) : Lane :=
  let L := ((L.event Reg.odoEvent 3).event Reg.odoEvent 9).raise .odoHold 0
  let L := (L.count Reg.odoSynccnt 16 8).count Reg.odoSynccnt 0 8
  let pp := L.odo.pp / max L.odo.sp 1
  (L.odoUpd fun o => { o.breakRev with
    state := .hold, holdCount := 0, pp := pp, sp := 1, virt := [], camOpen := none, camJudge := false }).setReg
    Reg.odoPred (BitVec.ofNat 32 pp)

/-! ### Two crank sensors -/

/-- Position, in 1/256, of a tracked sensor at a time, by its last edge and period (R45). -/
def Lane.posAt (L : Lane) (t : Tracker) (time : Nat) : Option Nat :=
  t.pos.map fun p =>
    let per := max (t.p1 / L.spanLen (L.prevPos p)) 1
    (p * 256 + (time - t.last) * 256 / per) % (L.odoN * 256)

/-- The circular difference a − b of positions in 1/256. -/
def Lane.posDiff (L : Lane) (a b : Nat) : Int :=
  let n := L.odoN * 256
  let d := (a + n - b % n) % n
  if 2 * d < n then d else (d : Int) - n

/-- Offset and agreeing lock after an edge of sensor `sec` at `stamp` (R45). One sixteenth of a negative difference is
rounded down, and the offset stays measured until EN is next written from 0 to 1 (DESIGN CHOICE, log entry 89). -/
def Lane.agreeUpdate (L : Lane) (sec : Bool) (stamp : Nat) (r : EdgeResult) : Lane :=
  let o := L.odo
  let own := o.sensor sec
  let oth := o.sensor (!sec)
  -- the primary position at which secondary milestone 0 fell
  let L := if sec && r == .candidate then
      match L.posAt o.pri stamp with
      | some p => L.odoUpd fun o => { o with sec := { o.sec with zeroAt := p } }
      | none => L
    else L
  let L := if sec && r == .gapFound && own.lock && o.pri.lock then
      let z := L.odo.sec.zeroAt
      let ofs := match o.secOfs with
        | none => z
        | some f => (((f : Int) + L.posDiff z f / 16) % (L.odoN * 256 : Int)).toNat
      L.odoUpd fun o => { o with secOfs := some ofs }
    else L
  match L.odo.secOfs, own.pos, L.posAt oth stamp with
  | some f, some p, some q =>
    let d := if sec then L.posDiff q (f + p * 256) else L.posDiff (f + q) (p * 256)
    let ok := own.lock && decide (-64 ≤ d ∧ d ≤ 64)
    L.odoUpd fun o =>
      let t := o.sensor sec
      o.setSensor sec { t with agree := ok, agreeRun := if ok then t.agreeRun + 1 else 0 }
  | _, _, _ => L

/-- The sensor that ODO_SRC.SEL names, true the secondary (R46); the secondary can be named only while it is tracked. -/
def Lane.named (L : Lane) (variantS : Bool) : Option Bool :=
  match L.fld Reg.odoSrc 1 2 with
  | 1 => some false
  | 2 => if L.secEn variantS then some true else none
  | _ => none

/-- The active crank sensor (R41, R46): in STOPPED the named one, else the one that was active last (DESIGN CHOICE, log
entry 89). -/
def Lane.active (L : Lane) (variantS : Bool) : Bool :=
  if L.odo.state == .stopped then (L.named variantS).getD L.odo.actSec else L.odo.actSec

/-- The cam window of R39 after the position moved from p to q (cycle milestones). -/
def Lane.camWindow (L : Lane) (p q : Nat) : Lane :=
  if !L.fourStroke then L
  else
    let hi := L.fld Reg.odoCamwin 16 11
    let c := L.cyclePos
    let L := match L.odo.camOpen with
      | some k => L.odoUpd fun o => { o with camOpen := some (k + (q + c - p) % c) }
      | none => L
    if (hi + c - p) % c < (q + c - p) % c then
      if L.odo.camSeen then
        L.odoUpd fun o => { o with camSeen := false, camLock := true, missRun := false, camOpen := none, camJudge := false }
      else L.odoUpd fun o => { o with camOpen := some 0, camJudge := false }
    else L

/-- The unwrapped angles count from a cycle earlier, so that they can go back by less than a cycle. -/
def Lane.liftAngles (L : Lane) : Lane :=
  let c := L.cycleLen
  L.odoUpd fun o => { o with
    ang := o.ang + c, base := o.base + c, conflictAt := o.conflictAt.map (· + 1)
    spans := o.spans.map fun s => { s with base := s.base + c } }

/-- An edge at revolution milestone m, stamped `stamp`, is the one to follow (R45): ahead of the span's start it ends the
span there; at or behind it, or before its time, it takes the place of that start. -/
def Lane.alignTo (L : Lane) (stamp m : Nat) : Lane :=
  let n := L.odoN
  let p := L.odo.pos
  let d := (m + n - p % n) % n
  let q := (p + d) % L.cyclePos
  let len := L.spanLen (m % n)
  if 2 * d ≤ n then
    let L := if 0 < d && decide (L.odo.t0 < stamp) then L.spanEnd stamp d len
      else L.realign stamp (L.odo.base + d * L.odoM) q len (L.perPos * len)
    L.camWindow p q
  else
    let back := (n - d) * L.odoM
    let L := if L.odo.base < back then L.liftAngles else L
    L.realign stamp (L.odo.base - back) ((p + L.cyclePos - (n - d)) % L.cyclePos) len (L.perPos * len)

/-- A switch is permitted to the sensor: automatic selection, and it is in agreeing lock (R46). -/
def Lane.switchOk (L : Lane) (variantS sec : Bool) : Bool :=
  L.secEn variantS && (L.fld Reg.odoSrc 1 2 == 0 || L.fld Reg.odoSrc 1 2 == 3) && (L.odo.sensor sec).agree

/-- The virtual edge that secondary milestone s at t gives: for primary milestone s + WHOLE + 1, at
t + (256 − FRAC) × P / 256 (R45). -/
def Lane.virtualOf (L : Lane) (s t : Nat) : Nat × Nat :=
  let f := L.odo.secOfs.getD 0
  (t + (256 - f % 256) * L.perPos / 256, (s + f / 256 + 1) % L.odoN)

/-- Switch to the other crank sensor (R45, R46). The secondary drives virtual edges from its last edge on; the primary's
last edge is the one to follow. Where the angle word is not valid the search starts anew on the sensor switched to. q0 and q1
keep their values from before HOLD, and a reference seen before HOLD is forgotten (DESIGN CHOICE, log entry 90). -/
def Lane.switch (L : Lane) : Lane :=
  if !L.mayAct 4 then L
  else
    let toSec := !L.odo.actSec
    let L := ((((L.acts 4).event Reg.odoEvent 8).raise .odoSwitch 0).count Reg.odoSynccnt 8 8).odoUpd fun o =>
      { o.breakRev with actSec := toSec, virt := [], byVirt := o.valid && toSec }
    match L.odo.state with
    | .stopped => L
    | .seek | .lost => L.restart L.odo.state
    | .crankSync => L.restart .seek
    | .fullSync | .hold =>
      let L := if L.odo.state == .hold then
          (L.odoUpd fun o => { o with state := .fullSync, camSeen := false }).event Reg.odoEvent 2
        else L
      if toSec then
        match L.odo.sec.pos with
        | some s => L.odoUpd fun o => { o with virt := [L.virtualOf s o.sec.last] }
        | none => L
      else
        match L.odo.pri.pos with
        | some p => L.alignTo L.odo.pri.last p
        | none => L

/-! ### The active sensor's edge -/

/-- A pattern anomaly of the active sensor (R41, R42): counted; in FULL_SYNC a switch or HOLD, in CRANK_SYNC a new search,
in HOLD the second anomaly of R44 leads to LOST. -/
def Lane.anomaly (L : Lane) (variantS : Bool) : Lane :=
  if !L.mayAct 4 then L
  else
    let L := L.odoUpd fun o =>
      let t := o.sensor o.actSec
      o.setSensor o.actSec { t with lock := false, agree := false, agreeRun := 0 }
    match L.odo.state with
    | .crankSync => ((L.acts 4).count Reg.odoSynccnt 0 8).restart .seek
    | .fullSync =>
      if L.switchOk variantS (!L.odo.actSec) then
        ((L.event Reg.odoEvent 9).count Reg.odoSynccnt 0 8).switch
      else (L.acts 4).toHold
    | .hold => (((L.acts 4).event Reg.odoEvent 9).count Reg.odoSynccnt 0 8).toLost false
    | _ => L

/-- Synchronisation is declared at an edge that is milestone 1 (R36, R40, R41, R55). A gapped-cam tooth that returned
CANDIDATE before it is not taken as a reference when the next cam tooth confirms it (DESIGN CHOICE, log entry 104). -/
def Lane.declareSync (L : Lane) (stamp : Nat) : Lane :=
  if L.odo.dir && !L.bit Reg.odoDir 29 then (L.event Reg.odoEvent 5).restart L.odo.state
  else if L.fourStroke then
    (L.odoUpd fun o => { o with state := .crankSync, pos := 1, milestone := 1, absPos := 0, phaseOfs := none,
                                camFrom := 0, camCand := none, camOpen := none }).event Reg.odoEvent 1
  else L.enterFull stamp 1

/-- The held angle at a stamp, in HOLD (R44, R59). -/
def Lane.heldAngle (L : Lane) (stamp : Nat) : Int :=
  let o := L.odo
  (o.base : Int) + (((stamp : Int) - o.t0) * L.odoM) / (max o.pp 1 : Nat)

/-- The unwrapped milestone at revolution position 1 nearest to an angle (R44). -/
def Lane.nearestOne (L : Lane) (a : Int) : Int :=
  let r : Int := L.odoN * L.odoM
  let m : Int := L.odoM
  (a - m + r / 2) / r * r + m

/-- The verifying gap in HOLD (R44, R73) realigns the angle word: to the nearest milestone at revolution position 1, where
the active sensor's own edges end the spans; by the virtual edge that it gives, where virtual edges do (DESIGN CHOICE, log
entry 90). The cam window in progress starts without a reference (log entry 90). -/
def Lane.verifyHold (L : Lane) (stamp : Nat) (a : Int) : Lane :=
  let t := L.odo.sensor L.odo.actSec
  let i := L.odoN - L.odoG - 1
  let q0 := L.normal i (L.spanLen i) t.p0
  let q1 := L.normal 0 1 t.p1
  let L := L.odoUpd fun o => { o.breakRev with
    state := .fullSync, q0 := q0, q1 := q1, periods := [], camSeen := false, camOpen := none }
  let L := ((L.setReg Reg.odoPeriod (BitVec.ofNat 32 t.p1)).event Reg.odoEvent 2).speedUpdate
  if L.odo.byVirt then L.odoUpd fun o => { o with virt := [L.virtualOf 1 stamp] }
  else
    let b := (L.nearestOne a).toNat
    L.realign stamp b (b / L.odoM % L.cyclePos) (L.spanLen 1) (L.predict q0 q1 1 (L.spanLen 1))

/-- An accepted, non-contrary edge of the active sensor, whose result is r (R35, R36, R41, R44). `dropped`: contrary
teeth were discarded before it (R30). The counts k and gaps stay at their top values (DESIGN CHOICE, log entry 88). In
HOLD an edge that verifies does so though contrary teeth were discarded before it (DESIGN CHOICE, log entry 90). -/
def Lane.activeEdge (L : Lane) (variantS : Bool) (stamp : Nat) (r : EdgeResult) (dropped : Bool) : Lane :=
  let o := L.odo
  let t := o.sensor o.actSec
  let n := L.odoN
  let d := n - L.odoG
  let expect := fun (p : Nat) => if p = 0 then EdgeResult.candidate else if p = 1 then .gapFound else .tooth
  match o.state with
  | .stopped => L
  | .seek | .lost =>
    if t.edges < 3 then L
    else
      let k := min (t.k + 1) 65535
      if r == .gapFound then
        let gaps := if 0 < t.gaps && k == d then min (t.gaps + 1) 255 else 1
        let L := L.odoUpd fun o => o.setSensor o.actSec { o.sensor o.actSec with k := 0, gaps := gaps }
        if L.fld Reg.odoGapratio 30 2 < gaps && L.mayAct 1 then L.declareSync stamp else L
      else L.odoUpd fun o => o.setSensor o.actSec { o.sensor o.actSec with k := k }
  | .crankSync =>
    let adv := L.spanLen o.pos
    let np := (o.pos + adv) % n
    if dropped || r != expect np then L.anomaly variantS
    else
      let L := L.odoUpd fun o => { o with pos := np, milestone := np, absPos := o.absPos + adv }
      match L.odo.phaseOfs with
      | some f => if L.mayAct 5 then L.enterFull stamp ((L.odo.absPos + f) % L.cyclePos) else L
      | none => L
  | .fullSync =>
    if o.byVirt then
      -- the secondary drives virtual edges of the primary numbering (R45)
      match t.pos with
      | some s =>
        if dropped || !t.lock then L.anomaly variantS
        else L.odoUpd fun o => { o with virt := o.virt ++ [L.virtualOf s stamp] }
      | none => L.anomaly variantS
    else
      let adv := L.spanLen (o.pos % n)
      let np := (o.pos + adv) % L.cyclePos
      if dropped || r != expect (np % n) then L.anomaly variantS
      else (L.spanEnd stamp adv (L.spanLen (np % n))).camWindow o.pos np
  | .hold =>
    let ofs : Int := if o.byVirt then o.secOfs.getD 0 * L.odoM / 256 else 0
    let a := L.heldAngle stamp - ofs
    let near := decide (4 * (a - L.nearestOne a).natAbs ≤ L.odoM)
    if r == .gapFound && near then (if L.mayAct 1 then L.verifyHold stamp a else L)
    else if dropped || r == .gapFound || r == .extra then L.anomaly variantS
    else L

/-- An accepted, non-contrary edge of the sensor that is not active (R45, R46): the gap of a sensor in agreeing lock brings
a forced change, or the return to the primary after one full revolution of agreement; in HOLD any edge in agreeing lock
brings the switch that is permitted. -/
def Lane.otherEdge (L : Lane) (variantS sec : Bool) (r : EdgeResult) : Lane :=
  let o := L.odo
  let t := o.sensor sec
  let auto := L.fld Reg.odoSrc 1 2 == 0 || L.fld Reg.odoSrc 1 2 == 3
  let wanted := L.named variantS == some sec
  let back := auto && !sec && L.bit Reg.odoSrc 0 && decide (L.odoN - L.odoG ≤ t.agreeRun) && o.state == .fullSync
  if r == .gapFound && t.agree && (wanted || back) then L.switch
  else if o.state == .hold && L.switchOk variantS sec then L.switch
  else L

/-! ### Conditioned inputs -/

/-- An input is a Hall input: CRK_TYPE, or CAM_TYPE (R27). -/
def Lane.hallIn (L : Lane) (cam : Bool) : Bool := L.bit Reg.odoSensor (if cam then 31 else 23)

/-- The transition is in the direction of the active edge: falling for EDGE = 0, rising for EDGE = 1 (R26, R27). -/
def Lane.inPolarity (L : Lane) (cam : Bool) (e : EdgeIn) : Bool := e.rising == L.bit Reg.odoSensor (if cam then 30 else 22)

/-- The pulse width is the source of the direction (R29). -/
def Lane.pulseWidth (L : Lane) : Bool := L.fld Reg.odoDir 30 2 == 1

/-- The Odometer takes edges: it is enabled, or EN was written 0 in this very TCLK (R42). -/
def Lane.odoTakes (L : Lane) : Bool :=
  L.odoEn || (match L.odo.acted with | some (t, r) => t == L.time && r == 0 | none => false)

/-- The direction of a crank tooth, true astern (R29). -/
def Lane.toothDir (L : Lane) (e : EdgeIn) : Bool :=
  match L.fld Reg.odoDir 30 2 with
  | 1 => (decide (e.width < L.fld Reg.odoDir 0 16 * 40)) == L.bit Reg.odoDir 25
  | 2 => e.dirHigh == L.bit Reg.odoDir 28
  | _ => false

/-- Arming threshold T in mV of a variable-reluctance input (R26). -/
def Lane.armLevel (L : Lane) (armed : Option Nat) : Nat :=
  let floor := max (L.fld Reg.odoSensor 8 8) 2 * 10
  match armed with
  | none => floor
  | some pk => max floor (match L.fld Reg.odoSensor 19 2 with
      | 0 => pk / 4 | 1 => pk * 3 / 8 | 2 => pk / 2 | _ => pk * 5 / 8)

/-- The tracker of the lane's own cam or crank input. -/
def Odo.input (o : Odo) (cam : Bool) : Tracker := if cam then o.cam else o.pri

/-- Put the tracker of the lane's own cam or crank input back. -/
def Odo.setInput (o : Odo) (cam : Bool) (t : Tracker) : Odo := if cam then { o with cam := t } else { o with pri := t }

/-- The lobe before a transition (R26): in the arming polarity and above T it arms a variable-reluctance input, and its
peak becomes Pk and is recorded. -/
def Lane.lobe (L : Lane) (cam : Bool) (e : EdgeIn) : Lane :=
  let t := L.odo.input cam
  if L.odoTakes && !L.hallIn cam && L.inPolarity cam e && decide (L.armLevel t.armed < e.peak) then
    (L.odoUpd fun o => o.setInput cam { o.input cam with armed := some (min e.peak 40950), primed := true }).setFld Reg.odoVrpeak
      (if cam then 16 else 0) 12 (min (e.peak / 10) 0xFFF)
  else L

/-- The input held its new level for the filter time (R28). -/
def Lane.steady (L : Lane) (e : EdgeIn) : Bool := decide (L.fld Reg.odoSensor 0 8 * 40 ≤ e.held)

/-- The transition only takes the input back to the level that the filter holds: it reverses a discarded one (R28). -/
def Tracker.returns (t : Tracker) (e : EdgeIn) : Bool := t.bounced == some (!e.rising)

/-- The filter of the lane's own input after a transition (R28): one that does not hold its level for the filter time is
discarded, and so is the one that reverses it. -/
def Lane.filterIn (L : Lane) (cam : Bool) (e : EdgeIn) : Lane :=
  let t := L.odo.input cam
  L.odoUpd fun o => o.setInput cam { t with bounced := if t.returns e || L.steady e then none else some e.rising }

/-- The lane's own input accepts the active edge: its direction is right, it changes the filtered level, and in
variable-reluctance mode a lobe has armed the input (R26, R27, R28). -/
def Lane.accepts (L : Lane) (cam : Bool) (e : EdgeIn) : Bool :=
  L.steady e && !(L.odo.input cam).returns e && L.inPolarity cam e && (L.hallIn cam || (L.odo.input cam).primed)

/-- The conditioned transition that a crank edge is for the lane (R25 to R29): of its own input, the active edge, or in
pulse-width mode the return edge of a pulse whose active edge was accepted; of the secondary, the next conditioned edge of
the other lane. -/
def Lane.crankIn (L : Lane) (variantS sec : Bool) (e : EdgeIn) : Option PinEdge :=
  if !L.odoTakes then none
  else if sec then
    match L.odo.secIn with
    | x :: _ => if L.secEn variantS && decide (x.stamp + L.dIn ≤ L.time) then some x else none
    | [] => none
  else if L.accepts false e then some ⟨L.time - L.dIn, true, 0⟩
  else if L.pulseWidth && L.odo.pri.pwAt.isSome && L.steady e && !L.odo.pri.returns e && !L.inPolarity false e then
    some ⟨L.time - L.dIn, false, e.width⟩
  else none

/-- The transition is the one at which the tooth is processed: its return edge in pulse-width mode (R29). -/
def Lane.isTooth (L : Lane) (x : PinEdge) : Bool := x.active == !L.pulseWidth

/-- Stamp of the tooth that a transition closes: that of its active edge (R25, R28, R29). -/
def PinEdge.tooth (x : PinEdge) : Nat := x.stamp - x.width

/-- A direction change is confirmed at the last of the contrary teeth `ts` (R30, R49 to R51, R440). -/
def Lane.reverse (L : Lane) (ts : List Nat) : Lane :=
  let nd := !L.odo.dir
  let was := L.odo.valid
  let commanded := nd == L.bit Reg.odoCtrl 4
  let L := (L.acts 2).odoUpd fun o => { o with dir := nd, contrary := [] }
  let L := if commanded then L.event Reg.odoEvent 6 else (L.event Reg.odoEvent 7).raise .odoRevUnexp 0
  let L := if was && !commanded then L.toLost true else L.restart .seek
  let L := L.odoUpd fun o =>
    let t := ts.foldl Tracker.take { o.sensor o.actSec with edges := 0, p0 := 0, p1 := 0, cand := false, k := 0, gaps := 0,
                                                             sinceGap := none, lock := false, pos := none, agree := false }
    o.setSensor o.actSec t
  if 2 ≤ ts.length then L.setReg Reg.odoPeriod (BitVec.ofNat 32 (L.odo.sensor L.odo.actSec).p1) else L

/-- An accepted cam reference at position p (absPos a of it) is judged (R37, R39). -/
def Lane.camReference (L : Lane) (p a : Nat) : Lane :=
  let lo := L.fld Reg.odoCamwin 0 11
  let hi := L.fld Reg.odoCamwin 16 11
  let n := L.odoN
  match L.odo.state with
  | .crankSync =>
    let L := L.odoUpd fun o => { o with camFrom := a }
    if lo % n ≤ p && p ≤ hi % n then
      let c := L.cyclePos
      L.odoUpd fun o => { o with phaseOfs := some ((lo / n * n + p + c * (a / c + 1) - a) % c) }
    else L.event Reg.odoEvent 11
  | .fullSync =>
    if lo ≤ p && p ≤ hi then
      if L.odo.camOpen.isSome then
        L.odoUpd fun o => { o with camOpen := none, camJudge := false, camLock := true, missRun := false }
      else L.odoUpd fun o => { o with camSeen := true }
    else
      let turn := L.odo.base / max L.cycleLen 1
      let run := match L.odo.conflictAt with
        | some k => if k = turn then L.odo.conflicts else if k + 1 = turn then L.odo.conflicts + 1 else 1
        | none => 1
      ((L.odoUpd fun o => { o with conflicts := run, conflictAt := some turn }).event Reg.odoEvent 11).raise .odoCamConflict 0
  | _ => L

/-- A cam edge stamped `stamp` is evaluated; p and a are the crank position and absPos at its stamp (R37). -/
def Lane.camTooth (L : Lane) (stamp p a : Nat) : Lane :=
  match L.fld Reg.odoWheel 22 2 with
  | 1 => L.camReference p a
  | 2 =>
    let (r, t) := (L.odo.cam.take stamp).onEdge 24 48 12
    let r := if t.edges < 3 then EdgeResult.tooth else r
    let L := L.odoUpd fun o => { o with cam := t }
    let L := match r with
      | .candidate => L.odoUpd fun o => { o with camCand := some (p, a) }
      | .gapFound =>
        match L.odo.camCand with
        | some (p, a) => (L.odoUpd fun o => { o with camCand := none }).camReference p a
        | none => L
      | _ => L.odoUpd fun o => { o with camCand := none }
    -- a tooth stamped after CAM_HI lets the window be judged, once it has confirmed what it can (R39)
    if L.odo.camOpen.isSome then L.odoUpd fun o => { o with camJudge := true } else L
  | _ => L

/-- Cam edges that waited for this crank tooth are evaluated (pulse-width mode, R29, R37, R38): those stamped before
the tooth at the position before it, the others at the position it opens. -/
def Lane.camDrain (L : Lane) (before : Bool) (stamp : Nat) : Lane :=
  let now := L.odo.camWait.filter fun c => if before then decide (c < stamp) else true
  let L := L.odoUpd fun o => { o with camWait := o.camWait.filter fun c => !(if before then decide (c < stamp) else true) }
  now.foldl (fun L c => L.camTooth c L.odo.pos L.odo.absPos) L

/-- An accepted crank tooth, stamped `stamp`, at the Odometer (R29, R30, R35 to R46). Conditions of R41 that R42 puts
after one of this TCLK are not acted on; the tooth is stamped and counted all the same. -/
def Lane.crankTooth (L : Lane) (variantS sec : Bool) (stamp : Nat) (e : EdgeIn) : Lane :=
  let act := L.active variantS
  let L := if L.pulseWidth && !sec then L.setFld Reg.odoDirpw 0 16 (min (e.width / 40) 0xFFFF) else L
  let L := if L.odo.state == .stopped && sec == act && L.odoEn && L.mayAct 1 then
      (L.odoUpd fun o =>
        { o.setSensor sec { o.sensor sec with edges := 0, p0 := 0, p1 := 0, cand := false, gaps := 0, k := 0 } with
          contrary := [], actSec := act }).restart .seek
    else L
  let both := L.secEn variantS
  let L := L.odoUpd fun o =>
    let o := o.setSensor sec { o.sensor sec with noEdge := 0, seen := some stamp, pwAt := none }
    if both then o.setSensor (!sec) { o.sensor (!sec) with noEdge := (o.sensor (!sec)).noEdge + 1 } else o
  if L.toothDir e != L.odo.dir then
    if sec != act then L
    else
      let ts := L.odo.contrary ++ [stamp]
      let L := if L.fld Reg.odoDir 26 2 + 1 ≤ ts.length && L.mayAct 2 then L.reverse ts
        else L.odoUpd fun o => { o with contrary := ts }
      L.camDrain false stamp
  else
    let L := if sec == act then L.camDrain true stamp else L
    let dropped := sec == act && !L.odo.contrary.isEmpty
    let L := if sec == act then L.odoUpd fun o => { o with contrary := [] } else L
    let lo := L.fld Reg.odoGapratio 0 8
    let hi := L.fld Reg.odoGapratio 8 8
    let (r, t) := ((L.odo.sensor sec).take stamp).onEdge lo hi (L.fld Reg.odoGapratio 16 8)
    let (r, t) := if t.edges < 3 then (EdgeResult.tooth, { t with cand := false }) else (r, t)
    let t := if t.edges < 3 then t else t.follow r L.odoN (L.odoN - L.odoG)
    let searching := !L.odo.valid
    let L := L.odoUpd fun o => o.setSensor sec t
    let L := if sec == act && searching && decide (2 ≤ t.edges) then L.setReg Reg.odoPeriod (BitVec.ofNat 32 t.p1) else L
    let L := if both then L.agreeUpdate sec stamp r else L
    if sec == act then (L.activeEdge variantS stamp r dropped).camDrain false stamp else L.otherEdge variantS sec r

/-- A crank transition at the Odometer (R25 to R30, R35 to R46): the lobe before it, its acceptance, and, where it is the
transition at which the tooth is processed, the tooth; the active edge of a pulse is stamped until its return edge comes
(R29, R47). -/
def Lane.crankEdge (L : Lane) (variantS sec : Bool) (e : EdgeIn) : Lane :=
  let L := if sec then L else L.lobe false e
  let x := L.crankIn variantS sec e
  let L := if sec then L else L.filterIn false e
  match x with
  | none => L
  | some x =>
    let L := L.odoUpd fun o => if sec then { o with secIn := o.secIn.tail } else { o with pri := { o.pri with primed := false } }
    if L.isTooth x then L.crankTooth variantS sec x.tooth { e with width := x.width }
    else if x.active then L.odoUpd fun o => o.setSensor sec { o.sensor sec with pwAt := some x.stamp }
    else L

/-- The cam input takes the transition (R26 to R28, R32). -/
def Lane.camTakes (L : Lane) (e : EdgeIn) : Bool := L.odoTakes && L.fourStroke && (L.lobe true e).accepts true e

/-- A cam transition at the Odometer (R26 to R28, R37 to R39). `crankFirst`: a crank edge of the same TCLK is still to be
acted on, and the cam edge belongs to the position it opens (R38); in pulse-width mode it waits for the tooth in
progress. -/
def Lane.camEdge (L : Lane) (crankFirst : Bool) (e : EdgeIn) : Lane :=
  let takes := L.camTakes e
  let L := (if L.fourStroke then L.lobe true e else L).filterIn true e
  if !takes then L
  else
    let stamp := L.time - L.dIn
    let L := L.odoUpd fun o => { o with cam := { o.cam with primed := false } }
    if L.pulseWidth || crankFirst then L.odoUpd fun o => { o with camWait := o.camWait ++ [stamp] }
    else L.camTooth stamp L.odo.pos L.odo.absPos

/-! ### Timeouts -/

/-- The timeout of the awaited edge of a sensor (R47). STALL_MAX = 0 gives a timeout of 0 (DESIGN CHOICE, log entry 91). -/
def Lane.toothTimeout (L : Lane) (sec : Bool) : Nat :=
  let o := L.odo
  let t := o.sensor sec
  let n := L.odoN
  let pe : Option Nat :=
    if t.edges < 2 then none
    else match o.state with
      | .fullSync => some (if sec == o.actSec then o.pp else L.perPos * L.spanLen (t.pos.getD 0))
      | .hold =>
        let p := o.ang / L.odoM % n
        some (o.pp * if n ≤ p + L.odoG + 1 then L.odoG + 1 else 1)
      | .crankSync =>
        let p := if sec == o.actSec then o.pos else t.pos.getD 0
        some (t.p1 / L.spanLen (L.prevPos p) * L.spanLen p)
      | _ => some t.p1
  let m := min (min (L.fld Reg.odoTimeout 0 14) 10737 * 400000) u32max
  match pe with
  | none => m
  | some p => min m (p * L.fld Reg.odoTimeout 24 8 / 16)

/-- The sensor's timeout has expired, judged D_IN after the stamp-based expiry (R47). A pulse whose active edge came in
time has the same timeout again for its return edge. A sensor without an edge since STOPPED counts as timed out. -/
def Lane.timedOut (L : Lane) (sec : Bool) : Bool :=
  let t := L.odo.sensor sec
  let d := L.toothTimeout sec
  match t.seen with
  | none => true
  | some a =>
    let b := match t.pwAt with
      | some p => if p ≤ a + d then p else a
      | none => a
    decide (b + d + L.dIn ≤ L.time)

/-- Declare a sensor silent (R46). -/
def Lane.declareSilent (L : Lane) (sec : Bool) : Lane :=
  ((L.odoUpd fun o => o.setSensor sec { o.sensor sec with silent := true, lock := false, agree := false, agreeRun := 0 }).event
    Reg.odoEvent (if sec then 14 else 13)).raise .odoSilent (if sec then 1 else 0)

/-- The tooth timeout expires (R41, R42, R47, R48). `other`: the other sensor is tracked and has not timed out; then the
active one is silent, and the anomaly leads on: in HOLD to the other sensor where it is permitted, else HOLD goes on. -/
def Lane.stall (L : Lane) (variantS other : Bool) : Lane :=
  let act := L.odo.actSec
  if L.odo.state == .stopped || (L.odo.sensor act).seen.isNone || !L.timedOut act || !L.mayAct 3 then L
  else if other then
    let L := if (L.odo.sensor act).silent then L else L.declareSilent act
    if L.odo.state == .hold then (if L.switchOk variantS (!act) then L.switch else L) else L.anomaly variantS
  else (L.acts 3).toStopped

/-! ### Micro-ticks -/

/-- Whether a micro-tick is due in this TCLK, and none was emitted or withheld in it (R65, R67, R70). -/
def Lane.tickDue (L : Lane) : Bool :=
  L.odo.valid && decide (L.odo.ang < L.target L.time) && L.odo.emitted != some L.time

/-- Emit one micro-tick: the angle word rises by one, a milestone is raised at a multiple of M, and the cycle counter
rises as the word wraps (R65, R66, R71). The catch-up flag still belongs to this micro-tick. -/
def Lane.emit (L : Lane) : Lane :=
  let a := L.odo.ang + 1
  let n := L.cycleLen
  let atMs := a % L.odoM = 0
  L.odoUpd fun o => { o with
    ang := a
    word := a % n
    emitted := some L.time
    cycle := if a % n = 0 then o.cycle + 1 else o.cycle
    milestone := if atMs then a / L.odoM % L.cyclePos else o.milestone
    holdCount := if atMs && o.state == .hold then o.holdCount + 1 else o.holdCount }

/-- After the consumers have seen the micro-tick: the catch-up ends when the word meets the target, and spans that are
wholly emitted are forgotten (R68, R69). -/
def Lane.emitDone (L : Lane) : Lane :=
  L.odoUpd fun o => { o with
    catchup := o.catchup && decide (o.ang < L.target L.time)
    spans := o.spans.filter fun s => o.ang < s.base + s.len }

/-! ### Mark generators -/

/-- The mark of generator g that stands at angle a of the cycle, if any (R74). -/
def Lane.markAt (L : Lane) (g a : Nat) : Option Nat :=
  if !L.bit (Reg.markCtrl g) 31 then none
  else
    let num := L.fld (Reg.markStep g) 8 24
    let den := L.fld (Reg.markStep g) 0 8
    let d := (a + L.cycleLen - L.fld (Reg.markStart g) 0 24 % L.cycleLen) % L.cycleLen
    let i := (d * den + num - 1) / max num 1
    if i < L.fld (Reg.markCtrl g) 0 16 && i * num / max den 1 == d then some i else none

/-- A mark fires: its index is recorded, and a mark in catch-up is counted as late (R74, R81). -/
def Lane.markFired (L : Lane) (g i : Nat) : Lane :=
  let L := L.setFld (Reg.markStat g) 0 16 i
  if L.odo.catchup then (L.count (Reg.markStat g) 16 8).event Reg.odoEvent2 7 else L

/-- A write to the START, STEP or CTRL register of a mark generator (R75): which 0 START, 1 STEP, 2 CTRL. The COUNT
written with a refused enable is stored (DESIGN CHOICE, log entry 91). -/
def Lane.writeMark (L : Lane) (g which : Nat) (v : Word) : Lane :=
  let en := L.bit (Reg.markCtrl g) 31
  if which = 0 then (if en then L else L.applyCodes (Reg.markStart g) v)
  else if which = 1 then (if en then L else L.applyCodes (Reg.markStep g) v)
  else if en then (if v.getLsbD 31 then L else L.setBit (Reg.markCtrl g) 31 false)
  else
    let num := L.fld (Reg.markStep g) 8 24
    let den := L.fld (Reg.markStep g) 0 8
    let cnt := bits v 0 16
    let L := L.setFld (Reg.markCtrl g) 0 16 cnt
    if !v.getLsbD 31 then L
    else if den ≥ 1 && den ≤ num && 1 ≤ cnt && decide ((cnt - 1) * num / max den 1 < L.cycleLen) then
      (L.setBit (Reg.markCtrl g) 31 true).setFld (Reg.markStat g) 16 8 0
    else L.event Reg.odoEvent2 8

/-! ### Writes to the Odometer's registers -/

/-- A write to ODO_CTRL (R33, R41, R42, R78): EN written 0 is a stall, EN written 1 needs a good description, RESYNC
restarts the search. An enable takes the primary as the last active sensor and forgets the measured offset (DESIGN CHOICE,
log entry 89). -/
def Lane.writeOdoCtrl (L : Lane) (v : Word) : Lane :=
  let was := L.odoEn
  let en := v.getLsbD 0
  let L := L.setBit Reg.odoCtrl 4 (v.getLsbD 4)
  if !en then
    let L := L.setBit Reg.odoCtrl 0 false
    if was then (L.acts 0).toStopped else L
  else
    let L := if was then L
      else if L.wheelOk then
        (L.setBit Reg.odoCtrl 0 true).odoUpd fun o => { o with
          state := .stopped, actSec := false, pri := o.pri.stopped, sec := o.sec.stopped, cam := o.cam.stopped
          secIn := [], secOfs := none, contrary := [] }
      else L.event Reg.odoEvent 15
    if v.getLsbD 5 && L.odoEn && L.odo.state != .stopped then
      let L := if L.odo.valid then L.event Reg.odoEvent 0 else L
      (L.acts 1).restart .seek
    else L

/-- A write to ODO_SRC (R45, R46). Where it ends the tracking of an active secondary, the primary becomes active: in
FULL_SYNC by a switch where the primary is in agreeing lock, else in HOLD; elsewhere the search starts anew (DESIGN CHOICE,
log entry 89). -/
def Lane.writeOdoSrc (L : Lane) (variantS : Bool) (v : Word) : Lane :=
  let L := L.applyCodes Reg.odoSrc v
  if !L.odo.actSec || L.secEn variantS then L
  else if L.odo.valid && L.odo.pri.agree then L.switch
  else
    let L := L.odoUpd fun o => { o with actSec := false, virt := [], byVirt := false, secIn := [] }
    match L.odo.state with
    | .fullSync => L.toHold
    | .crankSync => L.restart .seek
    | .seek | .lost => L.restart L.odo.state
    | .stopped | .hold => L

/-- A write to a register that R33 or R78 protects while EN = 1. -/
def Lane.writeOdoConfig (L : Lane) (a : Nat) (v : Word) : Lane :=
  if L.odoEn then L.event Reg.odoEvent 15 else L.applyCodes a v

/-- A host write to a geometry entry (R64). -/
def Lane.writeGeometry (L : Lane) (a : Nat) (v : Word) : Lane :=
  if !L.odoEn || L.bit Reg.odoGeoctrl 1 then L.applyCodes a v else L

/-- A write to ODO_GEOCTRL, with GEO_RESET (R64). -/
def Lane.writeGeoctrl (L : Lane) (v : Word) : Lane :=
  let L := L.applyCodes Reg.odoGeoctrl v
  if v.getLsbD 2 then (L.resetRange (Reg.odoGeoa 0) (Reg.odoGeob 1024)).setReg Reg.odoGeostat 0 else L

end Sys2Proof.Machine
end

