-- ==== Sys2Proof/Machine/SchedCore.lean ====
section
/-! DEFINITION. The scheduler of one lane: route headers and entries, lead and dwell offsets, arming, crossing, the
drive links, swaps, cuts and cancellation (04_waypoints_routes.md, 08_ignition.md R171 to R173, 10_combustion.md
R222). -/

namespace Sys2Proof.Machine

/-- Change the scheduler of a lane. -/
def Lane.schedUpd (L : Lane) (f : Sched → Sched) : Lane := { L with sched := f L.sched }

/-- Change one route of a lane. -/
def Lane.routeUpd (L : Lane) (r : Nat) (f : Route → Route) : Lane :=
  L.schedUpd fun s => { s with routes := vmod s.routes r f }

/-- Route r of a lane (R82). -/
def Lane.route (L : Lane) (r : Nat) : Route := vget L.sched.routes r {}

/-- The drive die that a route's outputs lie on: channels 16 to a die, gates 4 (R82, R115). -/
def routeDie (r : Nat) : Nat := if r < 192 then r / 16 else (r - 192) / 4

/-- The channel 0 to 15 or gate 0 to 3 of a route within its die (R105). -/
def routeCh (r : Nat) : Nat := if r < 192 then r % 16 else (r - 192) % 4

/-- Word 1 of a fault about a waypoint: entry index in [2:0], route cycle number in [7:3] (R255). -/
def eventName (idx cyc : Nat) : Nat := idx % 8 + 8 * (cyc % 32)

/-! ### Fields of an entry and of a header (R84, R89) -/

/-- TYPE of an entry. -/
def wpType (e : Entry) : Nat := e.toNat >>> 61 % 8
/-- PROFILE of an entry, the spark set of a SPARK. -/
def wpProfile (e : Entry) : Nat := e.toNat >>> 58 % 8
/-- FILTER of an entry. -/
def wpFilter (e : Entry) : Nat := e.toNat >>> 55 % 8
/-- NOLEAD of an entry. -/
def wpNoLead (e : Entry) : Bool := e.getLsbD 54
/-- The reserved field [53:48]. -/
def wpRsvd (e : Entry) : Nat := e.toNat >>> 48 % 64
/-- DUR of an entry. -/
def wpDur (e : Entry) : Nat := e.toNat >>> 24 % 2 ^ 24
/-- ANGLE of an entry. -/
def wpAngle (e : Entry) : Nat := e.toNat % 2 ^ 24
/-- The entry is a start: START_T or START_A (R84). -/
def wpIsStart (e : Entry) : Bool := wpType e == 1 || wpType e == 2

/-- Commit angle of a route's latched header (R89). -/
def Route.commit (t : Route) : Nat := bits t.w0 0 24
/-- EN of the latched header (R89). -/
def Route.en (t : Route) : Bool := t.w0.getLsbD 31
/-- LEAD_SRC of the latched header (R89). -/
def Route.leadSrc (t : Route) : Nat := bits t.w0 29 2
/-- LEAD_MAX of the latched header (R89). -/
def Route.leadMax (t : Route) : Nat := bits t.w2 0 24
/-- LATE_MAX of the latched header in TCLK; 0 for no limit (R89, R102). -/
def Route.lateMax (t : Route) : Nat := bits t.w1 0 16 * 400

/-- off(a) = (a − C) mod L for the latched commit angle (R83). -/
def Lane.off (L : Lane) (r a : Nat) : Nat :=
  let len := max L.cycleLen 1
  (a + len - (L.route r).commit % len) % len

/-- Address of a route's header in the route RAM (R88). -/
def headerAddr (r : Nat) : Nat := 0x0400F000 + 16 * r

/-- Address of bank b of route r in set s (R88). -/
def bankAddr (s b : Bool) (r : Nat) : Nat :=
  0x04000000 + (if s then 0x7800 else 0) + (if b then 0x3C00 else 0) + 64 * r

/-- Address of the detour of route r in set s (R112). -/
def Lane.detourAddr (L : Lane) (s : Bool) (r : Nat) : Nat :=
  L.fld Reg.wptDetour 15 6 * 0x8000 + (if s then 0x3C00 else 0) + 64 * r

/-- The active bank of route r in set s (R88). -/
def Sched.bank (s : Sched) (astern : Bool) (r : Nat) : Bool := if astern then s.bankAs.getLsbD r else s.bankAh.getLsbD r
/-- The pending flag of route r in set s (R92). -/
def Sched.pend (s : Sched) (astern : Bool) (r : Nat) : Bool := if astern then s.pendAs.getLsbD r else s.pendAh.getLsbD r

/-- The header of route r as it stands in the route RAM, corrected; none where it cannot be read (R90). -/
def Lane.liveHeader (L : Lane) (r : Nat) : Option (BitVec 128) :=
  let A := headerAddr r
  let merged := L.mem.merge.find? fun e => e.addr == A
  match L.seenWord A, merged with
  | d, none => d
  | d, some e =>
    let w := wideMask e.mask
    some ((d.getD (L.rawWord A).1 &&& ~~~w) ||| (e.data &&& w))

/-- COMMIT of the header as it stands in the route RAM, which ends the present route cycle (R90); of a header that cannot be
read, the latched one (log entry 94). -/
def Lane.liveCommit (L : Lane) (r : Nat) : Nat :=
  match L.liveHeader r with
  | some h => h.toNat % 2 ^ 24
  | none => (L.route r).commit

/-- EN of the header as it stands in the route RAM. -/
def Lane.liveEn (L : Lane) (r : Nat) : Bool := ((L.liveHeader r).getD 0).getLsbD 31

/-! ### Drive links (R105, R229) -/

/-- Commands of link d not yet wholly sent at module time `now`. -/
def Lane.linkDepth (L : Lane) (now d : Nat) : Nat :=
  ((vget L.sched.links d []).filter fun e => now < e.slotAt + 50).length

/-- The lane issues no drive command: it is silenced (R229), or not READY (R296, R418). -/
def Lane.mute (L : Lane) : Bool := L.silenced || !L.ready

/-- Put a command on link d: each command occupies the link for 125 ns and reaches the die 300 ns after its slot
begins (R105). -/
def Lane.linkPut (L : Lane) (now d : Nat) (c : DrvCmd) : Lane :=
  if L.mute then L
  else
    let at_ := max now (vget L.sched.linkFree d 0)
    let e : LinkEntry := ⟨{ c with qdelay := at_ - now }, at_, at_ + 120⟩
    let L := L.schedUpd fun s => { s with
      links := vmod s.links d fun q => q ++ [e]
      linkFree := vmod s.linkFree d fun _ => at_ + 50 }
    let n := min (L.linkDepth now d) 16
    if L.fld Reg.wptLinkq 0 5 < n then (L.setFld Reg.wptLinkq 0 5 n).setFld Reg.wptLinkq 12 4 d else L

/-- A late crossing that is not dropped is recorded (R102). -/
def Lane.recordLate (L : Lane) (r idx lateness : Nat) : Lane :=
  ((L.setReg Reg.wptLastlate (BitVec.ofNat 32 (r * 2 ^ 24 + idx * 2 ^ 21 + min (lateness / 40) (2 ^ 21 - 1)))).count
    Reg.wptCnt 16 16).event Reg.wptEvent 3

/-- A drop or a recorded cancellation (R107, R113). -/
def Lane.recordDrop (L : Lane) (r idx cause : Nat) (rcn : BitVec 32) : Lane :=
  (L.setReg Reg.wptLastdrop (BitVec.ofNat 32 (r * 2 ^ 24 + idx * 2 ^ 21 + cause * 2 ^ 12 + rcn.toNat % 2 ^ 12))).count
    Reg.wptCnt 0 16

/-- A waypoint is dropped with a cause (R107). -/
def Lane.dropWp (L : Lane) (r idx cause : Nat) : Lane :=
  (L.recordDrop r idx cause (L.route r).rcn).event Reg.wptEvent 5

/-- Link d takes no command now: 16 are queued, or earlier commands for the die wait (R101, R105). -/
def Lane.linkFull (L : Lane) (now d : Nat) : Bool :=
  !L.mute && (decide (16 ≤ L.linkDepth now d) || L.sched.held.any fun h => h.die == d)

/-- Send the command of a crossing: at once, or held while the link has no room or earlier crossings of the die wait
(R101, R105). -/
def Lane.sendCross (L : Lane) (now r : Nat) (c : DrvCmd) : Lane :=
  let d := routeDie r
  if L.linkFull now d then
    let L := L.schedUpd fun s => { s with held := s.held ++ [⟨r, d, c, now, (L.route r).rcn⟩] }
    (L.event Reg.wptEvent 8).raise .wptLinkHeld r (eventName c.idx c.cyc)
  else (if c.late then L.recordLate r c.idx c.lateness else L).linkPut now d c

/-! ### Lead and electrical offsets (R97, R173) -/

/-- The opening-delay estimate the scheduler uses: a report of the same TCLK does not yet count (R152). -/
def Lane.estOf (L : Lane) (n : Nat) : Nat :=
  match L.estOld.lookup n with
  | some v => bits v 8 24
  | none => L.fld (Reg.lndEst n) 8 24

/-- A time in TCLK as micro-ticks, rounded to the nearest, limited by LEAD_MAX; and whether it was limited (R97). -/
def Lane.leadOf (L : Lane) (r t : Nat) : Nat × Bool :=
  let pn := L.perPos
  let ld := (t * L.odoM + pn / 2) / pn
  let m := (L.route r).leadMax
  if m < ld then (m, true) else (ld, false)

/-- Lead of an entry of route r, and whether LEAD_MAX limited it (R97, R173). -/
def Lane.lead (L : Lane) (r : Nat) (e : Entry) : Nat × Bool :=
  let src := (L.route r).leadSrc
  if wpNoLead e || src = 0 then (0, false)
  else if 192 ≤ r then L.leadOf r (120 + L.fld (Reg.ignCtrl (r - 192)) 8 8 * 40)
  else if src = 2 && wpIsStart e then L.leadOf r (120 + L.estOf r)
  else L.leadOf r 120

/-- Electrical offset of an entry's waypoint, or of its spark point (R97, R173). -/
def Lane.elecOffset (L : Lane) (r : Nat) (e : Entry) : Lane × Nat :=
  let h := L.off r (wpAngle e)
  let (ld, clamped) := L.lead r e
  let L := if clamped then L.event Reg.wptEvent 7 else L
  if h < ld then (L.event Reg.wptEvent 6, 0) else (L, h - ld)

/-- Dwell time of a SPARK entry in TCLK (R173). -/
def Lane.dwellTime (L : Lane) (g : Nat) (e : Entry) : Nat :=
  let st := wpProfile e
  let t :=
    if wpDur e ≠ 0 then wpDur e * 40
    else if L.bit (Reg.setDwell st) 31 then L.fld (Reg.ignDwest g) 0 24
    else L.fld (Reg.setDwell st) 0 16 * 400
  max (L.fld (Reg.setLimit st) 0 16 * 400) (min t (L.fld (Reg.setLimit st) 16 16 * 400))

/-- Offset of the dwell point before a spark point at offset s (R173). -/
def Lane.dwellOffset (L : Lane) (r : Nat) (e : Entry) (s : Nat) : Lane × Nat :=
  let g := r - 192
  let pn := L.perPos
  let dw := (L.dwellTime g e * L.odoM + pn - 1) / pn
  if s < dw then (L.event (Reg.ignEvent g) 2, 0) else (L, s - dw)

/-! ### Arming (R85, R93, R98, R104) -/

/-- The entry is invalid in route r, after an entry at offset `prev` (R85). -/
def Lane.badEntry (L : Lane) (r : Nat) (prev : Option Nat) (e : Entry) : Bool :=
  let okType := if r < 192 then wpType e == 1 || wpType e == 2 || wpType e == 3 else wpType e == 4
  !okType || (wpType e != 3 && decide (4 < wpFilter e)) || wpRsvd e != 0 || decide (L.cycleLen ≤ wpAngle e)
    || (wpType e == 1 && wpDur e == 0) || (wpType e == 3 && (wpProfile e != 0 || wpDur e != 0))
    || (match prev with | some p => decide (L.off r (wpAngle e) ≤ p) | none => false)

/-- FILTER passes the route cycle number (R84). -/
def Lane.filterOk (L : Lane) (r : Nat) (e : Entry) : Bool :=
  let t := L.route r
  if wpType e = 3 then true
  else match wpFilter e with
    | 0 => true
    | 1 => !t.rcn.getLsbD 0
    | 2 => t.rcn.getLsbD 0
    | 3 => t.w1.getLsbD (16 + t.rcn.toNat % 16)
    | _ => false

/-- Where the entries of route r come from in this route cycle (R93, R112). -/
def Lane.srcAddr (L : Lane) (r : Nat) : Option Nat :=
  match (L.route r).src with
  | .none => none
  | .bank b => some (bankAddr L.odo.routeSet b r)
  | .detour => some (L.detourAddr L.odo.routeSet r)

/-- Read entry i of route r (R84), with its poison mark. -/
def Lane.readEntry (L : Lane) (base i : Nat) : Lane × Entry × Bool :=
  let (L, bs, p) := L.readBytes (base + 8 * i) 8 0x20 1
  (L, BitVec.ofNat 64 (leNat bs), p)

/-- A poisoned entry is refused (R104): a poisoned start is dropped, a poisoned END of an actuator route ends the event in
progress by fast decay. -/
def Lane.poisonEntry (L : Lane) (now r i : Nat) (e : Entry) : Lane :=
  let t := L.route r
  let L := (L.event Reg.wptEvent 9).raiseBy .wptPoison r (eventName i t.rcn.toNat) 0x20 1
  if wpType e = 3 && decide (r < 192) then L.sendCross now r { kind := .endFast, ch := routeCh r, cyc := t.rcn.toNat % 32, idx := i }
  else L.dropWp r i 5

/-- HORIZON × M, the distance at which an offset is frozen (R98). -/
def Lane.horizon (L : Lane) : Nat := max (bits L.sched.gov 20 4) 1 * L.odoM

/-- The offsets of an armed waypoint are frozen once the angle word comes within the horizon (R98, R173). -/
def Lane.freeze (L : Lane) (r : Nat) (a : Armed) : Armed :=
  let near := L.off r L.odo.word + L.horizon
  { a with
    frozen := a.frozen || decide (a.eoff ≤ near)
    dwellFrozen := a.dwellFrozen || (match a.dwell with | some d => decide (d ≤ near) | none => true) }

/-- Arm the first entry from index i on, of `fuel` entries, that passes its FILTER (R93, R100). In a partial route cycle
entries whose electrical offset is not above the entry angle's are passed over (R107, R441); of a SPARK entry it is that of
the dwell point that counts, so that no spark point is armed without its dwell point (DESIGN CHOICE, log entry 106). -/
def Lane.armFrom (L : Lane) (now r : Nat) : Nat → Nat → Lane
  | _, 0 => L.routeUpd r fun t => { t with armed := none, armNext := none }
  | i, fuel + 1 =>
    match L.srcAddr r with
    | none => L.routeUpd r fun t => { t with armed := none, armNext := none }
    | some base =>
      let (L, e, poison) := L.readEntry base i
      if poison then (L.poisonEntry now r i e).armFrom now r (i + 1) fuel
      else if wpType e = 0 then L.routeUpd r fun t => { t with armed := none, armNext := none }
      else if L.badEntry r (L.route r).prevOff e then
        let L := (L.event Reg.wptEvent 10).dropWp r i 6
        let L := L.raise .wptBadWp r (eventName i (L.route r).rcn.toNat)
        L.routeUpd r fun t => { t with armed := none, armNext := none, src := .none }
      else
        let L := L.routeUpd r fun t => { t with prevOff := some (L.off r (wpAngle e)) }
        if !L.filterOk r e then L.armFrom now r (i + 1) fuel
        else
          let (L, eo) := L.elecOffset r e
          let (L, dw) := if wpType e = 4 then (let (L, d) := L.dwellOffset r e eo; (L, some d)) else (L, none)
          let first := dw.getD eo
          if (match (L.route r).entryOff with | some a => decide (first ≤ a) | none => false) then
            L.armFrom now r (i + 1) fuel
          else
            L.routeUpd r fun t => { t with
              armNext := none
              armed := some (L.freeze r { idx := i, entry := e, dwell := dw, eoff := eo }) }

/-- At a milestone the electrical offsets of an armed waypoint are formed again unless they are frozen (R98, R173); one that
comes out at or below the angle word's is late. -/
def Lane.leadRecompute (L : Lane) (r : Nat) : Lane :=
  match (L.route r).armed with
  | none => L
  | some a =>
    let now := L.off r L.odo.word
    let a := L.freeze r a
    let (L, eo) := if a.frozen then (L, a.eoff) else L.elecOffset r a.entry
    let (L, dw) := match a.dwell with
      | some d => if a.dwellFrozen then (L, some d) else (let (L, d) := L.dwellOffset r a.entry eo; (L, some d))
      | none => (L, none)
    L.routeUpd r fun t => { t with armed := some { a with
      eoff := eo, dwell := dw
      behind := a.behind || (!a.frozen && decide (eo ≤ now))
      dwellBehind := a.dwellBehind || (match dw with | some d => !a.dwellFrozen && decide (d ≤ now) | none => false) } }

/-! ### Crossing (R100 to R104, R171, R172, R222, R223) -/

/-- Bit k of SLOTS, or bit b of GATES, of a CMBc_CUT word names route r (R221). -/
def cutNames (cut : Word) (r : Nat) : Bool := if r < 192 then cut.getLsbD (r % 8) else cut.getLsbD (8 + (r - 192) % 2)

/-- The cylinder of a route (R221). -/
def cylOf (r : Nat) : Nat := if r < 192 then r / 8 else (r - 192) / 2

/-- The starts of this route wait for a guard verdict (R223). -/
def Lane.cutHeld (L : Lane) (r : Nat) : Bool :=
  match vget L.cutWait (cylOf r) none with
  | some cut => cutNames cut r
  | none => false

/-- Why a start crossed now with this lateness is dropped, if it is (R102, R103, R107; order DESIGN CHOICE, log entry
21). -/
def Lane.startDrop (L : Lane) (r lateness : Nat) : Option Nat :=
  let t := L.route r
  if t.lateMax ≠ 0 && t.lateMax < lateness then some 1
  else if !L.schedOk then some 2
  else if L.odo.state == .hold && L.sched.gov.getLsbD 11 then some 3
  else if 0 < vget L.cuts r 0 then some 4
  else none

/-- The armed waypoint of route r crosses at the offset `first` (R100 to R104, R171, R172). Its lateness is that of R98
where a recomputation put it behind the angle word, the time since the angle word was there where a decision or a verdict was
awaited (R95, R223), and that of R69 else (R102). -/
def Lane.crossWp (L : Lane) (now r : Nat) (a : Armed) (first : Nat) : Lane :=
  let t := L.route r
  let gone := L.off r L.odo.word - first
  let waited := a.waited || decide (first < t.lateTo)
  let moved := if a.dwell.isSome then a.dwellBehind else a.behind
  let late := waited || moved || L.odo.catchup
  let lateness := if waited then L.time - L.due (L.odo.ang - gone) else if moved then gone * L.perPos / L.odoM else L.lateness
  let cmd : DrvCmd := { kind := .startT, ch := routeCh r, slot := (wpProfile a.entry), dur := (wpDur a.entry),
                        cyc := t.rcn.toNat % 32, idx := a.idx, late := late, lateness := if late then lateness else 0 }
  let nextEntry := fun (L : Lane) => L.routeUpd r fun t => { t with
    armed := none, armNext := some (a.idx + 1, L.time + 1) }
  match a.dwell with
  | some _ =>
    let L := match L.startDrop r cmd.lateness with
      | some c => L.dropWp r a.idx c
      | none => L.sendCross now r { cmd with kind := .dwell }
    L.routeUpd r fun t => { t with
      armed := some { a with dwell := none, waited := false }, armNext := some (a.idx, L.time + 1) }
  | none =>
    match (wpType a.entry) with
    | 1 =>
      nextEntry (match L.startDrop r cmd.lateness with
        | some c => L.dropWp r a.idx c
        | none => L.sendCross now r cmd)
    | 2 =>
      nextEntry (match L.startDrop r cmd.lateness with
        | some c => L.dropWp r a.idx c
        | none => (L.sendCross now r { cmd with kind := .startA }).routeUpd r fun t => { t with openA := t.openA ++ [a.idx] })
    | 3 => nextEntry (if t.openA.isEmpty then L else L.sendCross now r { cmd with kind := .endA })
    | _ => nextEntry (L.sendCross now r { cmd with kind := .spark })

/-- One TCLK of route r: its next entry is armed once its time has come, and the armed waypoint crosses once the angle
word has reached its offset (R100), at most one of them in a TCLK. A start whose guard verdict is awaited stays (R223). -/
def Lane.routeTick (L : Lane) (now r : Nat) : Lane :=
  let t := L.route r
  if t.phase != .running then L
  else if t.decWait.isSome then L
  else if (match t.armNext with | some (_, t0) => decide (L.time < t0) | none => false) then L
  else
    let L := match t.armed, t.armNext with
      | none, some (i, _) => L.armFrom now r i (8 - i)
      | some _, some _ => L.routeUpd r fun t => { t with armNext := none }
      | _, none => L
    match (L.route r).armed with
    | none => L
    | some a =>
      let a := L.freeze r a
      let L := L.routeUpd r fun t => { t with armed := some a }
      let first := a.dwell.getD a.eoff
      let isStart := a.dwell.isSome || (wpIsStart a.entry)
      if L.off r L.odo.word < first then L
      else if isStart && L.cutHeld r then L.routeUpd r fun t => { t with armed := some { a with waited := true } }
      else L.crossWp now r a first

/-! ### Route cycles (R90, R93, R95, R441) -/

/-- Latch the header; a poisoned one leaves the route without entries for the cycle (R90, R280). -/
def Lane.latchHeader (L : Lane) (r : Nat) : Lane :=
  let (L, bs, p) := L.readBytes (headerAddr r) 16 0x20 1
  if p then
    ((L.event Reg.wptEvent 9).raiseBy .wptPoison r (eventName 0 L.odo.cycle.toNat) 0x20 1).routeUpd r fun t =>
      { t with hdrBad := true }
  else
    let w := fun i => BitVec.ofNat 32 (leNat ((bs.drop (4 * i)).take 4))
    L.routeUpd r fun t => { t with w0 := w 0, w1 := w 1, w2 := w 2, hdrBad := false }

/-- The source of a route's entries after swaps and detour requests (R93, R111, R112): none where the latched header
disables the route or was poisoned (R280). -/
def Lane.chooseSrc (L : Lane) (r : Nat) : RouteSrc :=
  let s := L.sched
  if !(L.route r).en || (L.route r).hdrBad then .none
  else if s.hostIdle.getLsbD r then .none
  else if s.det.getLsbD r then (if L.bit Reg.wptDetour 0 then .detour else .none)
  else .bank (s.bank L.odo.routeSet r)

/-- Apply the swaps decided for route r, take up a request of host silence, and arm the first entry (R93, R111). A commit that
swaps at the very start at which a request to idle is taken up ends it, and the route runs (DESIGN CHOICE, log entry 106). -/
def Lane.applySwap (L : Lane) (now r : Nat) (ah as_ : Bool) : Lane :=
  let flip := fun (b : BitVec 256) => b ^^^ BitVec.ofNat 256 (2 ^ r)
  let clr := fun (b : BitVec 256) => putBit b r false
  let L := L.schedUpd fun s => { s with hostIdle := putBit s.hostIdle r (s.hostIdle.getLsbD r || s.idleReq.getLsbD r), idleReq := clr s.idleReq }
  let L := if ah then L.schedUpd fun s => { s with bankAh := flip s.bankAh, pendAh := clr s.pendAh } else L
  let L := if as_ then L.schedUpd fun s => { s with bankAs := flip s.bankAs, pendAs := clr s.pendAs } else L
  let L := if ah || as_ then
      (L.event Reg.wptEvent 2).schedUpd fun s => { s with det := clr s.det, hostIdle := clr s.hostIdle }
    else L
  let L := if L.sched.detReq.getLsbD r then
      (L.event Reg.wptEvent 1).schedUpd fun s => { s with det := putBit s.det r true, detReq := clr s.detReq }
    else L
  (L.routeUpd r fun t => { t with src := L.chooseSrc r, decWait := none, prevOff := none }).armFrom now r 0 8

/-- The estimate that travels with a decision: LNDn_EST of an actuator route, IGNg_DWEST of a gate route (R154, R175). -/
def Lane.decisionEst (L : Lane) (r : Nat) : BitVec 32 :=
  if r < 192 then L.reg (Reg.lndEst r) else L.reg (Reg.ignDwest (r - 192))

/-- Channel n is the odd member of a pair by lane L's own settings (R130, R157). -/
def Lane.oddMember (L : Lane) (n : Nat) : Bool := n % 2 == 1 && L.bit (Reg.quadCtrl (n / 4)) (if n % 4 < 2 then 1 else 2)

/-- The standby lane takes the authority lane's estimate where they differ (R154, R175); the odd member of a pair
keeps its reset values (R157). -/
def Lane.estSync (L : Lane) (d : Decision) : Lane :=
  if L.decisionEst d.route = d.est || (decide (d.route < 192) && L.oddMember d.route) then L
  else if d.route < 192 then
    ((L.setReg (Reg.lndEst d.route) d.est).event (Reg.lndEvent d.route) 4).raise .lndEstSync d.route
  else ((L.setReg (Reg.ignDwest (d.route - 192)) d.est).event (Reg.ignEvent (d.route - 192)) 9).raise .ignEstSync (d.route - 192)

/-- How a lane stands to the swap decisions of R95: it decides alone, it decides and tells the other lane, or it waits
for the other lane's decision. -/
inductive SwapRole where
  | alone | authority | standby
deriving DecidableEq, Repr

/-- A route whose waypoints a case cancels records its armed waypoint (R107); entries never armed leave no record. -/
def Lane.recordCancel (L : Lane) (r cause : Nat) : Lane :=
  let t := L.route r
  match t.armed with
  | some a => (L.recordDrop r a.idx cause t.rcn).event Reg.wptEvent 4
  | none => L

/-- The route cycle whose decision is to be discarded once this lane awaits it no longer (R95). -/
def Route.missed (t : Route) : Option (BitVec 32) := if t.decWait.isSome then some t.rcn else t.decMissed

/-- A full route cycle of route r begins (R83, R90, R93, R95, R222). -/
def Lane.routeStart (L : Lane) (now : Nat) (role : SwapRole) (r : Nat) : Lane :=
  let t := L.route r
  -- the cycle that ends: a moved commit angle cancels what was not crossed (R90)
  let L := if t.phase == .running && t.commit != L.liveCommit r then L.recordCancel r 9 else L
  let L := L.latchHeader r
  let L := { L with cuts := vmod L.cuts r fun n => n - 1 }
  let L := L.routeUpd r fun t => { t with
    phase := .running, isPartial := false, rcn := L.odo.cycle, armed := none, armNext := none, openA := [], decWait := none,
    decMissed := t.missed, entryOff := none, lateTo := 0, src := .none, cmpCycles := min (t.cmpCycles + 1) 2 }
  let ah := L.sched.pendAh.getLsbD r
  let as_ := L.sched.pendAs.getLsbD r
  match role with
  | .alone => L.applySwap now r ah as_
  | .authority =>
    let d : Decision := ⟨r, L.odo.cycle, ah, as_, L.decisionEst r⟩
    { L with xwk := { L.xwk with tx := L.xwk.tx ++ [XMsg.decision d] } }.applySwap now r ah as_
  | .standby =>
    match L.sched.decisions.find? fun d => d.route == r && d.rcn == L.odo.cycle with
    | some d =>
      let L := L.schedUpd fun s => { s with decisions := s.decisions.filter fun e => !(e.route == r && e.rcn == d.rcn) }
      (L.estSync d).applySwap now r d.swapAh d.swapAs
    | none => L.routeUpd r fun t => { t with decWait := some L.time }

/-- The waiting standby route acts on the decision, or decides alone (R95): a crossing that fell in an earlier TCLK is late,
and crosses as the route takes its turn of the TCLK (R101). -/
def Lane.decideSwap (L : Lane) (now r : Nat) (ah as_ : Bool) : Lane :=
  let passed := L.off r L.odo.word + (if L.odo.emitted == some L.time then 0 else 1)
  (L.routeUpd r fun t => { t with lateTo := passed }).applySwap now r ah as_

/-- A decision joins those kept for the route's own start (R95); it takes the place of one that was left over. -/
def Lane.keepDecision (L : Lane) (d : Decision) : Lane :=
  L.schedUpd fun c => { c with decisions := (c.decisions.filter fun e => !(e.route == d.route && e.rcn == d.rcn)) ++ [d] }

/-- A partial route cycle of route r begins at the entry angle (R441). -/
def Lane.partialStart (L : Lane) (now r : Nat) : Lane :=
  let L := L.latchHeader r
  let src := L.chooseSrc r
  let off := L.off r L.odo.word
  let L := L.routeUpd r fun t => { t with
    phase := .running, isPartial := true, armed := none, armNext := none, openA := [], decWait := none, src := src
    decMissed := t.missed, rcn := if t.commit ≤ L.odo.word then L.odo.cycle else L.odo.cycle - 1, prevOff := none
    entryOff := some off, lateTo := 0 }
  L.armFrom now r 0 8

/-- Fold a change over all 240 routes, in ascending order (R101). -/
def Lane.eachRoute (L : Lane) (f : Lane → Nat → Lane) : Lane := (List.range 240).foldl f L

/-- The routes start (R108): by SYNC_WAIT each waits for its next commit angle, or begins a partial cycle (R441); in safe
state they stay idle (R266). -/
def Lane.routesStart (L : Lane) (now : Nat) : Lane :=
  if !L.bit Reg.wptCtrl 0 || L.view == .safe then L
  else if L.sched.gov.getLsbD 10 then L.eachRoute fun L r => L.routeUpd r fun t => { t with phase := .waiting, armed := none, armNext := none }
  else L.eachRoute fun L r => L.partialStart now r

/-- A case of R107 cancels every waypoint, with its cause (7 STOP, 8 REVERSE); the routes stay idle (R108). -/
def Lane.cancelAll (L : Lane) (cause : Nat) : Lane :=
  L.eachRoute fun L r =>
    if (L.route r).phase == .idle then L
    else (L.recordCancel r cause).routeUpd r fun t =>
      { t with phase := .idle, armed := none, armNext := none, decMissed := t.missed, decWait := none, openA := [], src := .none }

/-- Every route takes its turn of this TCLK (R100, R101), unless it has taken it. -/
def Lane.routesTurn (L : Lane) (now : Nat) : Lane :=
  if !L.odo.valid || L.sched.turnAt == some L.time then L
  else (L.schedUpd fun s => { s with turnAt := some L.time }).eachRoute fun L r => L.routeTick now r

/-- Send STOP or HALT to every drive die (R141); a link with no room takes it after the crossings that wait (R13, R101,
R108). -/
def Lane.sendAllDies (L : Lane) (now : Nat) (k : DrvKind) : Lane :=
  (List.range 12).foldl (fun L d =>
    if L.linkFull now d then L.schedUpd fun s => { s with held := s.held ++ [⟨240, d, { kind := k }, now, 0⟩] }
    else L.linkPut now d { kind := k }) L

/-- The scheduler stops (R107): every waypoint cancelled, STOP or HALT to the dies. -/
def Lane.schedStop (L : Lane) (now : Nat) (byReversal : Bool) : Lane :=
  if byReversal then (L.cancelAll 8).sendAllDies now .halt else (L.cancelAll 7).sendAllDies now .stop

/-- The lane's links drop every command whose transmission has not ended (R229). -/
def Lane.dropLinks (L : Lane) (now : Nat) : Lane :=
  L.schedUpd fun s => { s with held := [], links := s.links.map fun q => q.filter fun e => decide (e.slotAt + 50 ≤ now) }

/-! ### Commits, shadow window and route RAM (R91, R92, R110) -/

/-- Statuses with which a request completes (R326). -/
inductive Status where
  | ok | decode | busy | notOwner | poison | absent | aborted | badReq
deriving DecidableEq, Repr

/-- Code of a status (R326). -/
def Status.code : Status → Nat
  | .ok => 0 | .decode => 1 | .busy => 2 | .notOwner => 3 | .poison => 4 | .absent => 5 | .aborted => 6 | .badReq => 7

/-- Owner of a route: host port 0 to 3 (R110, R113 WPT_OWNERn). -/
def Lane.owner (L : Lane) (r : Nat) : Nat := L.fld (Reg.wptOwner (r / 16)) (2 * (r % 16)) 2

/-- The writer may write route r: its owner, or the service core and the loader (R110). -/
def Lane.owns (L : Lane) (w : Writer) (r : Nat) : Bool :=
  match w with
  | .host p => L.owner r == p.val
  | _ => true

/-- A write to WPT_COMMIT (R92, R113). -/
def Lane.writeCommit (L : Lane) (w : Writer) (v : Word) : Lane × Status :=
  let cancel := v.getLsbD 31
  let astern := v.getLsbD 29
  let r := bits v 0 8
  let apply := fun (L : Lane) (r : Nat) =>
    L.schedUpd fun s => if astern then { s with pendAs := putBit s.pendAs r (!cancel) } else { s with pendAh := putBit s.pendAh r (!cancel) }
  if v.getLsbD 30 then (L.eachRoute fun L r => if L.owns w r then apply L r else L, .ok)
  else if 240 ≤ r then (L, .ok)
  else if !L.owns w r then (L, .notOwner)
  else (apply L r, .ok)

/-- Set and route of an address in the shadow window (R91). -/
def shadowOf (a : Nat) : Option (Bool × Nat) :=
  let o := a - 0x10010000
  if a < 0x10010000 then none
  else if 0x8000 ≤ o && o < 0xBC00 then some (false, (o - 0x8000) / 64)
  else if 0xBC00 ≤ o && o < 0xF800 then some (true, (o - 0xBC00) / 64)
  else none

/-- The address in the route RAM that an address of the shadow window stands for (R91). -/
def Lane.shadowAddr (L : Lane) (a : Nat) : Nat :=
  match shadowOf a with
  | none => 0
  | some (s, r) => bankAddr s (!L.sched.bank s r) r + (a - 0x10010000 - (if s then 0xBC00 else 0x8000)) % 64

/-- A write of bytes to the shadow window (R91, R92, R110), all in one route. Where the writer owns the route not and a commit
is pending too, the answer is NOT_OWNER (DESIGN CHOICE, log entry 106). -/
def Lane.writeShadow (L : Lane) (w : Writer) (a : Nat) (bs : List Byte) (mid : Nat) : Lane × Status :=
  match shadowOf a with
  | none => (L, .decode)
  | some (s, r) =>
    if !L.owns w r then (L, .notOwner)
    else if L.sched.pend s r then (L, .busy)
    else (L.writeBytes (L.shadowAddr a) bs mid, .ok)

/-- What a direct write to an address of the route RAM may do (R88, R91, R110): none for the reserved part. -/
def routeOfRam (a : Nat) : Option (Nat × Bool) :=
  let o := a - 0x04000000
  if o < 0xF000 then some (o % 0x3C00 / 64, false) else if o < 0xFF00 then some ((o - 0xF000) / 16, true) else none

/-- A direct write of bytes to the route RAM (R91, R110), all in one 16-byte word: to a header or a bank of a route whose
latched header has EN = 0, whether a commit is pending or not (DESIGN CHOICE, log entry 106), or anywhere while the lane loads
its configuration. -/
def Lane.writeRouteRam (L : Lane) (w : Writer) (a : Nat) (bs : List Byte) (mid : Nat) : Lane × Status :=
  match routeOfRam a with
  | none => (L, .ok)
  | some (r, isHeader) =>
    let loading := match w with | .image => true | .core => !L.ready | .host _ => false
    if !L.owns w r then (L, .notOwner)
    else if loading || isHeader || !(L.route r).en then (L.writeBytes a bs mid, .ok)
    else (L, .busy)

end Sys2Proof.Machine
end

