-- ==== Sys2Proof/Machine/AcqCore.lean ====
section
/-! DEFINITION. Analogue acquisition of a lane: angle channels, scan modulators, calibration (09_acquisition.md). -/

namespace Sys2Proof.Machine

/-! ### Internal masters and DMA requests -/

/-- Words as bytes, least significant first. -/
def wordBytes (ws : List Word) : List Byte := (ws.map fun w => leBytes w.toNat 4).flatten

/-- An internal master writes words to the main SRAM; an address that R15 does not map is refused with a DECODE fault (R18),
and during the initialisation the write waits (R290). -/
def Lane.sramWrite (L : Lane) (a : Nat) (bs : List Byte) (mid : Nat) : Lane :=
  if 0x00200000 < a + bs.length then L.raiseBy .busDecode mid a mid 2
  else if L.initing then L.waitWrite .core a bs
  else L.writeBytes a bs mid

/-- A request of event source k arrives at its DMA request counter (R363). -/
def Lane.dmaRequestOf (L : Lane) (k : Nat) : Lane :=
  if L.fld (Reg.dmaReqcnt (k / 8)) (4 * (k % 8)) 4 = 15 then L.event Reg.dmaReqovr k
  else L.count (Reg.dmaReqcnt (k / 8)) (4 * (k % 8)) 4

/-! ### Words and coefficients (R192 to R195) -/

/-- OSR of a code (R192). -/
def osrOf (c : Nat) : Nat := 2 ^ (6 + min c 8)

/-- The sample word of R195: a 24-bit code and a status byte. -/
def sampleWord (left : Bool) (code st : Nat) : Word :=
  BitVec.ofNat 32 (if left then code % 2 ^ 24 * 256 + st else code % 2 ^ 24 + st * 2 ^ 24)

/-- The calibrated, unclamped value of a raw filter value (R193). -/
def calValue (c : BitVec 24 × BitVec 24) (x : Int) : Int := (x + c.1.toInt) * c.2.toNat / 2 ^ 23

/-- Change the acquisition of a lane. -/
def Lane.acqUpd (L : Lane) (f : Acq → Acq) : Lane := { L with acq := f L.acq }
/-- Angle channel a. -/
def Lane.ac (L : Lane) (a : Nat) : AcChan := vget L.acq.acs a {}
/-- Change angle channel a. -/
def Lane.acUpd (L : Lane) (a : Nat) (f : AcChan → AcChan) : Lane := L.acqUpd fun q => { q with acs := vmod q.acs a f }
/-- Scan modulator m. -/
def Lane.sc (L : Lane) (m : Nat) : ScanMod := vget L.acq.scs m {}
/-- Change scan modulator m. -/
def Lane.scUpd (L : Lane) (m : Nat) (f : ScanMod → ScanMod) : Lane := L.acqUpd fun q => { q with scs := vmod q.scs m f }

/-- Coefficients in use at angle channel a (R215 ADC_CTRL.CAL_SRC). -/
def Lane.acCoef (L : Lane) (l : LaneId) (a : Nat) : BitVec 24 × BitVec 24 :=
  let trim := (Config.acTrimOfs (laneNum l) a ^^^ L.sdTrim.extractLsb' (48 * a) 24,
    Config.acTrimGain (laneNum l) a ^^^ L.sdTrim.extractLsb' (48 * a + 24) 24)
  if L.bit Reg.adcCtrl 8 then (L.ac a).coef.getD trim else trim

/-- Coefficients in use at scan modulator m. -/
def Lane.scCoef (L : Lane) (l : LaneId) (m : Nat) : BitVec 24 × BitVec 24 :=
  let trim := (Config.scTrimOfs (laneNum l) m ^^^ L.sdTrim.extractLsb' (1152 + 48 * m) 24,
    Config.scTrimGain (laneNum l) m ^^^ L.sdTrim.extractLsb' (1152 + 48 * m + 24) 24)
  if L.bit Reg.adcCtrl 8 then (L.sc m).coef.getD trim else trim

/-- OSR of angle channel a (R192). -/
def Lane.acOsr (L : Lane) (a : Nat) : Nat := osrOf (L.fld (Reg.acCtrl a) 24 4)
/-- Group delay GD of angle channel a in TCLK (R189). -/
def Lane.acGd (L : Lane) (a : Nat) : Nat := 3920 * (L.acOsr a / 8) + 40
/-- Output period T of angle channel a in TCLK (R192). -/
def Lane.acT (L : Lane) (a : Nat) : Nat := L.acOsr a * 80
/-- Refill time of angle channel a in TCLK: 99 × D1 MCLK (R203). -/
def Lane.acRefill (L : Lane) (a : Nat) : Nat := 99 * (L.acOsr a / 8) * 80
/-- LEN of the capture window. -/
def Lane.acLen (L : Lane) (a : Nat) : Nat := L.fld (Reg.acWin a) 0 16
/-- START_MODE, with 0b11 as 0b00 (R215). -/
def Lane.acMode (L : Lane) (a : Nat) : Nat := L.fld (Reg.acCtrl a) 18 2 % 3
/-- The main path of an angle channel delivers outputs: enabled, not calibrating, not in IDLE (R209, R210, R405). -/
def Lane.acRuns (L : Lane) (a : Nat) : Bool :=
  L.bit (Reg.acCtrl a) 31 && (!L.acq.calRun.getLsbD a || (L.ac a).calDue) && !L.power.idle

/-! ### Combustion's share of a frame (R216, R217) -/

/-- Cylinder c of a lane. -/
def Lane.cyl (L : Lane) (c : Nat) : Cyl := vget L.acq.cyls c {}
/-- Change cylinder c. -/
def Lane.cylUpd (L : Lane) (c : Nat) (f : Cyl → Cyl) : Lane := L.acqUpd fun q => { q with cyls := vmod q.cyls c f }
/-- Angle channel that a CMBc_CTRL word gives cylinder c (R226 ACH). -/
def achOf (ctrl : Word) (c : Nat) : Nat := if 23 < bits ctrl 24 5 then c else bits ctrl 24 5

/-- A frame of channel a opens: the cylinders that take it latch their settings (R216; the enables are judged here,
DEDUCED, log entry 22). -/
def Lane.cmbOpen (L : Lane) (a : Nat) : Lane :=
  if !L.bit Reg.cmbCtrl 31 then L
  else
    (List.range 24).foldl (fun L c =>
      if L.bit (Reg.cylCtrl c) 31 && achOf (L.reg (Reg.cylCtrl c)) c == a then
        L.cylUpd c fun y => { y with cur := some {
          ctrl := L.reg (Reg.cylCtrl c), peg := L.reg (Reg.cylPeg c), win := L.reg (Reg.cylWin c)
          limit := L.reg (Reg.cylLimit c), cut := L.reg (Reg.cylCut c), pegref := L.reg (Reg.cylPegref c) } }
      else L) L

/-- VLEN in force (R226). -/
def Lane.vlen (L : Lane) : Nat :=
  let v := L.fld Reg.cmbCtrl 0 11
  if v = 0 ∨ 1440 < v then 1440 else v

/-- One sample of the frame reaches the accumulation (R217); vd is the table entry for it, S the rise span. -/
def CylAcc.sample (y : CylAcc) (S : Nat) (vd x0 : Int) (miss ovr : Bool) : CylAcc :=
  let j := y.n
  let x := if miss then y.xh else x0
  let y := { y with xh := x, acc := y.acc + x * vd, sdv := y.sdv + vd, n := j + 1,
                    last := ((if miss then none else some x) :: y.last).take 9 }
  if miss then y
  else
    let pf := bits y.peg 16 16
    let y := if pf ≤ j && j < pf + bits y.peg 0 16 then { y with ps := y.ps + x, pn := y.pn + 1 } else y
    if bits y.win 0 16 ≤ j && j ≤ bits y.win 16 16 then
      let y := match y.pmax with
        | some p => if p.1 < x then { y with pmax := some (x, j, ovr) } else y
        | none => { y with pmax := some (x, j, ovr) }
      let span := y.last.take (S + 1)
      if S ≤ j && bits y.win 0 16 ≤ j - S && span.length == S + 1 && span.all Option.isSome then
        match span.getLastD none with
        | some xk =>
          match y.dmax with
          | some d => if d.1 < x - xk then { y with dmax := some (x - xk, j) } else y
          | none => { y with dmax := some (x - xk, j) }
        | none => y
      else y
    else y

/-- A sample word of channel a's frame reaches the cylinders that take it. -/
def Lane.cmbSample (L : Lane) (a : Nat) (x : Int) (miss ovr : Bool) : Lane :=
  (List.range 24).foldl (fun L c =>
    match (L.cyl c).cur with
    | some y =>
      if achOf y.ctrl c == a then
        let vd := (L.reg (Reg.cmbVd ((y.n + bits y.ctrl 0 11) % L.vlen))).toInt
        L.cylUpd c fun z => { z with cur := some (y.sample (2 ^ L.fld Reg.cmbCtrl 12 2) vd x miss ovr) }
      else L
    | none => L) L

/-- The frame of channel a closes and is handed to the combustion unit (R202). -/
def Lane.cmbClose (L : Lane) (a : Nat) (i : FrameInfo) : Lane :=
  (List.range 24).foldl (fun L c =>
    match (L.cyl c).cur with
    | some y => if achOf y.ctrl c == a then L.cylUpd c fun z => { z with cur := none, closed := some (y, i) } else L
    | none => L) L

/-! ### Frames (R199 to R203) -/

/-- Address of the record of frame slot s (R201). -/
def Lane.recAddr (L : Lane) (a s : Nat) : Nat := (L.reg (Reg.acRbase a)).toNat % 2 ^ 21 / 16 * 16 + 16 * s

/-- Address of sample j of frame slot s (R201). -/
def Lane.sampleAddr (L : Lane) (a s j : Nat) : Nat :=
  (L.reg (Reg.acFbase a)).toNat % 2 ^ 21 / 16 * 16 + L.fld (Reg.acFstride a) 4 14 * 16 * s + 4 * j

/-- Words 2 and 3 of the record of the open frame (R201). -/
def AcChan.recTail (c : AcChan) (done aborted : Bool) : List Word :=
  let b := fun (x : Bool) (i : Nat) => if x then 2 ^ i else 0
  [BitVec.ofNat 32 (c.count * 2 ^ 16 + c.first),
   BitVec.ofNat 32 (b done 31 + b aborted 30 + b c.comp 29 + b c.ovrAny 28 + b c.lateAny 27 + b c.missAny 26)]

/-- The window opens at a mark (R201, R202): the record is written, the slot advances. -/
def Lane.openFrame (L : Lane) (a : Nat) (m : AcMark) (comp : Bool) : Lane :=
  let L := L.setReg (Reg.acSeq a) (L.reg (Reg.acSeq a) + 1)
  let L := L.acUpd a fun c => { c with
    state := .capture, taken := 0, count := 0, frame := c.slot, slot := (c.slot + 1) % (L.fld (Reg.acFstride a) 28 4 + 1),
    first := m.idx, cycle := m.cycle, comp := comp, ovrAny := false, lateAny := false, missAny := false, closing := false,
    cross := none }
  let c := L.ac a
  let L := L.sramWrite (L.recAddr a c.frame) (wordBytes ([L.reg (Reg.acSeq a), m.cycle] ++ c.recTail false false)) 0x23
  L.cmbOpen a

/-- The frame of channel a closes (R202, R203): words 2 and 3, the combustion unit, the flag, the DMA request. Waiting marks
of the frame are discarded; the others go on waiting (R196, R199). -/
def Lane.closeFrame (L : Lane) (a : Nat) (aborted : Bool) (next : CapState) : Lane :=
  let c := L.ac a
  let L := L.sramWrite (L.recAddr a c.frame + 8) (wordBytes (c.recTail true aborted)) 0x23
  let L := L.cmbClose a ⟨a, aborted, c.first, L.reg (Reg.acSeq a), c.cycle, c.ovrAny, c.missAny, c.lateAny⟩
  let L := (L.event (Reg.acEvent a) (if aborted then 1 else 0)).dmaRequestOf a
  L.acUpd a fun c => { c with
    state := next, marks := c.marks.filter fun m => !m.framed, taken := 0, count := 0, closing := false, cross := none }

/-- The state after a close: ARMED with RERUN = 1, else IDLE (R203). -/
def Lane.afterClose (L : Lane) (a : Nat) : CapState := if L.bit (Reg.acCtrl a) 17 then .armed else .idle

/-- A sample is formed for a mark (R195, R196): its word, in ADCa_LAST, and the flags of what it carries. -/
def Lane.formSample (L : Lane) (a : Nat) (m : AcMark) (v : Int) (ovr miss : Bool) : Lane :=
  let code := if miss then 0 else ofSigned (satSigned v 24) 24
  let st := (if ovr then 0x80 else 0) + (if m.late then 0x40 else 0) + (if miss then 0x08 else 0)
  let L := L.setReg (Reg.acLast a) (sampleWord (L.bit (Reg.acCtrl a) 23) code st)
  let L := if ovr then L.event (Reg.acEvent a) 6 else L
  let L := if m.late then L.event (Reg.acEvent a) 4 else L
  if miss then L.event (Reg.acEvent a) 5 else L

/-- A sample of a mark that belongs to the open frame is its word number COUNT (R195 to R197, R202). -/
def Lane.writeSample (L : Lane) (a : Nat) (m : AcMark) (v : Int) (ovr miss : Bool) : Lane :=
  let c := L.ac a
  let L := L.formSample a m v ovr miss
  if !m.framed then L
  else
    let L := L.sramWrite (L.sampleAddr a c.frame c.count) (wordBytes [L.reg (Reg.acLast a)]) 0x23
    let L := if miss && !c.missAny then L.raise .adcMiss a else L
    let L := L.acUpd a fun c => { c with
      count := c.count + 1, ovrAny := c.ovrAny || ovr, lateAny := c.lateAny || m.late, missAny := c.missAny || miss }
    let L := L.cmbSample a (if miss then 0 else satSigned v 24) miss ovr
    if (L.ac a).count = L.acLen a then L.closeFrame a false (L.afterClose a) else L

/-- What the held outputs say of a mark (R196). -/
inductive Placement where
  | wait | miss | value (v : Int) (ovr : Bool)
deriving DecidableEq, Repr

/-- Place a mark among the outputs held, newest first (R196). -/
def placeMark (outs : List (Int × Nat × Bool)) (m : AcMark) (gd T : Nat) : Placement :=
  let tq := m.ts + gd
  if m.lost then .miss
  else
    match outs.find? fun o => o.2.1 ≤ tq, (outs.filter fun o => decide (tq < o.2.1)).getLast? with
    | none, some _ => .miss
    | some k, some n =>
      .value (k.1 + (n.1 - k.1) * ((tq - k.2.1) * 65536 / T) / 65536) (k.2.2 || n.2.2)
    | _, none => .wait

/-- The waiting marks are placed, oldest first, as far as the outputs reach (R196, R197, R203): while an aborted frame closes,
a mark of it that cannot be placed leaves no word. -/
def Lane.placeMarks (L : Lane) (a : Nat) : Nat → Lane
  | 0 => L
  | fuel + 1 =>
    let c := L.ac a
    match c.marks with
    | [] => L
    | m :: rest =>
      let pop := L.acUpd a fun c => { c with marks := rest }
      match placeMark c.outs m (L.acGd a) (L.acT a) with
      | .wait => L
      | .miss => (if m.framed && c.closing then pop else pop.writeSample a m 0 false true).placeMarks a fuel
      | .value v o => (pop.writeSample a m v o false).placeMarks a fuel

/-- Every waiting mark that the held outputs reach is placed; an aborted frame with no mark left closes (R197, R203). -/
def Lane.placeAll (L : Lane) (a : Nat) : Lane :=
  let L := L.placeMarks a (L.ac a).marks.length
  let c := L.ac a
  if c.state == .capture && c.closing && !(c.marks.any AcMark.framed) then L.closeFrame a true (L.afterClose a) else L

/-- A main-path output completes (R193, R196, R197). -/
def Lane.mainOutput (L : Lane) (l : LaneId) (a : Nat) (x : Int) (overload : Bool) : Lane :=
  if !L.acRuns a || (L.ac a).refill.isSome then L
  else
    let y := calValue (L.acCoef l a) x
    let ov := overload || decide (y ≠ satSigned y 24)
    let L := L.setReg (Reg.acOut a)
      (sampleWord (L.bit (Reg.acCtrl a) 23) (ofSigned (satSigned y 24) 24) (if ov then 0x80 else 0))
    (L.acUpd a fun c => { c with outs := ((y, L.time, ov) :: c.outs).take 32 }).placeAll a

/-- A mark joins the queue of a channel, of the open frame or of none, and is placed at once where the held outputs reach it
(R197). -/
def Lane.queueMark (L : Lane) (a : Nat) (m : AcMark) (framed : Bool) : Lane :=
  (L.acUpd a fun c => { c with
    marks := c.marks ++ [{ m with lost := decide (8 ≤ (c.marks.filter fun m => !m.lost).length), framed := framed }]
    taken := if framed then c.taken + 1 else c.taken }).placeAll a

/-- A mark of the channel's generator fires (R196, R199): every one forms a sample, those of the window for the frame. -/
def Lane.acMark (L : Lane) (a : Nat) (m : AcMark) : Lane :=
  if !L.acRuns a || (L.ac a).refill.isSome then L
  else
    let c := L.ac a
    match c.state with
    | .capture => L.queueMark a m (decide (c.taken < L.acLen a) && !c.closing)
    | .armed =>
      let opens := if L.acMode a = 1 then decide (m.idx = L.fld (Reg.acWin a) 16 16)
        else match c.cross with
          | some tc => L.acMode a == 2 && decide (tc ≤ m.ts)
          | none => false
      if opens then (L.openFrame a m (L.acMode a == 2)).queueMark a m true else L.queueMark a m false
    | _ => L.queueMark a m false

/-- The first marks of a queue from instant tc on, n at most, belong to the frame (R199). -/
def frameMarks (tc n : Nat) : List AcMark → List AcMark
  | [] => []
  | m :: r =>
    if m.ts < tc then m :: frameMarks tc n r
    else ((m :: r).take n).map (fun m => { m with framed := true }) ++ (m :: r).drop n

/-- An armed crossing at time tc opens the comparator window at the first mark whose instant is at or after it, if it
still waits for placement; else at the next one (R199). -/
def Lane.acCross (L : Lane) (a tc : Nat) : Lane :=
  let c := L.ac a
  if c.state == .capture then L.event (Reg.acEvent a) 3
  else if c.state != .armed || L.acMode a ≠ 2 || c.cross.isSome then L
  else
    match c.marks.dropWhile fun m => decide (m.ts < tc) with
    | [] => L.acUpd a fun c => { c with cross := some tc }
    | m :: r => (L.openFrame a m true).acUpd a fun c => { c with
        marks := frameMarks tc (L.acLen a) c.marks, taken := min (r.length + 1) (L.acLen a) }

/-- The angle word became invalid, or generator g was disabled: open frames close once their marks are placed (R203). -/
def Lane.acAbort (L : Lane) (a : Nat) : Lane :=
  let c := L.ac a
  if c.state != .capture then L
  else if !(c.marks.any AcMark.framed) then L.closeFrame a true (L.afterClose a)
  else L.acUpd a fun c => { c with closing := true }

/-- Every channel that captures, of generator g or of any, aborts (R203). -/
def Lane.acAbortAll (L : Lane) (g : Option Nat) : Lane :=
  (List.range 24).foldl (fun L a =>
    if g.isNone || g == some (L.fld (Reg.acCtrl a) 20 3) then L.acAbort a else L) L

/-! ### Scan modulators (R204 to R208, R211) -/

/-- The lowest set bit of a 4-bit mask. -/
def lowBit (m : BitVec 4) : Option Nat := (List.range 4).find? fun i => m.getLsbD i

/-- A conversion begins, with the settings of its entry or slot as they stand (R204, R205). -/
def Lane.scBegin (L : Lane) (m : Nat) (inj : Option Nat) : Lane :=
  L.scUpd m fun s => match inj with
    | some k => { s with state := .inj, inj := some k, pend := putBit s.pend k false, pre := false
                         conv := L.reg (Reg.scInjCfg m k), convCald := s.cald.getLsbD k, cald := putBit s.cald k false }
    | none => { s with state := .seq, inj := none, pre := false, conv := L.reg (Reg.scSeq m s.entry), convCald := false }

/-- With nothing to deliver: injected requests first, in slot order, then the sequence, or a held trigger (R204, R205,
R206, R211). -/
def Lane.scNext (L : Lane) (m : Nat) : Lane :=
  let s := L.sc m
  match lowBit s.pend with
  | some k => L.scBegin m (some k)
  | none =>
    let cont := !L.bit (Reg.scCtrl m) 30
    if cont || s.pass then L.scBegin m none
    else if s.trig then (L.scUpd m fun s => { s with trig := false, pass := true, entry := 0 }).scBegin m none
    else L.scUpd m fun s => { s with state := .idle, inj := none, pre := false }

/-- An MCLK edge (R206): an injected request preempts the sequence conversion that it met. MCLK edges lie at the multiples of
80 of LANE_TIME (DESIGN CHOICE, log entry 97). -/
def Lane.scEdge (L : Lane) (m : Nat) : Lane := if (L.sc m).pre && !L.power.idle then L.scNext m else L

/-- A pass trigger (R204, R211, R405). -/
def Lane.scTrigger (L : Lane) (m : Nat) : Lane :=
  let s := L.sc m
  if !L.bit (Reg.scCtrl m) 31 || !L.bit (Reg.scCtrl m) 30 then L
  else if s.pass || s.trig then L.event (Reg.scEvent m) 4
  else if s.state == .calWait || s.state == .cal || L.power.idle then L.scUpd m fun s => { s with trig := true }
  else
    let L := L.scUpd m fun s => { s with pass := true, entry := 0 }
    if s.state == .idle then L.scNext m else L

/-- A request to injected slot k (R205, R206, R211). -/
def Lane.scInject (L : Lane) (m k : Nat) : Lane :=
  let s := L.sc m
  if !L.bit (Reg.scCtrl m) 31 then L
  else if s.pend.getLsbD k then L.event (Reg.scEvent m) 5
  else
    let cal := s.state == .calWait || s.state == .cal
    let L := L.scUpd m fun s => { s with pend := putBit s.pend k true, cald := putBit s.cald k cal, pre := s.pre || s.state == .seq }
    if s.state == .idle && !L.power.idle then L.scNext m else L

/-- Entries of the result queue of modulator m (R207). -/
def Lane.scQlen (L : Lane) (m : Nat) : Nat := 2 ^ (4 + min (L.fld (Reg.scQctrl m) 16 4) 12)
/-- Fill of the result queue (R207). -/
def Lane.scFill (L : Lane) (m : Nat) : Nat := (L.reg (Reg.scQwr m) - L.reg (Reg.scQrd m)).toNat
/-- The fill stands at or above THR (R207). -/
def Lane.scThr (L : Lane) (m : Nat) : Bool := decide (L.fld (Reg.scQctrl m) 0 16 ≤ L.scFill m)

/-- Q_THR is set while the fill stands at or above THR (R207). -/
def Lane.scThrAgain (L : Lane) (m : Nat) : Lane := if L.scThr m then L.event (Reg.scEvent m) 0 else L

/-- Hardware advances QRD by n (R208); the advances of a PCLK are counted, for a host write of QRD in it comes first. -/
def Lane.scAdvance (L : Lane) (m n : Nat) : Lane :=
  let p := L.time / 4
  (L.setReg (Reg.scQrd m) (L.reg (Reg.scQrd m) + BitVec.ofNat 32 n)).scUpd m fun s =>
    { s with advAt := p, adv := (if s.advAt = p then s.adv else 0) + n }

/-- A host write of QRD (R208): advances of the same PCLK follow it, unless they were made to wait for it. -/
def Lane.scWriteQrd (L : Lane) (m : Nat) (v : Word) : Lane :=
  let s := L.sc m
  if s.qrdFirst == some L.time then L.scUpd m fun s => { s with qrdFirst := none }
  else L.setReg (Reg.scQrd m) (v + BitVec.ofNat 32 (if s.advAt = L.time / 4 then s.adv else 0))

/-- A result enters the queue, or meets a full one (R207, R208, R212). -/
def Lane.scQueue (L : Lane) (m : Nat) (w : Word) (entry mux : Nat) : Lane :=
  let full := decide (L.scQlen m ≤ L.scFill m)
  let lose := full && !L.bit (Reg.scQctrl m) 31
  if lose then
    let L := L.event (Reg.scEvent m) 6
    if (L.sc m).full then L else (L.scUpd m fun s => { s with full := true }).raise .adcQFull (0x20 + m)
  else
    let L := if full then (L.event (Reg.scEvent m) 6).scAdvance m 1 else L
    let p := (L.reg (Reg.scQwr m)).toNat % L.scQlen m
    let base := (L.reg (Reg.scQbase m)).toNat % 2 ^ 21 / 8 * 8
    let w1 := BitVec.ofNat 32 (entry * 2 ^ 27 + mux * 2 ^ 23 + L.time / 4 % 2 ^ 23)
    let L := L.sramWrite (base + 8 * p) (wordBytes [w, w1]) 0x23
    let L := L.setReg (Reg.scQwr m) (L.reg (Reg.scQwr m) + 1)
    (L.scUpd m fun s => { s with full := false }).scThrAgain m

/-- A scan result is delivered (R188, R193 to R195, R207): code, checks of positions 12 and 15, queue. The value is
offset binary, 0 V at code 0 (DEDUCED, log entry 23). -/
def Lane.scDeliver (L : Lane) (l : LaneId) (m mux entry : Nat) (twos : Bool) (x : Int) (overload : Bool) (st : Nat) : Lane :=
  let y := calValue (L.scCoef l m) x
  let cl := max 0 (min y (2 ^ 24 - 1))
  let ov := overload || decide (y ≠ cl)
  let code := if twos then (cl.toNat + 2 ^ 23) % 2 ^ 24 else cl.toNat
  let w := sampleWord (L.bit (Reg.scCtrl m) 24) code ((if ov then 0x80 else 0) + st)
  let L := L.setReg (Reg.scLast m) w
  let L := if ov then L.event (Reg.scEvent m) 3 else L
  let L := if mux = 12 && decide ((L.fld Reg.adcTol 16 16 : Int) * 2 ^ 24 < (y - 0x800000).natAbs * 50000) then
      (L.event Reg.adcEvent 2).raise .adcRefFail (0x20 + m)
    else if mux = 15 && decide ((L.fld Reg.adcTol 0 16 : Int) * 2 ^ 24 < y.natAbs * 500000) then
      (L.event Reg.adcEvent 3).raise .adcZeroFail (0x20 + m)
    else L
  L.scQueue m w entry mux

/-- An injected result is delivered (R195, R205, R211). -/
def Lane.scInjDone (L : Lane) (l : LaneId) (m k : Nat) (x : Int) (ov : Bool) : Lane :=
  let w := (L.sc m).conv
  let st := 0x10 + if (L.sc m).convCald then 0x20 else 0
  (L.scDeliver l m (bits w 21 4) k (w.getLsbD 16) x ov st).event (Reg.scEvent m) 2

/-- A sequence result is delivered and the sequence advances (R204). -/
def Lane.scSeqDone (L : Lane) (l : LaneId) (m : Nat) (x : Int) (ov : Bool) : Lane :=
  let e := (L.sc m).entry
  let w := (L.sc m).conv
  let L := L.scDeliver l m (bits w 24 4) e (w.getLsbD 19) x ov 0
  if L.fld (Reg.scCtrl m) 16 5 ≤ e then
    (L.scUpd m fun s => { s with entry := 0, pass := false }).event (Reg.scEvent m) 1
  else L.scUpd m fun s => { s with entry := e + 1 }

/-- A scan conversion completes (R191, R204 to R207, R210). -/
def Lane.scanDone (L : Lane) (l : LaneId) (m : Nat) (x : Int) (ov : Bool) : Lane :=
  if !L.bit (Reg.scCtrl m) 31 || L.power.idle then L
  else
    let s := L.sc m
    let deliver := fun (L : Lane) => match s.inj with
      | some k => L.scInjDone l m k x ov
      | none => L.scSeqDone l m x ov
    match s.state with
    | .seq | .inj => (deliver L).scNext m
    | .calWait => (deliver L).scUpd m fun s => { s with state := .cal, inj := none }
    | _ => L

/-- Every calibration of a run has ended (R209). -/
def Lane.calEnd (L : Lane) : Lane :=
  if L.acq.calRun = 0 then (L.event Reg.adcEvent 0).count Reg.adcStat 0 16 else L

/-- The calibration of modulator i ends without a result, its modulator stopped or reset; it may have been the last of the run
(R209, R214). -/
def Lane.calDrop (L : Lane) (i : Nat) : Lane :=
  if L.acq.calRun.getLsbD i then (L.acqUpd fun q => { q with calRun := putBit q.calRun i false }).calEnd else L

/-- EN or PASS of a scan modulator was written (R204): started, stopped with its requests discarded, or from a wait for a
trigger to the list without pause; a list under way when PASS is written 1 is the pass in progress (DEDUCED, log entry 97). -/
def Lane.scEnable (L : Lane) (m : Nat) (was : Word) : Lane :=
  let en := L.bit (Reg.scCtrl m) 31
  let pass := L.bit (Reg.scCtrl m) 30
  if en && !was.getLsbD 31 then
    let L := L.scUpd m fun s => { s with
      state := .idle, entry := 0, inj := none, pend := 0, cald := 0, pass := false, trig := false, pre := false }
    L.scNext m
  else if !en && was.getLsbD 31 then
    (L.scUpd m fun s => { s with
      state := .off, entry := 0, inj := none, pend := 0, cald := 0, pass := false, trig := false, pre := false }).calDrop (24 + m)
  else if en && was.getLsbD 30 && !pass && (L.sc m).state == .idle && !L.power.idle then
    (L.scUpd m fun s => { s with entry := 0 }).scNext m
  else if en && !was.getLsbD 30 && pass then L.scUpd m fun s => { s with pass := true }
  else L

/-- A write to ADC_SCm_CTRL, with GO (R204). -/
def Lane.writeScCtrl (L : Lane) (m : Nat) (v : Word) : Lane :=
  let was := L.reg (Reg.scCtrl m)
  let L := ((L.applyCodes (Reg.scCtrl m) v).scEnable m was).scThrAgain m
  if v.getLsbD 25 && !L.bit (Reg.scCtrl m) 29 then L.scTrigger m else L

/-- A write to ADC_SCm_INJ (R205). -/
def Lane.writeScInj (L : Lane) (m : Nat) (v : Word) : Lane :=
  (List.range 4).foldl (fun L k =>
    if v.getLsbD k && L.fld (Reg.scInjCfg m k) 30 2 = 1 then L.scInject m k else L) L

/-- A mark of generator g fires for the scan modulators: triggers, then injected slots (R204, R205). -/
def Lane.scMark (L : Lane) (g i : Nat) : Lane :=
  (List.range 8).foldl (fun L m =>
    let c := Reg.scCtrl m
    let L := if L.bit c 29 && L.fld c 26 3 = g && L.fld c 0 16 = i then L.scTrigger m else L
    (List.range 4).foldl (fun L k =>
      let s := Reg.scInjCfg m k
      if L.fld s 30 2 = 2 && L.fld s 25 5 = g && L.fld s 0 16 = i then L.scInject m k else L) L) L

/-- An armed crossing of angle channel a requests its injected conversions (R205). -/
def Lane.scCross (L : Lane) (a : Nat) : Lane :=
  (List.range 8).foldl (fun L m =>
    (List.range 4).foldl (fun L k =>
      let s := Reg.scInjCfg m k
      if L.fld s 30 2 = 3 && L.fld s 25 5 = a then L.scInject m k else L) L) L

/-- Mark i of generator g fires with due time td and period P of a span of sp positions (R74, R196, R199, R204). -/
def Lane.acqMark (L : Lane) (g i td P sp : Nat) : Lane :=
  let den := max (L.fld (Reg.markStep g) 0 8) 1
  let frac := i * L.fld (Reg.markStep g) 8 24 % den
  let m : AcMark := { idx := i, ts := td + frac * P / (den * sp * L.odoM), late := decide (0 < L.lateness), lost := false, cycle := L.odo.cycle }
  let L := L.acqUpd fun q => { q with fired := putBit q.fired g true }
  let L := (List.range 24).foldl (fun L a => if L.fld (Reg.acCtrl a) 20 3 = g then L.acMark a m else L) L
  L.scMark g i

/-- A host write of QRD that waits in the same cycle is applied before an advance (R208). -/
def State.qrdAhead (s : State) (l : LaneId) (m : Nat) : State :=
  match s.pending.findSome? fun i => match i with
    | .qrdWrite l' m' v => if l' == l && m'.val == m then some v else none
    | _ => none with
  | some v => s.upd l fun L =>
    if (L.sc m).qrdFirst == some L.time then L
    else (L.scWriteQrd m v).scUpd m fun s => { s with qrdFirst := some L.time }
  | none => s

/-- SCAN_CONVERSION_DONE (R191, R208). -/
def State.scanRow (s : State) (l : LaneId) (m : Nat) (x : Int) (ov : Bool) : State :=
  (s.qrdAhead l m).upd l fun L => L.scanDone l m x ov

/-! ### Window comparator (R200) -/

/-- The comparator of channel a is armed (R200). -/
def Lane.compArmed (L : Lane) (a : Nat) : Bool :=
  let g := L.fld (Reg.acCtrl a) 20 3
  let i := L.fld (Reg.markStat g) 0 16
  let lo := L.fld (Reg.acArm a) 0 16
  let hi := L.fld (Reg.acArm a) 16 16
  L.bit (Reg.acComp a) 31 && L.odo.valid && L.acq.fired.getLsbD g
    && (if lo ≤ hi then decide (lo ≤ i ∧ i ≤ hi) else decide (lo ≤ i ∨ i ≤ hi))

/-- A fast-path output completes (R190, R200). -/
def Lane.fastOutput (L : Lane) (a : Nat) (x : BitVec 12) : Lane :=
  if !L.acRuns a then L
  else
    let c := L.ac a
    let v := x.toInt
    let hi := toSigned (L.fld (Reg.acComp a) 16 12) 12
    let lo := toSigned (L.fld (Reg.acComp a) 0 12) 12
    let rise := c.lay && decide (hi ≤ v)
    let fall := c.layHi && decide (v ≤ lo)
    let L := L.setReg (Reg.acFast a) (x.setWidth 32)
    let L := L.acUpd a fun c => { c with
      lay := (c.lay && !rise) || decide (v < hi - 4), layHi := (c.layHi && !fall) || decide (lo + 4 < v) }
    let hit := match L.fld (Reg.acComp a) 29 2 with
      | 1 => fall
      | 2 => rise || fall
      | _ => rise
    if hit && L.compArmed a then
      let tc := L.time - 1000
      let L := (L.event (Reg.acEvent a) 2).setReg (Reg.acCtime a) (BitVec.ofNat 32 tc)
      (L.acCross a tc).scCross a
    else L

/-! ### Calibration (R209 to R211) -/

/-- A calibration command reaches angle channel a, which begins it at the next MCLK edge (R210). -/
def Lane.acCalDue (L : Lane) (a : Nat) : Lane :=
  (L.acqUpd fun q => { q with calRun := putBit q.calRun a true }).acUpd a fun c => { c with calDue := true }

/-- Calibration of angle channel a begins (R203, R210). -/
def Lane.acCal (L : Lane) (a : Nat) : Lane :=
  let c := L.ac a
  let L := if c.state == .capture then L.closeFrame a true .cal else L
  L.acUpd a fun d => { d with
    calDue := false
    state := if c.state == .armed || c.state == .capture || c.state == .cal then .cal else .idle
    calAbort := if c.state == .cal then c.calAbort else c.state == .capture && !L.bit (Reg.acCtrl a) 17
    marks := [], outs := [], refill := none, cross := none }

/-- An MCLK edge begins a calibration that is due at angle channel a; MCLK stands still in IDLE (R210, R404). -/
def Lane.acEdge (L : Lane) (a : Nat) : Lane := if (L.ac a).calDue && !L.power.idle then L.acCal a else L

/-- A calibration command reaches scan modulator m (R210, R211). -/
def Lane.scCal (L : Lane) (m : Nat) : Lane :=
  let L := L.acqUpd fun q => { q with calRun := putBit q.calRun (24 + m) true }
  L.scUpd m fun s => { s with
    state := if s.state == .seq || s.state == .inj then .calWait else .cal, cald := s.cald ||| s.pend, pre := false }

/-- A write to ADC_CTRL (R209): CAL = 1 starts calibration of every enabled modulator, unless one runs. -/
def Lane.writeAdcCtrl (L : Lane) (v : Word) : Lane :=
  let L := L.applyCodes Reg.adcCtrl v
  if !v.getLsbD 0 || L.acq.calRun ≠ 0 then L
  else
    let L := (List.range 24).foldl (fun L a => if L.bit (Reg.acCtrl a) 31 then L.acCalDue a else L) L
    let L := (List.range 8).foldl (fun L m => if L.bit (Reg.scCtrl m) 31 then L.scCal m else L) L
    L.calEnd

/-- New coefficients are within the limits of R210. -/
def coefOk (ofs : Int) (gain : BitVec 24) : Bool :=
  decide (ofs.natAbs ≤ 167772) && decide (0x7D70A4 ≤ gain.toNat) && decide (gain.toNat ≤ 0x828F5C)

/-- A modulator's calibration completes (R203, R209 to R211); i is its number in ADC_CALFAIL. In IDLE modulators convert
nothing, so none completes (R405). -/
def Lane.calDone (L : Lane) (i : Nat) (ofs : Int) (gain : BitVec 24) : Lane :=
  let ready := L.acq.calRun.getLsbD i && !L.power.idle
    && (if i < 24 then !(L.ac i).calDue else (L.sc (i - 24)).state == .cal)
  if !ready then L
  else
    let ok := coefOk ofs gain
    let L := L.setBit Reg.adcCalfail i (!ok)
    let L := if ok then L else (L.event Reg.adcEvent 1).raise .adcCalFail (if i < 24 then i else 0x20 + (i - 24))
    let new : Option (BitVec 24 × BitVec 24) := some (BitVec.ofInt 24 ofs, gain)
    let L := L.acqUpd fun q => { q with calRun := putBit q.calRun i false }
    let L := if i < 24 then
        L.acUpd i fun c => { c with coef := if ok then new else c.coef, refill := some (L.time + L.acRefill i) }
      else
        let L := L.scUpd (i - 24) fun s => { s with coef := if ok then new else s.coef }
        L.scNext (i - 24)
    L.calEnd

/-- The main path of channel a is refilled (R203); not in IDLE, where it converts nothing (R405). -/
def Lane.refillDone (L : Lane) (a : Nat) : Lane :=
  let c := L.ac a
  match c.refill with
  | some t =>
    if L.time < t || L.power.idle then L
    else L.acUpd a fun c => { c with
      refill := none, calAbort := false
      state := if c.state == .cal then (if c.calAbort then .idle else .armed) else c.state }
  | none => L

/-! ### Power states and resets (R214, R405) -/

/-- The return from IDLE to RUN: each modulator refills, and each scan sequence resumes (R405). -/
def Lane.acqResume (L : Lane) : Lane :=
  let L := (List.range 24).foldl (fun L a =>
    if L.bit (Reg.acCtrl a) 31 && (!L.acq.calRun.getLsbD a || (L.ac a).calDue) then
      L.acUpd a fun c => { c with refill := some (L.time + L.acRefill a), outs := [], marks := [] } else L) L
  (List.range 8).foldl (fun L m =>
    let s := (L.sc m).state
    if L.bit (Reg.scCtrl m) 31 && (s == .seq || s == .idle) then L.scNext m else L) L

/-- Per-function reset of angle channel a (R214); ADCa_SEQ keeps counting. -/
def Lane.acReset (L : Lane) (a : Nat) : Lane :=
  let seq := L.reg (Reg.acSeq a)
  let L := (L.resetRange (Reg.acCtrl a) (Reg.acCtrl a + 0x40)).setReg (Reg.acSeq a) seq
  let L := L.acUpd a fun _ => {}
  let L := (List.range 24).foldl (fun L c => match (L.cyl c).cur with
    | some y => if achOf y.ctrl c == a then L.cylUpd c fun z => { z with cur := none } else L
    | none => L) L
  L.calDrop a

/-- Per-function reset of scan modulator m (R214). -/
def Lane.scReset (L : Lane) (m : Nat) : Lane :=
  let L := L.resetRange (Reg.scCtrl m) (Reg.scCtrl m + 0x100)
  let L := L.scUpd m fun _ => {}
  L.calDrop (24 + m)

/-! ### Protected writes and enables (R213) -/

/-- A write that R213 protects while `en`: it is ignored, setting CFG_REJ, when it would change the value held. -/
def Lane.writeProt (L : Lane) (en : Bool) (a ev bit : Nat) (v : Word) : Lane :=
  let new := (L.applyCodes a v).reg a
  if !en then L.applyCodes a v
  else if new = L.reg a then L else L.event ev bit

/-- A write to ADCa_CTRL (R203, R213). -/
def Lane.writeAcCtrl (L : Lane) (a : Nat) (v : Word) : Lane :=
  let c := Reg.acCtrl a
  let was := L.bit c 31
  let en := v.getLsbD 31
  let new := (L.applyCodes c v).reg c
  if was then
    let L := if setBits new 31 1 1 = L.reg c then L else L.event (Reg.acEvent a) 7
    if en then L
    else
      let L := L.setBit c 31 false
      let L := if (L.ac a).state == .capture then L.closeFrame a true .idle else L
      (L.acUpd a fun c => { c with
        state := .idle, marks := [], outs := [], refill := none, cross := none, calAbort := false, closing := false, calDue := false }).calDrop a
  else if !en then L.setReg c new
  else
    let mode := bits new 18 2 % 3
    let len := L.acLen a
    let bad := len = 0 || (mode ≠ 0 && decide (L.fld (Reg.acFstride a) 4 14 * 16 < 4 * len))
    if bad then (L.setReg c (setBits new 31 1 0)).event (Reg.acEvent a) 7
    else
      (L.setReg c new).acUpd a fun d => { d with
        state := if mode = 0 then .idle else .armed, marks := [], outs := [], lay := false, layHi := false, cross := none, refill := none }

/-- A write to a register that R213 protects. -/
def Lane.writeAdcProt (L : Lane) (r : AdcProtReg) (v : Word) : Lane :=
  match r with
  | .acCtrl a => L.writeAcCtrl a v
  | .acWin a | .acFbase a | .acFstride a | .acRbase a => L.writeProt (L.bit (Reg.acCtrl a) 31) (adcProtAddr r) (Reg.acEvent a) 7 v
  | .scQbase m | .scQctrl m => L.writeProt (L.bit (Reg.scCtrl m) 31) (adcProtAddr r) (Reg.scEvent m) 7 v

end Sys2Proof.Machine
end

