-- ==== Sys2Proof/Machine/CmbCore.lean ====
section
/-! DEFINITION. Combustion summaries and the pressure guard (10_combustion.md). -/

namespace Sys2Proof.Machine

/-- How a lane stands to the decisions that the authority lane sends (R95, R223): by its own view of the voted value. While no
lane holds authority each lane decides alone (DESIGN CHOICE, log entry 106). -/
def State.role (s : State) (l : LaneId) : SwapRole :=
  if s.variantS then .alone
  else match (s.lane l).view with
    | .laneA => if l == .a then .authority else .standby
    | .laneB => if l == .b then .authority else .standby
    | _ => .alone

/-- The routes of cylinder c that a cut can name (R221). -/
def cylRoutes (c : Nat) : List Nat := (List.range 8).map (8 * c + ·) ++ [192 + 2 * c, 193 + 2 * c]

/-- A verdict is acted on (R221, R222): a trip is counted, and with SKIP ≠ 0 the routes that CMBc_CUT names are cut for
the present route cycle and SKIP that begin after it. -/
def Lane.actVerdict (L : Lane) (c : Nat) (cut : Word) (trip : Bool) : Lane :=
  let L := { L with cutWait := vmod L.cutWait c fun _ => none }
  let L := L.cylUpd c fun y => { y with own := none }
  if !trip then L
  else
    let L := (L.event Reg.cmbEvent 2).count (Reg.cylStat c) 0 16
    let skip := bits cut 24 8
    if skip = 0 then L
    else
      (cylRoutes c).foldl (fun L r =>
        if cutNames cut r then { L with cuts := vmod L.cuts r fun _ => skip + 1 } else L) L

/-- The standby lane compares the authority lane's verdict with its own and acts on it (R223). -/
def Lane.meetVerdict (L : Lane) (c : Nat) (cut : Word) (own trip : Bool) : Lane :=
  let L := if own != trip then (L.event Reg.cmbEvent 4).raise .cmbGuardDiff c else L
  L.actVerdict c cut trip

/-- Angle of sample j of a frame (R74, R217). -/
def Lane.sampleAngle (L : Lane) (ach first j : Nat) : Nat :=
  let g := L.fld (Reg.acCtrl ach) 20 3
  let i := (first + j) % max (L.fld (Reg.markCtrl g) 0 16) 1
  (L.fld (Reg.markStart g) 0 24 + i * L.fld (Reg.markStep g) 8 24 / max (L.fld (Reg.markStep g) 0 8) 1) % max L.cycleLen 1

/-- The figures of a closed frame (R217, R218): peg, PEG_BAD, PMAX with its presence and PK_OVR, IMEP. -/
def CylAcc.peg0 (y : CylAcc) : Int := if 0 < y.pn then y.ps / y.pn else 0
/-- The pegging offset (R217). -/
def CylAcc.pegOff (y : CylAcc) : Int := if 0 < y.pn then y.peg0 - toSigned (bits y.pegref 0 24) 24 else 0
/-- PEG_BAD (R217). -/
def CylAcc.pegBad (y : CylAcc) : Bool := y.pn = 0 && bits y.peg 0 16 ≠ 0
/-- PMAX (R217). -/
def CylAcc.pmaxOf (y : CylAcc) : Option Int := y.pmax.map fun p => p.1 - y.pegOff
/-- PK_OVR (R218). -/
def CylAcc.pkOvr (y : CylAcc) : Bool := match y.pmax with | some p => p.2.2 | none => false
/-- IMEP of a complete frame (R217). -/
def CylAcc.imep (y : CylAcc) : Int := (y.acc - y.pegOff * y.sdv) / 2 ^ 22
/-- The guard trips on this record (R221). -/
def CylAcc.trips (y : CylAcc) (aborted : Bool) : Bool :=
  y.limit.getLsbD 31 && !aborted && (match y.pmaxOf with
    | some p => decide (toSigned (bits y.limit 0 24) 24 < p) || y.pkOvr
    | none => false)

/-- Words 1 to 11 of the summary record (R220). -/
def Lane.recordWords (L : Lane) (c : Nat) (y : CylAcc) (i : FrameInfo) (trip : Bool) : List Word :=
  let b := fun (x : Bool) (k : Nat) => if x then 2 ^ k else 0
  let s32 := fun (x : Int) => BitVec.ofInt 32 x
  let ang := fun (o : Option Nat) => match o with | some j => BitVec.ofNat 32 (L.sampleAngle i.ach i.first j) | none => 0
  let pk := y.pmax.map (·.2.1)
  let dp := y.dmax.map (·.2)
  [i.cycle,
   BitVec.ofNat 32 (c * 2 ^ 27 + b i.aborted 26 + b i.ovrAny 25 + b i.missAny 24 + b i.lateAny 23 + b y.pegBad 22
     + b y.pkOvr 21 + b trip 20 + y.n % 2 ^ 16),
   i.seq, s32 y.peg0, (y.pmaxOf.map s32).getD 0x80000000,
   BitVec.ofNat 32 (pk.getD 0xFFFF * 2 ^ 16 + dp.getD 0xFFFF), ang pk, (y.dmax.map fun d => s32 d.1).getD 0x80000000,
   ang dp, if i.aborted then 0 else s32 y.imep, BitVec.ofNat 32 L.time]

/-- The record whose verdict is to be discarded once this lane awaits it no longer (R223). -/
def Cyl.overtaken (z : Cyl) : Option (BitVec 32) := match z.own with | some o => some o.1 | none => z.missed

/-- The summary of cylinder c's closed frame is written and the guard evaluated (R219 to R223). -/
def State.summary (s : State) (l : LaneId) (c : Nat) : State :=
  let L := s.lane l
  match (L.cyl c).closed with
  | none => s
  | some (y, i) =>
    let trip := y.trips i.aborted
    let swr := L.reg Reg.cmbSwr
    let len := 2 ^ (4 + min (L.fld Reg.cmbCtrl 16 4) 8)
    let a := (L.reg Reg.cmbSbase).toNat % 2 ^ 21 / 16 * 16 + 48 * (swr.toNat % len)
    let L := L.sramWrite (a + 4) (wordBytes (L.recordWords c y i trip)) 0x22
    let L := L.sramWrite a (wordBytes [swr + 1]) 0x22
    let L := (L.setReg Reg.cmbSwr (swr + 1)).event Reg.cmbEvent (if i.aborted then 1 else 0)
    let L := if y.pegBad then L.event Reg.cmbEvent 3 else L
    let L := (L.dmaRequestOf 24).cylUpd c fun z => { z with closed := none }
    let L := match s.role l with
      | .alone => L.actVerdict c y.cut trip
      | .authority =>
        { L with xwk := { L.xwk with tx := L.xwk.tx ++ [XMsg.verdict c i.cycle trip] } }.actVerdict c y.cut trip
      | .standby =>
        match (L.cyl c).early.find? fun e => e.1 == i.cycle with
        | some e =>
          (L.cylUpd c fun z => { z with early := z.early.filter fun e => e.1 != i.cycle }).meetVerdict c y.cut trip e.2
        | none =>
          { L with cutWait := vmod L.cutWait c fun _ => some y.cut }.cylUpd c fun z =>
            { z with missed := z.overtaken, own := some (i.cycle, trip, L.time, y.cut) }
    s.setLane l L

/-- The verdict that arrives next at a lane (R223, R244). -/
def takeVerdict (rx : List XMsg) : Option ((Nat × BitVec 32 × Bool) × List XMsg) :=
  takeMsg (fun m => match m with | .verdict c cy t => some (c, cy, t) | _ => none) rx

/-- A guard verdict arrives (R223): acted on against the own record, kept until that is written, or discarded where the lane
has acted on that record alone. -/
def Lane.verdictArrive (L : Lane) : Lane :=
  match takeVerdict L.xwk.rx with
  | none => L
  | some ((c, cy, t), r) =>
    let L := { L with xwk := { L.xwk with rx := r } }
    let keep := L.cylUpd c fun y =>
      if y.missed == some cy then { y with missed := none } else { y with early := y.early.filter (·.1 != cy) ++ [(cy, t)] }
    match (L.cyl c).own with
    | some (cy', own, _, cut) => if cy' == cy then L.meetVerdict c cut own t else keep
    | none => keep

/-- No verdict has arrived within 4 µs: the lane acts on its own (R223). -/
def Lane.verdictTimeout (L : Lane) (c : Nat) : Lane :=
  match (L.cyl c).own with
  | some (_, own, t0, cut) =>
    if L.time < t0 + 1600 then L
    else (((L.event Reg.cmbEvent 5).raise .cmbDecMiss c).cylUpd c fun z => { z with missed := z.overtaken }).actVerdict c cut own
  | none => L



/-- GUARD_VERDICT_TIMEOUT (R223): a verdict for the record that arrives in the same cycle wins (R20). -/
def State.verdictTimeoutRow (s : State) (l : LaneId) (c : Nat) : State :=
  let L := s.lane l
  let awaited := match takeVerdict L.xwk.rx, (L.cyl c).own with
    | some ((c', cy, _), _), some (cy', _, _, _) => c' == c && cy == cy'
    | _, _ => false
  let soon := s.pending.any fun i => match i with | .guardVerdict m => m == l | _ => false
  if awaited && soon then s else s.upd l fun L => L.verdictTimeout c

/-- Writing 1 to CUT_CLR ends the cut of cylinder c (R222). -/
def Lane.cutEnd (L : Lane) (c : Nat) : Lane :=
  (cylRoutes c).foldl (fun L r => { L with cuts := vmod L.cuts r fun _ => 0 }) L

/-- CUT_ON (R226). -/
def Lane.cutOn (L : Lane) (c : Nat) : Bool := (cylRoutes c).any fun r => decide (0 < vget L.cuts r 0)

/-- A write to CMBc_CTRL (R222, R225). -/
def Lane.writeCylCtrl (L : Lane) (c : Nat) (v : Word) : Lane :=
  let a := Reg.cylCtrl c
  let new := (L.applyCodes a v).reg a
  let keep := (L.reg a &&& 0x1FFFFFFF) ||| (new &&& ~~~0x1FFFFFFF)
  let L := if L.bit Reg.cmbCtrl 31 then
      let M := L.setReg a keep
      if keep = new then M else M.event Reg.cmbEvent 6
    else L.setReg a new
  if v.getLsbD 30 then L.cutEnd c else L

/-- A write to a register of the CMB_ block but CMBc_CTRL (R225). -/
def Lane.writeCmb (L : Lane) (a : Nat) (v : Word) : Lane :=
  let en := L.bit Reg.cmbCtrl 31
  if a = Reg.cmbCtrl then
    let new := (L.applyCodes a v).reg a
    if en then
      let keep := setBits (L.reg a) 31 1 (bits v 31 1)
      let M := L.setReg a keep
      if keep = new then M else M.event Reg.cmbEvent 6
    else L.setReg a new
  else if a = Reg.cmbSbase ∨ Reg.cmbVd 0 ≤ a then L.writeProt en a Reg.cmbEvent 6 v
  else L.applyCodes a v

end Sys2Proof.Machine
end

