-- ==== Sys2Proof/Machine/ChanCore.lean ====
section
/-! DEFINITION. Actuator channels at the drive dies: profiles, events, sharing of a quad, protections, landing detection
and the checks on a start (05_actuator_channels.md, 06_armature_landing.md). Times are module times in TCLK; the drive
dies' own clocks are not told apart from it (DESIGN CHOICE, log entry 8). -/

namespace Sys2Proof.Machine

/-! ### Access -/

/-- Channel n. -/
def State.chan (s : State) (n : Nat) : Chan := vget s.chans n {}
/-- Change channel n. -/
def State.chanUpd (s : State) (n : Nat) (f : Chan → Chan) : State := { s with chans := vmod s.chans n f }
/-- Drive die d. -/
def State.die (s : State) (d : Nat) : Die := vget s.dies d {}
/-- Change drive die d. -/
def State.dieUpd (s : State) (d : Nat) (f : Die → Die) : State := { s with dies := vmod s.dies d f }
/-- Settings of quad q at its die. -/
def State.quadCtrl (s : State) (q : Nat) : Word := (vget s.quads q {}).ctrl
/-- Channel n belongs to a pair (R130). -/
def State.paired (s : State) (n : Nat) : Bool := (s.quadCtrl (n / 4)).getLsbD (if n % 4 < 2 then 1 else 2)
/-- Channel n is the odd member of a pair (R130). -/
def State.oddMember (s : State) (n : Nat) : Bool := s.paired n && n % 2 == 1
/-- The channel that governs channel n: the even member of its pair, or itself (R130). -/
def State.governs (s : State) (n : Nat) : Nat := if s.oddMember n then n - 1 else n
/-- Select-chop mode of a quad (R129). -/
def State.selectChop (s : State) (q : Nat) : Bool := (s.quadCtrl q).getLsbD 0
/-- MAX_DEFER of a quad in TCLK (R126). -/
def State.maxDefer (s : State) (q : Nat) : Nat := bits (s.quadCtrl q) 16 10 * 400
/-- The channels of the quad of channel n, but n itself. -/
def quadOthers (n : Nat) : List Nat := ((List.range 4).map fun i => n / 4 * 4 + i).filter (· != n)
/-- The lane that holds authority, by the voted value (R232). -/
def votedLane : Voted → Option LaneId
  | .laneA => some .a
  | .laneB => some .b
  | _ => none

/-- The drive die applies settings and slot copies of lane l (R442): of the lane that holds authority, of Lane A on the
S variant. -/
def State.dieTakes (s : State) (d : Nat) (l : LaneId) : Bool :=
  if s.variantS then l == .a else votedLane (s.die d).auth == some l

/-! ### Profiles (R120, R121, R147) -/

/-- Header word w of a profile of 64 bytes. -/
def profWord (p : BitVec 512) (w : Nat) : Word := p.extractLsb' (32 * w) 32
/-- Phase entry i of a profile, 48 bits. -/
def profPhase (p : BitVec 512) (i : Nat) : BitVec 48 := p.extractLsb' (128 + 48 * i) 48
/-- KIND of a phase entry. -/
def phKind (e : BitVec 48) : Nat := e.toNat >>> 45 % 8
/-- SRC of a phase entry. -/
def phSrc (e : BitVec 48) : Bool := e.getLsbD 44
/-- DECAY of a phase entry. -/
def phDecay (e : BitVec 48) : Nat := e.toNat >>> 42 % 4
/-- EXIT of a phase entry. -/
def phExit (e : BitVec 48) : Nat := e.toNat >>> 40 % 4
/-- I_HI of a phase entry. -/
def phHi (e : BitVec 48) : Nat := e.toNat >>> 29 % 2048
/-- I_LO of a phase entry. -/
def phLo (e : BitVec 48) : Nat := e.toNat >>> 18 % 2048
/-- TIME of a phase entry in TCLK. -/
def phTime (e : BitVec 48) : Nat := e.toNat % 2 ^ 18 * 40
/-- A phase that uses the boost high-side (R129). -/
def phBoost (e : BitVec 48) : Bool := phKind e == 1 || ((phKind e == 2 || phKind e == 4) && phSrc e)
/-- A regulated phase (R119). -/
def phReg (e : BitVec 48) : Bool := phKind e == 2 || phKind e == 4

/-- The phases of a profile before its first END entry. -/
def profPhases (p : BitVec 512) : List (BitVec 48) :=
  ((List.range 8).map fun i => profPhase p i).takeWhile fun e => phKind e != 0

/-- The largest I_HI of a profile's phases (R139). -/
def profMax (p : BitVec 512) : Nat := (profPhases p).foldl (fun m e => max m (phHi e)) 0

/-- A phase entry holds no reserved encoding, and a regulated one has I_LO < I_HI (R121). -/
def phaseForm (e : BitVec 48) : Bool :=
  decide (phKind e < 5) && (phKind e == 0 || phKind e == 1 || phDecay e != 3) && (!phReg e || decide (phLo e < phHi e))

/-- A phase has a valid EXIT for its kind (R121). -/
def phaseExit (e : BitVec 48) : Bool :=
  match phKind e with
  | 1 => phExit e == 1 || phExit e == 2
  | 3 => phExit e != 3
  | _ => phExit e == 0 || phExit e == 3

/-- The largest I_HI of a paired and of an unpaired channel, 16 mA (R121). -/
def hiLimit (paired : Bool) : Nat := if paired then 1875 else 937

/-- A profile is valid for a channel's pairing (R121, R147): the conditions hold of all eight entries, that on EXIT of those
before the first END. -/
def profOk (p : BitVec 512) (paired : Bool) : Bool :=
  let w0 := profWord p 0
  let w2 := profWord p 2
  let all := (List.range 8).map fun i => profPhase p i
  w0.getLsbD 31 && bits w0 26 5 == 0 && decide (bits w0 24 2 < 2) && bits (profWord p 1) 8 24 == 0 && profWord p 3 == 0
    && all.all phaseForm && (profPhases p).all phaseExit && all.all (fun e => decide (phHi e ≤ hiLimit paired))
    && (!w2.getLsbD 31 || decide (bits w2 10 10 < bits w2 0 10))

/-- BLANK of a profile in TCLK (R118, R120). -/
def profBlank (p : BitVec 512) : Nat := max (bits (profWord p 1) 0 8) 5 * 4

/-! ### Reports of a die to both lanes (R145, R146) -/

/-- A channel's event flag, in both lanes. -/
def State.chFlag (s : State) (n i : Nat) : State := s.both fun L => L.event (Reg.chnEvent n) i
/-- The event name of a channel's present or last event (R255). -/
def State.chName (s : State) (n : Nat) : Nat := eventName (s.chan n).idx (s.chan n).cyc
/-- A refusal, drop or cancellation: cause and, where it has one, a delay (R139). -/
def State.chLast (s : State) (n cause : Nat) (delay : Option Nat) : State :=
  s.both fun L =>
    let L := (L.setFld (Reg.chnLast n) 12 4 cause).count (Reg.chnCnt n) 0 16
    match delay with
    | some d => L.setFld (Reg.chnLast n) 16 16 d
    | none => L

/-- A delay in µs, rounded up, at most 0xFFFE (R138). -/
def delayUs (t : Nat) : Nat := min ((t + 399) / 400) 0xFFFE

/-! ### On-time (R132) -/

/-- Bins of 1 ms. -/
def binLen : Nat := 400000

/-- Overlap of the interval [a, b) with bin k. -/
def binPart (a b k : Nat) : Nat := min b ((k + 1) * binLen) - max a (k * binLen)

/-- The window sum of a channel in TCLK: the 100 most recent bins, an event in progress counted so far (R132). -/
def Chan.windowSum (c : Chan) (now : Nat) : Nat :=
  let k := now / binLen
  let past := c.bins.foldl (fun t e => if k < e.1 + 100 then t + e.2 else t) 0
  match c.ev with
  | some e => past + (now - max e.start ((k - 99) * binLen))
  | none => past

/-- Add an interval to the bins, keeping the 100 most recent (R132). -/
def Chan.addOn (c : Chan) (a b : Nat) : Chan :=
  let k1 := b / binLen
  let k0 := max (a / binLen) (k1 - 99)
  let new := (List.range (k1 + 1 - k0)).foldl
    (fun bs i =>
      let k := k0 + i
      match bs with
      | (k', t) :: r => if k' = k then (k, t + binPart a b k) :: r else (k, binPart a b k) :: bs
      | [] => [(k, binPart a b k)]) c.bins
  { c with bins := new.filter fun e => decide (k1 < e.1 + 100) }

/-- DUTY refuses a start now (R132). -/
def State.dutyFull (s : State) (n : Nat) : Bool :=
  let c := s.chan n
  let lim := bits c.duty 0 14
  lim != 0 && decide (lim * 4000 ≤ c.windowSum s.now)

/-! ### Landing detection (R148 to R150) -/

/-- A landing report goes to both lanes (R150). -/
def State.report (s : State) (r : LandingReport) : State :=
  s.both fun L => { L with landingQ := L.landingQ ++ [r] }

/-- Window of landing detection of an event, in module time (R147). -/
def Event.window (e : Event) : Nat × Nat :=
  let w := profWord e.prof 2
  (e.start + bits w 10 10 * 3200, e.start + bits w 0 10 * 3200)

/-- A completed point is judged (R148): the detector as it goes on, or a landing time with the depth of its dip. -/
def Event.judgePoint (e : Event) (d : Detect) : Detect × Option (Nat × Nat) :=
  let w := profWord e.prof 2
  let span := 2 ^ bits w 28 3
  let th : Int := max (bits w 20 8) 1
  match d.pts, d.pts[span]? with
  | (a1, t1, _) :: _, some (a0, t0, _) =>
    if t0 < e.window.1 then (d, none)
    else if (d.pts.take (span + 1)).any fun p => !p.2.2 then ({ d with ref := none, low := none }, none)
    else
      let sl : Int := (a1 : Int) - a0
      let ref := d.ref.getD sl
      let low := match d.low with
        | some (m, t) => if sl < m then (sl, (t1 + t0) / 2) else (m, t)
        | none => (sl, (t1 + t0) / 2)
      let d := { d with ref := some ref, low := some low }
      if low.1 ≤ ref - th ∧ low.1 + th / 2 ≤ sl then
        (d, some (min (low.2 - e.start) (2 ^ 24 - 1), (ref - low.1).toNat))
      else (d, none)
  | _, _ => (d, none)

/-- One current sample enters the landing detector of channel n (R148): LANDED is reported when a dip is confirmed. -/
def State.detectSample (s : State) (n i : Nat) : State :=
  match (s.chan n).ev with
  | none => s
  | some e =>
    match e.detect with
    | none => s
    | some d =>
      let clear := d.clear && decide ((s.chan n).blankTo ≤ s.now)
      let d := { d with n := d.n + 1, sum := d.sum + i, t1 := if d.n = 0 then s.now else d.t1, clear := clear }
      let (d, hit) :=
        if d.n < 16 then (d, none)
        else
          let pt := (d.sum, (d.t1 + s.now) / 2, d.clear)
          let d := { d with n := 0, sum := 0, clear := true, pts := (pt :: d.pts).take 129 }
          if e.window.2 < pt.2.1 then (d, none) else e.judgePoint d
      match hit with
      | some (x, depth) =>
        (s.chanUpd n fun c => { c with ev := some { e with detect := none } }).report ⟨n, 1, x, depth, s.chName n⟩
      | none => s.chanUpd n fun c => { c with ev := some { e with detect := some d } }


/-! ### Switches (R115, R117) -/

/-- Switches of an off-time, a TRANSITION or an end decay (R117): the clamp path while it is fast, else by the quad's mode. -/
def offDrive (select boost fast : Bool) : Drive :=
  if fast then { clamp := true }
  else if select then { batt := !boost, boost := boost, recirc := true }
  else { low := true }

/-- A decay is fast now (R117): fast throughout, or mixed and within MIX_T (100 ns) of its begin. -/
def fastNow (mode mixT since now : Nat) : Bool := mode == 1 || (mode == 2 && decide (now < since + mixT * 40))

/-- MIX_T of a profile, 100 ns (R120). -/
def profMix (p : BitVec 512) : Nat := bits (profWord p 0) 16 8

/-- What channel n has on at time `now` (R115, R117); the odd member of a pair switches with the even one (R130). The supply
of a TRANSITION, whose SRC is ignored, is the battery high-side, and a slow end decay switches as an off-time does
(DEDUCED, log entry 95). -/
def State.drive (s : State) (n now : Nat) : Drive :=
  let c := s.chan (s.governs n)
  let select := s.selectChop (n / 4)
  match c.ev with
  | some e =>
    let ph := profPhase e.prof e.phase
    let boost := phBoost ph && !e.starved
    if phKind ph == 0 then offDrive select false true
    else if phKind ph == 1 || (phReg ph && e.elOn) then { batt := !boost, boost := boost, low := true }
    else offDrive select boost (fastNow (phDecay ph) (profMix e.prof) e.elAt now)
  | none =>
    if c.decaying then offDrive select c.decayBoost (fastNow (if c.decayFast then 1 else 2) c.mixT c.decayAt now) else {}

/-- The battery high-side of quad q is on: some channel of the quad needs it (R117). -/
def State.battOn (s : State) (q now : Nat) : Bool := (List.range 4).any fun i => (s.drive (4 * q + i) now).batt
/-- The boost high-side of quad q is on (R117). -/
def State.boostOn (s : State) (q now : Nat) : Bool := (List.range 4).any fun i => (s.drive (4 * q + i) now).boost
/-- Current freewheels from power ground through QHSq (R115, R117): a low-side is on with both high-sides off. -/
def State.freewheels (s : State) (q now : Nat) : Bool :=
  !s.battOn q now && !s.boostOn q now && (List.range 4).any fun i => (s.drive (4 * q + i) now).low

/-- Switching edges of quad q between state s at time t0 and the present state at time t1 (R118): a channel with an edge of
its own switches, and every channel of the quad on an edge of a high-side, ignores samples for its profile's BLANK. -/
def State.edgesFrom (now : State) (s : State) (q t0 t1 : Nat) : State :=
  let high := s.battOn q t0 != now.battOn q t1 || s.boostOn q t0 != now.boostOn q t1
  (List.range 4).foldl (fun r i =>
    let n := 4 * q + i
    let a := s.drive n t0
    let b := now.drive n t1
    if high || a.low != b.low || a.recirc != b.recirc then
      r.chanUpd n fun c => { c with blankTo := max c.blankTo (t1 + c.blank) }
    else r) now

/-- End of the fast part of channel n's present mixed decay, if its edge is not yet taken. -/
def State.mixEnd (s : State) (n : Nat) : Option Nat :=
  let c := s.chan n
  if c.mixSeen then none
  else match c.ev with
    | some e =>
      let ph := profPhase e.prof e.phase
      if phKind ph == 1 || (phReg ph && e.elOn) || phDecay ph != 2 then none else some (e.elAt + profMix e.prof * 40)
    | none => if c.decaying && !c.decayFast then some (c.decayAt + c.mixT * 40) else none

/-- The edges at MIX_T that have passed in quad q are taken (R117, R118). -/
def State.mixPass (s : State) (q : Nat) : State :=
  (List.range 4).foldl (fun s i =>
    match s.mixEnd (4 * q + i) with
    | some t =>
      if s.now < t then s
      else (s.chanUpd (4 * q + i) fun c => { c with mixSeen := true }).edgesFrom s q (t - 1) t
    | none => s) s

/-- A change of channel n, with the switching edges that it makes in its quad (R118). -/
def State.switching (s : State) (n : Nat) (f : State → State) : State :=
  let s := s.mixPass (n / 4)
  (f s).edgesFrom s (n / 4) s.now s.now

/-! ### Phases (R117 to R119, R122, R129, R135) -/

/-- The rail's last measurement completed before this TCLK lies below its minimum, or the rail is off (R135, R166). -/
def State.railLow (s : State) (n : Nat) : Bool :=
  let r := vget s.rails (n / 48) {}
  r.state == .off || r.state == .stopped || decide ((if r.vAt < s.now then r.v else r.vPrev) < bits r.thresh 0 9 * 8)

/-- Another event of the quad runs a boost-using phase (R129). -/
def State.boostBusy (s : State) (n : Nat) : Bool :=
  (quadOthers n).any fun m => match (s.chan m).ev with
    | some e => phBoost (profPhase e.prof e.phase) && decide (e.phase < 8)
    | none => false

/-- The START_A named (cyc, idx) of channel n is over at its die, refused, dropped, cancelled or with its event at an end: an
END crossed from now on does not find it (R86, R87). -/
def State.angleOver (s : State) (n cyc idx : Nat) : State :=
  s.both fun L =>
    if (L.route n).rcn.toNat % 32 == cyc % 32 then
      L.routeUpd n fun t => { t with openA := t.openA.filter (· != idx) }
    else L

/-- A sample of channel n waits in the queue: its current, the sum of a pair (R20, R118). -/
def State.sampleSoon (s : State) (n : Nat) : Option Nat :=
  s.pending.findSome? fun i => match i with
    | .currentSample m i iOdd => if m.val = n then some (if s.paired n then i.toNat + iOdd.toNat else i.toNat) else none
    | _ => none

/-- A sample of channel n at this moment falls into a blanking interval, with the edges at MIX_T that have passed (R118). -/
def State.blanked (s : State) (n : Nat) : Bool := decide (s.now < ((s.mixPass (n / 4)).chan n).blankTo)

/-- The landing verdict as an event ends (R149): LANDED by a dip that the sample of the same cycle confirms, else MISSING
where the window is over, else NONE. -/
def State.endVerdict (s : State) (n : Nat) (e : Event) : State :=
  let s := s.mixPass (n / 4)
  let undecided := fun (s : State) => match (s.chan n).ev with
    | some e => e.detect.isSome
    | none => false
  let s := match s.sampleSoon n with
    | some i => if undecided (s.detectSample n i) then s else s.detectSample n i
    | none => s
  if undecided s then s.report ⟨n, if e.window.2 ≤ s.now then 2 else 0, 0, 0, s.chName n⟩ else s

/-- An event ends (R122, R132, R133, R149): its decay begins. `fast`: fast decay throughout. -/
def State.endEvent (s : State) (n : Nat) (fast : Bool) (after : ChanState) : State :=
  match (s.chan n).ev with
  | none => s
  | some e =>
    let s := s.endVerdict n e
    let w0 := profWord e.prof 0
    let s := s.switching n fun s => s.chanUpd n fun c => { c.addOn e.start s.now with
      ev := none, state := .decay, decaying := true, prevEnd := some s.now, decayAt := s.now
      decayFast := fast || bits w0 24 2 == 0, decayBoost := phBoost (profPhase e.prof e.phase) && !e.starved
      mixT := profMix e.prof, mixSeen := false, afterDecay := after }
    let s := (s.chFlag n 1).angleOver n (s.chan n).cyc (s.chan n).idx
    if e.peaked then s else s.both fun L => L.setFld (Reg.chnPeakt n) 0 16 0xFFFF

/-- Phase i of the event of channel n is the present one from now on: its supply and its switching element (R117, R119,
R135). -/
def State.phaseOn (s : State) (n i : Nat) : State :=
  match (s.chan n).ev with
  | none => s
  | some e =>
    let ph := profPhase e.prof i
    let boost := phBoost ph
    let low := boost && s.railLow n
    let on := if phReg ph then decide ((s.chan n).cur < phHi ph) else phKind ph == 1
    s.chanUpd n fun c => { c with
      starved := c.starved || low, mixSeen := false
      ev := some { e with phase := i, phaseAt := s.now, starved := low, blocked := none, elOn := on, elAt := s.now
                          altWin := match e.altWin with | some b => some b | none => if boost then some low else none } }

/-- A phase that begins starved is reported, and counted at its rail (R135, R166). -/
def State.starveReport (s : State) (n : Nat) : State :=
  match (s.chan n).ev with
  | some e =>
    if e.starved then (s.chFlag n 9).both fun L => (L.count (Reg.bstMin (n / 48)) 16 16).event (Reg.bstEvent (n / 48)) 5
    else s
  | none => s

/-- Phase i of the event of channel n begins, or the profile ends (R117, R119, R122, R135). -/
def State.enterPhase (s : State) (n i : Nat) : State :=
  match (s.chan n).ev with
  | none => s
  | some e =>
    if 8 ≤ i || phKind (profPhase e.prof i) == 0 then s.endEvent n false .idle
    else (s.switching n fun s => s.phaseOn n i).starveReport n

/-- The present phase is over: the next begins, or is kept back by a boost-using phase of another event (R129). -/
def State.nextPhase (s : State) (n : Nat) : State :=
  match (s.chan n).ev with
  | none => s
  | some e =>
    let nx := profPhase e.prof (e.phase + 1)
    if e.phase < 7 && s.selectChop (n / 4) && phBoost nx && s.boostBusy n then
      s.chanUpd n fun c => { c with ev := some { e with blocked := some (e.blocked.getD s.now) } }
    else s.enterPhase n (e.phase + 1)

/-- I_HI of the first BOOST or PEAK phase, for the peak time (R133). -/
def peakLevel (p : BitVec 512) : Option Nat :=
  ((profPhases p).find? fun e => phKind e == 1 || phKind e == 2).map phHi

/-- The peak window of an event: T_MIN, T_MAX in units of 100 ns (R133). -/
def Chan.peakWin (c : Chan) (e : Event) : Nat × Nat :=
  let w := if e.altWin == some true then c.pkwinAlt else c.pkwin
  (bits w 0 16, bits w 16 16)

/-! ### Starts (R126 to R132, R138, R139) -/

/-- A channel whose start waits no longer (R140): in DECAY while the current of its last event still flows, else idle from
now on (R137). -/
def Chan.unwait (c : Chan) (now : Nat) : Chan :=
  if c.state == .wait then { c with wait := none, state := if c.decaying then .decay else .idle, idleAt := now }
  else { c with wait := none }

/-- A start is gone without an event (R139, R140): cancelled, dropped or refused. -/
def State.startGone (s : State) (n : Nat) (cmd : DrvCmd) : State :=
  if cmd.kind == .startA then s.angleOver n cmd.cyc cmd.idx else s

/-- A waiting start is cancelled (R140). So is one whose channel goes into FAULT, by DECAY_STUCK or the fencing of its die
(DESIGN CHOICE, log entry 107). -/
def State.cancelWait (s : State) (n : Nat) : State :=
  match (s.chan n).wait with
  | none => s
  | some w => ((s.chanUpd n fun c => c.unwait s.now).chLast n 12 none).startGone n w.cmd

/-- A waiting start, or one just arrived, is dropped (R139): OFF_DROP or QUAD_DROP with its delay. -/
def State.dropStart (s : State) (n : Nat) (quad : Bool) (delay : Nat) (cmd : DrvCmd) : State :=
  let s := (s.chanUpd n fun c => c.unwait s.now).startGone n cmd
  let nm := eventName cmd.idx cmd.cyc
  if quad then
    let s := ((s.chFlag n 8).chLast n 4 (some delay)).raiseBoth .chnQuadDrop n nm
    s.both fun L => ((L.setFld (Reg.quadConf (n / 4)) 24 2 (n % 4)).count (Reg.quadConf (n / 4)) 16 8).setFld
      (Reg.quadConf (n / 4)) 0 16 delay
  else ((s.chFlag n 7).chLast n 3 (some delay)).raiseBoth .chnOffDrop n nm

/-- DUTY refuses or drops a start (R132). -/
def State.dutyRefuse (s : State) (n : Nat) (delay : Option Nat) (cmd : DrvCmd) : State :=
  let first := !(s.chan n).dutyRun
  let s := (s.chanUpd n fun c => { c.unwait s.now with dutyRun := true }).startGone n cmd
  let s := (s.chFlag n 6).chLast n 5 delay
  if first then s.raiseBoth .chnDuty n (eventName cmd.idx cmd.cyc) else s

/-- The event of a start begins at its die now (R122, R139). -/
def State.beginEvent (s : State) (n : Nat) (w : WaitStart) (prof : BitVec 512) : State :=
  let c := w.cmd
  let stop := if c.kind == .startT then some (s.now + c.dur * 40) else if c.dur = 0 then none else some (s.now + c.dur * 40)
  let det := (profWord prof 2).getLsbD 31
  let s := s.switching n fun s =>
    (s.chanUpd n fun ch => { ch with
      state := .run, wait := none, dutyRun := false, starved := false, late := c.late, slot := c.slot, cyc := c.cyc, idx := c.idx
      lane := w.lane, startAt := s.now, blank := profBlank prof
      ev := some { prof := prof, angle := c.kind == .startA, start := s.now, stop := stop,
                   detect := if det then some {} else none } }).phaseOn n 0
  let s := (s.starveReport n).chFlag n 0
  let s := s.both fun L => L.count (Reg.chnCnt n) 16 16
  let s := if w.arrived < s.now then
      (s.chFlag n 5).both fun L =>
        (L.setFld (Reg.chnLast n) 12 4 (if w.quadSince.isSome then 2 else 1)).setFld (Reg.chnLast n) 16 16
          (delayUs (s.now - w.arrived))
    else s
  if phKind (profPhase prof 0) == 0 then s.endEvent n false .idle else s

/-- What holds a start of channel n back at its quad (R126, R128, R129): the blocking event, if one runs, or only
earlier starts that wait for the quad. `boost`: the first phase of the start is boost-using. -/
def State.quadBlock (s : State) (n : Nat) (boost : Bool) (since : Option Nat) : Option (Option Event) :=
  let select := s.selectChop (n / 4)
  let others := (quadOthers n).filter fun m => s.governs m != s.governs n
  let runs := others.findSome? fun m => match (s.chan m).ev with
    | some e => if !select || (boost && phBoost (profPhase e.prof e.phase)) then some e else none
    | none => none
  let ahead := others.any fun m => match (s.chan m).wait with
    | some w => match w.quadSince with
      | some t => match since with | some u => t < u || (t == u && m < n) | none => true
      | none => false
    | none => false
  if select && !boost then none
  else match runs with
    | some e => some (some e)
    | none => if ahead then some none else none

/-- The waiting start of channel n goes on as far as it can (R139): it starts, keeps waiting, or is dropped. While no lane
holds authority no event starts (R142). -/
def State.tryStart (s : State) (n : Nat) : State :=
  let c := s.chan n
  match c.wait with
  | none => s
  | some w =>
    if s.now < w.earliest || c.decaying then s
    else
      match vget c.slots w.cmd.slot none with
      | none => s
      | some prof =>
        let boost := phBoost (profPhase prof 0)
        match s.quadBlock n boost w.quadSince with
        | some b =>
          let far := match b with
            | some e => match e.stop with
              | some t => if !e.angle && !s.selectChop (n / 4) && s.now + s.maxDefer (n / 4) < t then some (t - s.now) else none
              | none => none
            | none => none
          match far, w.quadSince with
          | some t, none => s.dropStart n true (delayUs t) w.cmd
          | _, some _ => s
          | none, none => s.chanUpd n fun c => { c with wait := some { w with quadSince := some s.now } }
        | none =>
          if (votedLane (s.die (n / 16)).auth).isNone then s
          else if s.dutyFull n then s.dutyRefuse n (some 0) w.cmd
          else s.beginEvent n w prof

/-- A refusal of a start: flag and cause (R139). -/
def State.refuseStart (s : State) (n flag cause : Nat) (cmd : DrvCmd) : State :=
  ((s.chFlag n flag).chLast n cause none).startGone n cmd

/-- The procedure on_start of R139 for a start of lane l at its die. -/
def State.onStart (s : State) (l : LaneId) (n : Nat) (cmd : DrvCmd) : State :=
  if s.oddMember n then s.startGone n cmd
  else
    let s := s.both fun L => L.setFld (Reg.chnPeakt n) 16 16 (min (cmd.lateness / 40) 0xFFFF)
    let c := s.chan n
    let usable := match vget c.slots cmd.slot none with
      | some p => decide (profMax p ≤ hiLimit (s.paired n))
      | none => false
    if c.state == .off || c.state == .slave then s.refuseStart n 4 8 cmd
    else if c.state == .fault then s.refuseStart n 4 9 cmd
    else if c.state == .run then s.refuseStart n 4 6 cmd
    else if c.state == .wait then s.refuseStart n 4 7 cmd
    else if !usable then s.refuseStart n 4 10 cmd
    else if (s.die (n / 16)).hot && c.ctrl.getLsbD 6 then s.refuseStart n 13 11 cmd
    else if s.dutyFull n then s.dutyRefuse n none cmd
    else
      let tr := match c.prevEnd with
        | some e => max s.now (e + bits c.offtime 0 16 * 400)
        | none => s.now
      if bits c.offtime 16 16 * 400 < tr - s.now then s.dropStart n false (delayUs (tr - s.now)) cmd
      else (s.chanUpd n fun c => { c with wait := some ⟨cmd, l, s.now, tr, none⟩, state := .wait }).tryStart n

/-! ### Ends and protections (R133, R134, R140, R141) -/

/-- An event is cut by EN written 0, STOP, HALT or safe state: fast decay with ABORT (R140). -/
def State.abortEvent (s : State) (n : Nat) (after : ChanState) : State :=
  if (s.chan n).ev.isSome then (s.endEvent n true after).chFlag n 2 else s

/-- An END command at its die (R87, R104, R122). -/
def State.onEnd (s : State) (n : Nat) (fast : Bool) : State :=
  if s.oddMember n then s
  else match (s.chan n).ev with
    | some e => if e.angle then s.endEvent n fast .idle else s
    | none => s

/-- SHORT (R133). -/
def State.shortEvent (s : State) (n : Nat) : State :=
  let nm := s.chName n
  ((s.endEvent n true .fault).chFlag n 11).raiseBoth .chnShort n nm

/-- OPEN (R133). -/
def State.openEvent (s : State) (n : Nat) : State :=
  let k := (s.chan n).openRun + 1
  let lim := max (bits (s.chan n).ctrl 2 3) 1
  let nm := s.chName n
  let s := ((s.endEvent n true (if lim ≤ k then .fault else .idle)).chFlag n 10).chanUpd n fun c => { c with openRun := k }
  if lim ≤ k then s.raiseBoth .chnOpenLim n nm else s.raiseBoth .chnOpen n nm

/-- A hardware trip of an event (R134). -/
def State.tripEvent (s : State) (n : Nat) : State :=
  if (s.chan n).ev.isNone then s
  else
    let nm := s.chName n
    ((s.endEvent n true .fault).chFlag n 12).raiseBoth .chnHwTrip n nm

/-- The channel leaves DECAY (R140): the current has fallen, or never did; a start that waits is cancelled where the channel
does not become IDLE (log entry 107). -/
def State.leaveDecay (s : State) (n : Nat) (tgt : ChanState) : State :=
  let s := s.switching n fun s => s.chanUpd n fun c => { c with decaying := false }
  let s := if tgt == .idle then s else s.cancelWait n
  let s := s.chanUpd n fun c => { c with state := if c.state == .wait then .wait else tgt, idleAt := s.now }
  s.tryStart n

/-- A current sample of channel n, in units of 16 mA; iOdd that of the odd member (R118, R119, R122, R133, R140, R148). One
in a blanking interval only completes a point of the landing detector. -/
def State.sample (s : State) (n i iOdd : Nat) : State :=
  if s.oddMember n then s
  else
    let s := s.mixPass (n / 4)
    let cur := if s.paired n then i + iOdd else i
    let s := s.detectSample n cur
    if s.now < (s.chan n).blankTo then s
    else
    let s := s.chanUpd n fun c => { c with cur := cur }
    let c := s.chan n
    match c.ev with
    | none => if c.decaying && decide (cur * 16 < 250) then s.leaveDecay n c.afterDecay else s
    | some e =>
      let t := s.now - e.start
      let atPeak := !e.peaked && (match peakLevel e.prof with | some h => decide (h ≤ cur) | none => false)
      let s := if atPeak then
          (s.chanUpd n fun c => { c with ev := some { e with peaked := true } }).both fun L =>
            L.setFld (Reg.chnPeakt n) 0 16 (min (t / 40) 0xFFFE)
        else s
      if atPeak && t < (c.peakWin e).1 * 40 then s.shortEvent n
      else
        let s := if atPeak then s.chanUpd n fun c => { c with openRun := 0 } else s
        let e := { e with peaked := e.peaked || atPeak }
        let ph := profPhase e.prof e.phase
        let w0 := profWord e.prof 0
        let turn := fun (on : Bool) => s.switching n fun s => s.chanUpd n fun c =>
          { c with ev := some { e with elOn := on, elAt := s.now }, mixSeen := false }
        if e.blocked.isSome && !s.boostBusy n then s.nextPhase n
        else if phKind ph == 1 && decide (phHi ph ≤ cur) then s.nextPhase n
        else if phKind ph == 3 && phExit ph != 0 && decide (cur ≤ phLo ph) then s.nextPhase n
        else if phReg ph then
          let minOn := max (bits w0 8 8) 0x32 * 40
          let minOff := max (bits w0 0 8) 0x32 * 40
          if e.elOn && decide (phHi ph ≤ cur ∧ e.elAt + minOn ≤ s.now) then turn false
          else if !e.elOn && decide (cur ≤ phLo ph ∧ e.elAt + minOff ≤ s.now) then turn true
          else s
        else s

/-- STOP on the channels of die d (R141). -/
def State.stopChans (s : State) (d : Nat) : State :=
  (List.range 16).foldl (fun s i =>
    let n := 16 * d + i
    let s := s.cancelWait n
    match (s.chan n).ev with
    | some e => if e.angle then s.abortEvent n .idle else s
    | none => s) s

/-- HALT, or safe state, on the channels of die d: every channel in fast decay (R141, R143). -/
def State.haltChans (s : State) (d : Nat) : State :=
  (List.range 16).foldl (fun s i =>
    let n := 16 * d + i
    ((s.cancelWait n).abortEvent n .idle).switching n fun s => s.chanUpd n fun c =>
      if c.decaying then { c with decayFast := true } else c) s

/-- A channel goes into FAULT, by way of DECAY where current still flows (R136), its waiting start cancelled (log entry 107);
the odd member of a pair stays SLAVE (R130). -/
def State.faultChan (s : State) (n : Nat) : State :=
  if s.oddMember n then s
  else
    let s := s.cancelWait n
    if (s.chan n).ev.isSome then s.endEvent n true .fault
    else s.chanUpd n fun c => if c.decaying then { c with afterDecay := .fault } else { c with state := .fault }

/-! ### Settings at the die (R130, R140, R144, R442) -/

/-- The state that EN written 0 leaves (R140). -/
def Chan.disabled (c : Chan) (now : Nat) : Chan :=
  match c.state with
  | .decay => { c with afterDecay := .off }
  | .slave | .off => c
  | .fault => { c with state := .off, idleAt := now, openRun := 0 }
  | _ => { c with state := .off, idleAt := now }

/-- CHNn_CTRL at the die: EN, CLR and the settings (R140). -/
def State.dieChnCtrl (s : State) (n : Nat) (v : Word) : State :=
  let en := v.getLsbD 0
  let s := s.chanUpd n fun c => { c with ctrl := v &&& 0x7D }
  if !en then ((s.cancelWait n).abortEvent n .off).chanUpd n fun c => c.disabled s.now
  else
    let s := s.chanUpd n fun c =>
      if c.state == .off then { c with state := if s.oddMember n then .slave else .idle, idleAt := s.now }
      else if c.state == .decay && c.afterDecay == .off then { c with afterDecay := .idle }
      else c
    if v.getLsbD 7 && (s.chan n).state == .fault && !(s.die (n / 16)).fenced then
      s.chanUpd n fun c => { c with state := .idle, openRun := 0, idleAt := s.now }
    else s

/-- The quad is busy: a channel in WAIT, RUN or DECAY (R130). -/
def State.quadBusy (s : State) (q : Nat) : Bool :=
  (List.range 4).any fun i => (s.chan (4 * q + i)).decaying || match (s.chan (4 * q + i)).state with
    | .wait => true | .run => true | .decay => true | _ => false

/-- The word that a write of CHN_QUADq_CTRL leaves: PAIR23, PAIR01 and MODE stay while the quad is busy (R130). -/
def quadTaken (old v : Word) (busy : Bool) : Word :=
  let v := v &&& 0x03FF0007
  if busy then setBits v 0 3 (bits old 0 3) else v

/-- CHN_QUADq_CTRL at the die, with the change of its channels' pairing (R130, R140): a channel that becomes the odd member
of a pair reads SLAVE, whatever its state was (DEDUCED, log entry 95). -/
def State.dieQuadCtrl (s : State) (q : Nat) (v : Word) : State :=
  let new := quadTaken (s.quadCtrl q) v (s.quadBusy q)
  let s := { s with quads := vmod s.quads q fun x => { x with ctrl := new } }
  [1, 3].foldl (fun s i => s.chanUpd (4 * q + i) fun c =>
    if s.oddMember (4 * q + i) then { c with state := .slave }
    else if c.state == .slave then { c with state := if c.ctrl.getLsbD 0 then .idle else .off, idleAt := s.now }
    else c) s

/-- A setting write that a die holds a copy of is applied (R442). -/
def State.dieApply (s : State) (w : DieWrite) : State :=
  let o := w.addr - 0x10020000
  if 0x3000 ≤ o then s.dieQuadCtrl ((o - 0x3000) / 16) w.v
  else
    let n := o / 64
    match o % 64 with
    | 0x00 => s.dieChnCtrl n w.v
    | 0x0C => s.chanUpd n fun c => { c with offtime := w.v }
    | 0x10 => s.chanUpd n fun c => { c with duty := w.v }
    | 0x14 => s.chanUpd n fun c => { c with pkwin := w.v }
    | 0x18 => s.chanUpd n fun c => { c with pkwinAlt := w.v }
    | _ => s

/-- The drive die of a channel or quad register that a die holds a copy of (R442). -/
def dieOfSetting (a : Nat) : Option Nat :=
  let o := a - 0x10020000
  if a < 0x10020000 then none
  else if o < 0x3000 then (if [0x00, 0x0C, 0x10, 0x14, 0x18].contains (o % 64) then some (o / 64 / 16) else none)
  else if o < 0x3300 && o % 16 = 0 then some ((o - 0x3000) / 16 / 4)
  else none

/-- The status registers of the odd members of quad q's pairs are at their reset values (R157). -/
def Lane.clearOdd (L : Lane) (q : Nat) : Lane :=
  [1, 3].foldl (fun L i =>
    if L.oddMember (4 * q + i) then L.resetRange (Reg.lndLast (4 * q + i)) (Reg.lndLast (4 * q + i) + 16) else L) L

/-- A write to CHN_QUADq_CTRL in the lane's register (R130); the status of a channel that is an odd member by it goes to its
reset values (R157). -/
def State.writeQuadReg (s : State) (l : LaneId) (q : Nat) (v : Word) : State :=
  let old := (s.lane l).reg (Reg.quadCtrl q)
  let rej := s.quadBusy q && bits old 0 3 != bits v 0 3
  s.upd l fun L =>
    let L := (L.setReg (Reg.quadCtrl q) (quadTaken old v rej)).clearOdd q
    if rej then L.event Reg.chnPdstat 30 else L

/-- A write of a setting in lane l: its register, and the write queued on the link to the die (R442). -/
def State.writeSetting (s : State) (l : LaneId) (a d : Nat) (v : Word) : State :=
  let s := if 0x10023000 ≤ a then s.writeQuadReg l ((a - 0x10023000) / 16) v else s.upd l fun L => L.applyCodes a v
  s.upd l fun L => { L with dieWrites := vmod L.dieWrites d fun q => q ++ [⟨a, v⟩] }

/-- The same write, carried out at the lane and at its die in one command (R140, R130, R442). -/
def State.settingNow (s : State) (l : LaneId) (a d : Nat) (v : Word) : State :=
  let s := if 0x10023000 ≤ a then s.writeQuadReg l ((a - 0x10023000) / 16) v else s.upd l fun L => L.applyCodes a v
  if s.dieTakes d l then s.dieApply ⟨a, v⟩ else s

/-! ### Distribution of profiles (R123 to R125) -/

/-- A request joins the queue of its die, merged with one already there (R125). -/
def Lane.pdPut (L : Lane) (c : SlotCopy) : Lane :=
  { L with pdQ := vmod L.pdQ (c.ch / 16) fun q => if q.contains c then q else q ++ [c] }

/-- The library profile that a slot of a channel names (R120). -/
def Lane.slotProf (L : Lane) (n slot : Nat) : Nat :=
  L.fld (if slot < 4 then Reg.chnProfileSel0 n else Reg.chnProfileSel1 n) (8 * (slot % 4)) 8

/-- A write to CHNn_PROFILE_SEL0 or SEL1 (R123). -/
def Lane.profileSelect (L : Lane) (n : Nat) (hi : Bool) (v : Word) : Lane :=
  let a := if hi then Reg.chnProfileSel1 n else Reg.chnProfileSel0 n
  let old := L.reg a
  (List.range 4).foldl (fun L j =>
    if bits old (8 * j) 8 = bits v (8 * j) 8 then L else L.pdPut ⟨n, (if hi then 4 else 0) + j, bits v (8 * j) 8⟩)
    (L.setReg a v)

/-- A write to CHN_PDIST (R123). -/
def Lane.pdist (L : Lane) (v : Word) : Lane :=
  (List.range 192).foldl (fun L n => (List.range 8).foldl (fun L k =>
    let p := L.slotProf n k
    if v.getLsbD 31 || p = bits v 0 8 then L.pdPut ⟨n, k, p⟩ else L) L) L

/-- Read a profile for distribution: its 64 bytes, and whether it may be sent (R121, R124, R280). -/
def Lane.readProfile (L : Lane) (p : Nat) (paired : Bool) : Lane × List Byte × Bool :=
  let (L, bs, poison) := L.readBytes (0x04100000 + 64 * p) 64 0x20 1
  let ok := !poison && profOk (BitVec.ofNat 512 (leNat bs)) paired
  if ok then (L, bs, true)
  else (((L.event Reg.chnPdstat 29).setFld Reg.chnPdstat 16 8 p), bs, false)

/-- A distributed slot copy arrives at die d from lane `snd` (R124): taken when the other lane's CRC agrees. -/
def State.slotArrive (s : State) (d : Nat) (snd : LaneId) : State :=
  let oth := otherLane snd
  match vget (s.lane snd).pdQ d [] with
  | [] => s
  | c :: rest =>
    let paired := s.paired c.ch
    let (L, bs, ok) := (s.lane snd).readProfile c.prof paired
    let s := s.setLane snd { L with pdQ := vmod L.pdQ d fun _ => rest }
    let M := s.lane oth
    let mine := (vget M.pdQ d []).find? fun e => e.ch == c.ch && e.slot == c.slot
    let (s, agree) := match mine with
      | some e =>
        let (M, bs', ok') := M.readProfile e.prof paired
        let M := { M with pdQ := vmod M.pdQ d fun q => q.filter fun x => !(x == e) }
        (s.setLane oth M, !M.on || s.variantS || (ok' && crc32c bs' == crc32c bs))
      | none => (s, s.variantS || !M.on || !M.ready || (match oth with | .a => s.jct.a.fence | .b => s.jct.b.fence) != 0)
    if !ok then s
    else if agree then
      s.chanUpd c.ch fun x => { x with slots := vmod x.slots c.slot fun _ => some (BitVec.ofNat 512 (leNat bs)) }
    else
      (s.both fun L => ((L.event Reg.chnPdstat 28).setFld Reg.chnPdstat 16 8 c.prof).setFld Reg.chnPdstat 12 4 d).raiseBoth
        .chnPdistErr (0x100 + d)

/-! ### Landing estimate (R151 to R153) -/

/-- A landing report at a lane (R151, R152). -/
def Lane.landing (L : Lane) (r : LandingReport) : Lane :=
  let n := r.ch
  let dmin := L.fld (Reg.lndClamp n) 0 16 * 400
  let dmax := L.fld (Reg.lndClamp n) 16 16 * 400
  let last := fun (L : Lane) (v : Nat) => L.setReg (Reg.lndLast n) (BitVec.ofNat 32 (v * 2 ^ 30 + (if v % 2 = 1 then r.x else L.fld (Reg.lndLast n) 0 24)))
  if L.oddMember n then L
  else if r.verdict = 0 then last L 0
  else if r.verdict = 1 ∧ dmin ≤ r.x ∧ r.x ≤ dmax then
    let L := (last L 1).setReg (Reg.lndDip n) (BitVec.ofNat 32 (min r.depth 0xFFFF))
    let L := ((L.setFld (Reg.lndCnt n) 28 4 0).count (Reg.lndCnt n) 0 16).event (Reg.lndEvent n) 0
    if L.bit (Reg.lndCtrl n) 0 && !L.bit (Reg.lndCtrl n) 1 then
      let E := L.reg (Reg.lndEst n)
      let e : Int := (r.x * 256 : Nat) - (E.toNat : Int)
      let new : Int := E.toNat + e / 2 ^ L.fld (Reg.lndCtrl n) 8 3
      let new := max (dmin * 256 : Int) (min new (dmax * 256))
      { L.setReg (Reg.lndEst n) (BitVec.ofInt 32 new) with estOld := (n, (L.estOld.lookup n).getD E) :: L.estOld }
    else L
  else
    let rej := r.verdict = 1
    let L := if rej then ((last L 3).setReg (Reg.lndDip n) (BitVec.ofNat 32 (min r.depth 0xFFFF))).event (Reg.lndEvent n) 2
      else (last L 2).event (Reg.lndEvent n) 1
    let L := L.count (Reg.lndCnt n) 28 4
    let lim := L.fld (Reg.lndCtrl n) 12 4
    if lim ≠ 0 && L.fld (Reg.lndCnt n) 28 4 == lim then (L.event (Reg.lndEvent n) 3).raise .lndStuck n r.name else L

/-- A write to LNDn_CTRL, with SEED (R153). -/
def Lane.writeLndCtrl (L : Lane) (n : Nat) (v : Word) : Lane :=
  let L := L.applyCodes (Reg.lndCtrl n) v
  if v.getLsbD 2 then
    (L.setReg (Reg.lndEst n) (BitVec.ofNat 32 (L.fld (Reg.lndInit n) 0 24 * 256))).setFld (Reg.lndCnt n) 28 4 0
  else L

/-- A write to LNDn_EST (R153); the odd member's status shows no refusal (R157). -/
def Lane.writeLndEst (L : Lane) (n : Nat) (v : Word) : Lane :=
  if !L.bit (Reg.lndCtrl n) 0 || L.bit (Reg.lndCtrl n) 1 then L.setReg (Reg.lndEst n) v
  else if L.oddMember n then L else L.event (Reg.lndEvent n) 5

end Sys2Proof.Machine
end

