-- ==== Sys2Proof/Machine/IgnCore.lean ====
section
/-! DEFINITION. Ignition gates and boost rail controllers at the drive dies (07_boost_rails.md, 08_ignition.md). -/

namespace Sys2Proof.Machine

/-! ### Gates (R176 to R184) -/

/-- Gate g. -/
def State.gate (s : State) (g : Nat) : Gate := vget s.gates g {}
/-- Gate x becomes y at `now`: where IGg falls, the time is kept (R182). -/
def Gate.becomes (x y : Gate) (now : Nat) : Gate :=
  { y with leakAt := if y.drive == .low && x.drive != .low then now else y.leakAt }

/-- Change gate g; the time from which STUCK_ON counts is taken where IGg goes low (R182). -/
def State.gateUpd (s : State) (g : Nat) (f : Gate → Gate) : State :=
  { s with gates := vmod s.gates g fun x => x.becomes (f x) s.now }
/-- Spark set k as the die of gate g holds it: DWELL, LIMIT, DIAG and RS words (R185). -/
def State.sparkSet (s : State) (g k : Nat) : Word × Word × Word × Word :=
  vget (s.die (g / 4)).sets k (0, 0, 0, 0)
/-- Event flag of a gate, in both lanes. -/
def State.gFlag (s : State) (g i : Nat) : State := s.both fun L => L.event (Reg.ignEvent g) i
/-- Event name of a gate's present or last event (R255). -/
def State.gName (s : State) (g : Nat) : Nat := eventName (s.gate g).idx (s.gate g).cyc

/-- I_TGT of a spark set. -/
def setTgt (k : Word × Word × Word × Word) : Nat := bits k.1 16 10
/-- FLOOR of a spark set in TCLK. -/
def setFloor (k : Word × Word × Word × Word) : Nat := bits k.2.1 0 16 * 400
/-- DW_MAX of a spark set in TCLK. -/
def setMax (k : Word × Word × Word × Word) : Nat := bits k.2.1 16 16 * 400

/-- IGg turns the stage on (R169): high, or limiting. -/
def Gate.on (x : Gate) : Bool := x.drive == .high || x.drive == .limit

/-- A sense voltage that the stage would give, limited at I_TGT in a dwell (R174, R175). -/
def State.limited (s : State) (g : Nat) (v : BitVec 10) : BitVec 10 :=
  let x := s.gate g
  let tgt := setTgt (s.sparkSet g x.set)
  if x.state == .dwell && tgt != 0 && decide (tgt < v.toNat) then BitVec.ofNat 10 tgt else v

/-- The sense voltage of gate g now (R170, R174, R180, R185): the ramp of a soft abort, I_TGT while it is limited, a sample of
this TCLK, 0 before the first dwell, or what the stage gives, which is a free value (log entry 96), in a dwell I_TGT at most. -/
def State.gateSense (s : State) (g : Nat) : BitVec 10 :=
  let x := s.gate g
  match x.drive with
  | .ramp => BitVec.ofNat 10 (x.softI0 * (800000 - (s.now - x.softAt)) / 800000)
  | .limit => BitVec.ofNat 10 (setTgt (s.sparkSet g x.set))
  | _ => match x.igsAt with
    | none => 0
    | some t => if t = s.now then x.igs else s.limited g (Config.senseAt g s.now)

/-- A sample of IGSg (R174, R175, R177, R182): the peak of a dwell, and the first at or above I_TGT, from which on IGSg is
limited there; one at or below I_LEAK with IGg low begins the time of STUCK_ON anew. -/
def State.senseGate (s : State) (g : Nat) (igs : BitVec 10) : State :=
  let tgt := setTgt (s.sparkSet g (s.gate g).set)
  s.gateUpd g fun x =>
    let dwell := x.state == .dwell
    let hit := dwell && tgt != 0 && decide (tgt ≤ igs.toNat)
    { x with
      igs := igs, igsAt := some s.now
      leakAt := if x.drive == .low && decide (igs.toNat ≤ bits x.ctrl 16 10) then s.now else x.leakAt
      peak := if dwell && decide (x.peak.toNat < igs.toNat) then igs else x.peak
      charged := if hit then some (x.charged.getD (s.now - x.td)) else x.charged
      drive := if hit && x.drive == .high then .limit else x.drive }

/-- A soft abort begins (R180): the present sense voltage is ramped down, and the gate takes `after` at the end of the ramp. -/
def State.softAbort (s : State) (g : Nat) (after : GateState) : State :=
  let i0 := (s.gateSense g).toNat
  let s := s.gateUpd g fun x => { x with
    state := .soft, drive := .ramp, softAt := s.now, softI0 := i0, afterSoft := after, rsLeft := 0, heldTo := none }
  (s.gFlag g 4).both fun L => L.count (Reg.ignCnt g) 0 16

/-- A cause of R180 reaches gate g; `after` is FAULT for the fencing of its die and SHORT, else IDLE. STOP and HALT only
cancel the restrikes of a gate in the RESTRIKE gap. -/
def State.quietGate (s : State) (g : Nat) (stopHalt : Bool) (after : GateState) : State :=
  let x := s.gate g
  match x.state with
  | .dwell => s.softAbort g after
  | .restrike =>
    if x.on || !stopHalt then s.softAbort g after
    else s.gateUpd g fun x => { x with state := .idle, rsLeft := 0 }
  | .soft => s.gateUpd g fun x => { x with afterSoft := if after == .fault then .fault else x.afterSoft }
  | _ => s

/-- The gate turns OFF where EN = 0 leaves it at rest (R180, R184). -/
def State.gateRest (s : State) (g : Nat) : State :=
  s.gateUpd g fun x => if x.state == .idle && !x.ctrl.getLsbD 0 then { x with state := .off } else x

/-- A DWELL command at its gate (R175, R176). -/
def State.onDwell (s : State) (l : LaneId) (g : Nat) (c : DrvCmd) : State :=
  let k := s.sparkSet g c.slot
  let refuse := fun (cause : Nat) => (s.gFlag g 1).both fun L =>
    (L.setFld (Reg.ignLast g) 12 4 cause).count (Reg.ignCnt g) 0 16
  match (s.gate g).state with
  | .off => refuse 1
  | .fault => refuse 2
  | .dwell | .restrike | .soft => refuse 3
  | .idle =>
    if k.1.getLsbD 31 && setTgt k = 0 then refuse 4
    else
      let s := s.gateUpd g fun x => { x with
        state := .dwell, drive := .high, td := s.now, heldTo := none, charged := none, openDone := false, peak := 0
        lane := l, set := c.slot, cyc := c.cyc, idx := c.idx }
      s.gateUpd g fun x => { x with igs := s.limited g (Config.senseAt g s.now), igsAt := some s.now }

/-- The spark occurs now (R174, R175, R177): the charge time and the peak current come from the stage, which no command
reports, so both are free values (log entry 9), the peak limited to I_TGT and a target that it reaches reported as reached. -/
def State.doSpark (s : State) (g : Nat) : State :=
  let x := s.gate g
  let k := s.sparkSet g x.set
  let (w, s) := s.free
  let rn := min (bits k.2.2.2 20 3) 4
  let ipk := max x.peak.toNat (if setTgt k = 0 then w.toNat % 1024 else min (w.toNat % 1024) (setTgt k))
  let s := s.gateUpd g fun x => { x with
    drive := .low, heldTo := none, rsLeft := rn, rsAt := s.now, state := if 0 < rn then .restrike else .idle }
  let s := (s.gFlag g 0).both fun L =>
    ((L.setFld (Reg.ignLast g) 16 16 (min ((s.now - x.td) / 400) 0xFFFF)).setFld (Reg.ignLast g) 0 10 ipk).count
      (Reg.ignCnt g) 16 16
  if k.1.getLsbD 31 then
    let (w, s) := s.free
    let r : Option Nat := match x.charged with
      | some t => some t
      | none => if setTgt k ≤ ipk then some (min (bits w 0 24) (s.now - x.td)) else none
    s.both fun L => { L with chargeQ := L.chargeQ ++ [⟨g, x.set, r⟩] }
  else s

/-- A measurement that reaches I_TRIP waits in the same cycle: SHORT wins over a SPARK command (R182). -/
def State.shortSoon (s : State) (g : Nat) : Bool :=
  let trip := bits (s.sparkSet g (s.gate g).set).2.2.1 22 10
  s.pending.any fun i => match i with
    | .gateShort g' igs => g'.val == g && decide (trip ≤ igs.toNat)
    | _ => false

/-- A SPARK command at its gate (R172, R177); it is without effect where SHORT wins in the same cycle (R182). -/
def State.onSpark (s : State) (g : Nat) : State :=
  let x := s.gate g
  if x.state != .dwell || x.heldTo.isSome || s.shortSoon g then s
  else
    let tsp := max s.now (x.td + setFloor (s.sparkSet g x.set))
    if s.now < tsp then
      let d := min ((tsp - s.now + 39) / 40) 0xFFFF
      ((s.gateUpd g fun x => { x with heldTo := some tsp }).gFlag g 3).both fun L =>
        (L.count (Reg.ignLate g) 16 16).setFld (Reg.ignLate g) 0 16 d
    else s.doSpark g

/-- IGNg_CTRL at the die (R180, R184, R185). -/
def State.dieGateCtrl (s : State) (g : Nat) (v : Word) : State :=
  let s := s.gateUpd g fun x => { x with ctrl := v &&& 0x03FFFF41 }
  let s := if v.getLsbD 0 then s.gateUpd g fun x => if x.state == .off then { x with state := .idle } else x
    else (s.quietGate g false .idle).gateRest g
  if v.getLsbD 7 && (s.gate g).state == .fault && !(s.die (g / 4)).fenced then s.gateUpd g fun x => { x with state := .idle }
  else s

/-- Gate g in per-function reset in the authority lane (R23, R180): a dwell or restrike is soft-aborted, and the gate is OFF
with its settings at their reset values. -/
def State.gateReset (s : State) (g : Nat) : State :=
  let s := (s.quietGate g false .idle).gateUpd g fun x => { x with ctrl := 0x000A0000, afterSoft := .idle }
  s.gateUpd g fun x => if x.state == .soft then x else { x with state := .off }

/-- The gate takes IGNg_CTRL writes of lane l: of the authority lane, of either lane while none holds authority (DEDUCED,
log entry 10). -/
def State.gateTakes (s : State) (g : Nat) (l : LaneId) : Bool :=
  s.dieTakes (g / 4) l || (!s.variantS && (s.die (g / 4)).auth == .none)

/-- A write to IGNg_CTRL in lane l (R180, R184, R185). -/
def State.writeGateCtrl (s : State) (l : LaneId) (g : Nat) (v : Word) : State :=
  let s := s.upd l fun L => L.applyCodes (Reg.ignCtrl g) v
  if s.gateTakes g l then s.dieGateCtrl g v else s

/-- A charge-time report at a lane (R175). -/
def Lane.chargeReport (L : Lane) (r : ChargeReport) : Lane :=
  let old := L.fld (Reg.ignDwest r.gate) 0 24
  let e := match r.x with
    | some x => x + L.fld (Reg.setRs r.set) 24 8 * 4000
    | none => old + old / 8
  let e := max (L.fld (Reg.setLimit r.set) 0 16 * 400) (min e (L.fld (Reg.setLimit r.set) 16 16 * 400))
  L.setReg (Reg.ignDwest r.gate) (BitVec.ofNat 32 (min e (2 ^ 24 - 1)))

/-! ### Boost rails (R159 to R167) -/

/-- Rail k. -/
def State.rail (s : State) (k : Nat) : Rail := vget s.rails k {}
/-- Change rail k. -/
def State.railUpd (s : State) (k : Nat) (f : Rail → Rail) : State := { s with rails := vmod s.rails k f }
/-- Event flag of a rail, in both lanes. -/
def State.rFlag (s : State) (k i : Nat) : State := s.both fun L => L.event (Reg.bstEvent k) i

/-- VSET in measurement units of 0.0625 V (R168). -/
def Rail.vset (r : Rail) : Nat := max 80 (min (bits r.set 0 9) 400) * 8
/-- WIN in measurement units (R168). -/
def Rail.win (r : Rail) : Nat := max (bits r.set 16 4) 1 * 8
/-- OV in measurement units (R168). -/
def Rail.ovLevel (r : Rail) : Nat := bits r.thresh 18 9 * 8
/-- TOFF in TCLK (R161, R168). -/
def Rail.toff (r : Rail) : Nat := max (bits r.ctrl 16 8) 5 * 40

/-- ILIM as it acts, units of 5 mV: 0 acts as 1, above 50 as 50 (R168). -/
def Rail.ilim (r : Rail) : Nat := max 1 (min (bits r.set 24 8) 50)

/-- The ramp target at a time (R162). -/
def Rail.rampTarget (r : Rail) (now : Nat) : Nat :=
  if bits r.ctrl 8 8 = 0 then r.vset else min r.vset (r.v0 + bits r.ctrl 8 8 * 16 * (now - r.enAt) / 400000)

/-- The controller goes to STOPPED (R163). -/
def Rail.stop (r : Rail) (now : Nat) : Rail :=
  { r with state := .stopped, charging := false, fet := false, fetAt := if r.fet then now else r.fetAt, lagAt := none, chargeAt := none }

/-- The controller goes to OFF with the FET off (R163, R167). -/
def Rail.toOff (r : Rail) (now : Nat) : Rail := { r.stop now with state := .off, limitRun := 0, uvRun := 0 }

/-- A measurement of rail k (R160 to R165). -/
def State.railMeasure (s : State) (k v : Nat) : State :=
  let r := s.rail k
  let now := s.now
  let r1 := { r with vPrev := if r.vAt < now then r.v else r.vPrev, v := v, vAt := now, ilimIn := r.ilim }
  let ov := if r.ov then decide (r.ovLevel ≤ v + r.win) else decide (r.ovLevel ≤ v)
  let r2 := { r1 with ov := ov, uvRaised := r.uvRaised && decide (v < bits r.thresh 0 9 * 8) }
  let act := r.state == .ramp || r.state == .reg
  let tgt := if r.state == .ramp then r2.rampTarget now else r2.vset
  let toReg := r.state == .ramp && decide (r2.vset ≤ tgt)
  let charging := act && (if tgt ≤ v then false else if v + r2.win ≤ tgt then true else r2.charging)
  let r3 := { r2 with
    state := if toReg then .reg else r2.state
    charging := charging
    chargeAt := if !charging then none else if toReg then some now else some (r2.chargeAt.getD now)
    lagAt := if r.state == .ramp && !toReg && decide (v + 160 < tgt) then some (r2.lagAt.getD now) else none
    uvRun := if r.state == .reg && decide (v < bits r.thresh 9 9 * 8) then min (r2.uvRun + 1) 11 else 0 }
  let uv := r3.uvRun == 10
  let r4 := if uv then { r3 with uvRaised := true } else r3
  let s := s.railUpd k fun _ => r4
  let s := s.both fun L => if v < L.fld (Reg.bstMin k) 0 12 then L.setFld (Reg.bstMin k) 0 12 v else L
  let s := if toReg then s.rFlag k 0 else s
  let s := if ov && !r.ov then (s.rFlag k 2).raiseBoth .bstOv k else s
  if uv then
    let s := s.rFlag k 1
    if r3.uvRaised then s else s.raiseBoth .bstUv k
  else s

/-- The settings of rail k reach its controller (R159, R162, R163, R426); `enWritten`: BSTk_CTRL was written. -/
def State.railApply (s : State) (k : Nat) (ctrl set thresh : Word) (enWritten : Bool) : State :=
  let safe := (s.die (3 * k)).auth == .safe || s.vsupLow
  s.railUpd k fun r =>
    let r := { r with ctrl := ctrl, set := set, thresh := thresh, enOwed := false }
    if !ctrl.getLsbD 0 then (if enWritten then r.toOff s.now else r)
    else if enWritten && r.state == .off && !safe then { r with state := .ramp, enAt := s.now, v0 := r.v, lagAt := none, limitRun := 0 }
    else r

/-- The lane whose content reaches a die before the other lane's CRC is compared (R124, R159): the authority lane, or
the preferred lane while none holds authority, Lane A on the S variant (log entry 11). -/
def State.sender (s : State) (d : Nat) : LaneId :=
  if s.variantS then .a else (votedLane (s.die d).auth).getD s.pref

/-- Fence causes of a lane at the Junction. -/
def State.fence (s : State) : LaneId → BitVec 5
  | .a => s.jct.a.fence
  | .b => s.jct.b.fence

/-- The other lane takes part in a comparison of settings: it is fitted, runs, is READY and unfenced (R124, R159; log
entry 11). -/
def State.compares (s : State) (oth : LaneId) : Bool :=
  !s.variantS && (s.lane oth).on && (s.lane oth).ready && s.fence oth == 0

/-- The lanes hold the same settings of rail k, or no comparison takes part (R159). -/
def State.railAgree (s : State) (k : Nat) : Bool :=
  let snd := s.sender (3 * k)
  !s.compares (otherLane snd)
    || [Reg.bstCtrl k, Reg.bstSet k, Reg.bstThresh k].all fun a => (s.lane snd).reg a == (s.lane (otherLane snd)).reg a

/-- Settings of a rail reach its controller (R159): a mismatch keeps the old ones. -/
def State.railSettings (s : State) (k : Nat) : State :=
  let L := s.lane (s.sender (3 * k))
  let sent := L.railSent.getLsbD k
  let clear := fun (s : State) => s.both fun L => { L with railSent := putBit L.railSent k false }
  if !L.on then s
  else if !s.railAgree k then
    clear (((s.railUpd k fun r => { r with enOwed := r.enOwed || sent }).rFlag k 6).raiseBoth .bstSetErr k)
  else
    clear (s.railApply k (L.reg (Reg.bstCtrl k)) (L.reg (Reg.bstSet k)) (L.reg (Reg.bstThresh k)) (sent || (s.rail k).enOwed))

/-- A write to BSTk_CTRL that starts or stops the controller (R159, R163): the settings reach it once the lanes agree or
both have sent; until then the other lane's copy of the write is awaited. -/
def State.boostWrite (s : State) (l : LaneId) (k : Nat) (v : Word) : State :=
  let s := s.upd l fun L => { L.applyCodes (Reg.bstCtrl k) v with railSent := putBit L.railSent k true }
  if s.railAgree k || (s.laneA.railSent.getLsbD k && s.laneB.railSent.getLsbD k) then s.railSettings k else s

/-- The spark sets of a lane. -/
def Lane.sparkSets (L : Lane) : Vector (Word × Word × Word × Word) 8 :=
  Vector.ofFn fun k => (L.reg (Reg.setDwell k), L.reg (Reg.setLimit k), L.reg (Reg.setDiag k), L.reg (Reg.setRs k))

/-- The spark sets reach drive die d (R185). -/
def State.setsArrive (s : State) (d : Nat) : State :=
  let snd := s.sender d
  let L := s.lane snd
  if !L.on then s
  else if s.compares (otherLane snd) && L.sparkSets != (s.lane (otherLane snd)).sparkSets then
    (List.range 4).foldl (fun s i => (s.gFlag (4 * d + i) 10).raiseBoth .ignSetErr (4 * d + i)) s
  else s.dieUpd d fun x => { x with sets := L.sparkSets }

/-! ### What reaches every output of a die -/

/-- A cause of R180 reaches the gates of die d (R141, R180). -/
def State.quietGates (s : State) (d : Nat) (stopHalt : Bool) (after : GateState) : State :=
  (List.range 4).foldl (fun s i => s.quietGate (4 * d + i) stopHalt after) s

/-- Safe state is left at the controller of rail k (R167): EN = 1 must be written again, whatever was written before. -/
def State.railForget (s : State) (k : Nat) : State :=
  (s.railUpd k fun r => { r with enOwed := false }).both fun L => { L with railSent := putBit L.railSent k false }

/-- Safe state at the controller of rail k (R167): OFF, and EN must be written again. -/
def State.railSafe (s : State) (k : Nat) : State :=
  (s.railUpd k fun r => r.toOff s.now).railForget k

/-- Safe state at die d (R143, R167, R180, R266): channels in fast decay, gates soft-aborted, the rail's controller
OFF, held commands discarded. -/
def State.dieSafe (s : State) (d : Nat) : State :=
  let s := (s.haltChans d).quietGates d false .idle
  let s := if d % 3 = 0 then s.railSafe (d / 3) else s
  s.dieUpd d fun x => { x with store := [] }

/-- No two of a die's copies of the safe-state word are equal (R266). -/
def Die.split (x : Die) : Bool := x.safe0 != x.safe1 && x.safe0 != x.safe2 && x.safe1 != x.safe2

/-- A die with no two equal copies of the safe-state word applies the word's fixed actions at once (R266). -/
def State.splitDies (s : State) : State :=
  (List.range 12).foldl (fun s d => if (s.die d).split then s.dieSafe d else s) s

/-- Measurements of a die's temperature and dissipation (R136): hot, fenced and released. -/
def State.dieMeasure (s : State) (d : Nat) (temp power : BitVec 12) : State :=
  let L := s.lane (s.sender d)
  let tw : Int := min (L.fld (Reg.dieLimit d) 24 8) 170 * 8
  let pw := min (L.fld (Reg.dieLimit d) 0 16) 999
  let t := temp.toInt
  let fence := decide (175 * 8 ≤ t) || decide (1000 ≤ power.toNat)
  let hot := fence || decide (tw ≤ t) || decide (pw ≤ power.toNat)
  let x := s.die d
  let s := s.dieUpd d fun x => { x with temp := temp, power := power, hot := hot, fenced := fence || (x.fenced && hot) }
  let s := if hot && !x.hot then s.raiseBoth .chnDieHot (0x100 + d) else s
  if fence && !x.fenced then
    let s := (List.range 16).foldl (fun s i => (s.faultChan (16 * d + i)).chFlag (16 * d + i) 13) s
    (s.quietGates d false .fault).raiseBoth .chnDieFenced (0x100 + d)
  else s

end Sys2Proof.Machine
end

