-- ==== Sys2Proof/Machine/JctCore.lean ====
section
/-! DEFINITION. The Junction (claims, fences, voter transitions, voting) and what a drive die does with the commands of
the two lanes: execution, comparison, holding (11_lanes_junction.md R227 to R243). -/

namespace Sys2Proof.Machine

/-! ### Claims and fences (R227 to R229, R234) -/

/-- Bits of a fence record (R234, R254). -/
def fenceSilent : Nat := 0
/-- Cause DISPUTE. -/
def fenceDispute : Nat := 1
/-- Cause DIGEST. -/
def fenceDigest : Nat := 2
/-- Cause XWK. -/
def fenceXwk : Nat := 3
/-- Cause REJOIN. -/
def fenceRejoin : Nat := 4

/-- The Junction's part of a lane. -/
def State.jl (s : State) : LaneId → JctLane
  | .a => s.jct.a
  | .b => s.jct.b

/-- Change the Junction. -/
def State.jctUpd (s : State) (f : Junction → Junction) : State := { s with jct := f s.jct }

/-- Change the Junction's part of a lane. -/
def State.jlUpd (s : State) (l : LaneId) (f : JctLane → JctLane) : State :=
  match l with
  | .a => s.jctUpd fun j => { j with a := f j.a }
  | .b => s.jctUpd fun j => { j with b := f j.b }

/-- Set a fence cause (R234): the event FENCED comes about in both lanes. -/
def State.setFence (s : State) (l : LaneId) (i : Nat) : State :=
  if (s.jl l).fence.getLsbD i then s
  else
    let s := (s.jlUpd l fun j => { j with fence := putBit j.fence i true }).both fun L => L.event Reg.jctEvent 2
    if i = fenceXwk then s.both fun L => L.event Reg.jctEvent 9 else s

/-- Clear a fence cause (R234). -/
def State.clearFence (s : State) (l : LaneId) (i : Nat) : State :=
  s.jlUpd l fun j => { j with fence := putBit j.fence i false }

/-- Claim code that a lane presents (R227): 0 RELEASE, 1 STANDBY, 2 HOLD. -/
def State.claim (s : State) (l : LaneId) : Nat :=
  let L := s.lane l
  if !s.fitted l || !L.on || !L.ready || L.silenced || s.fence l != 0 || (s.jl l).kaLost then 0
  else if votedLane L.view == some l then 2
  else if L.standby then 1
  else 0

/-- A lane is eligible (R228): it presents STANDBY or HOLD, and a lane that presents either is not fenced. -/
def State.eligible (s : State) (l : LaneId) : Bool := s.claim l != 0

/-- A lane silences itself (R229): no more drive commands, RELEASE, fence cause SILENT. -/
def State.laneSilent (s : State) (l : LaneId) : State :=
  if (s.lane l).silenced then s
  else ((s.upd l fun L => { L with silenced := true }).upd l fun L => L.dropLinks s.now).setFence l fenceSilent



/-- The level that names a lane. -/
def votedOf : LaneId → Voted
  | .a => .laneA
  | .b => .laneB

/-! ### Voters (R230, R232, R235, R252) -/

/-- What asks the voters for a decision beside the sampled claims, keep-alives and fences (R230). -/
inductive JctReq where
  | none
  /-- A lane requests safe state, with the kind or 0xFF for the key (R265). -/
  | safe (l : LaneId) (cause : Nat)
  /-- The command-comparison policy selects safe state (R238). -/
  | misSafe
  /-- The planned handover of R235 was accepted. -/
  | handover
  /-- Safe state is left (R267). -/
  | leave
  /-- A lane has been eligible for 500 ms in START (R230). -/
  | eligTime (l : LaneId)
  /-- The 20 µs of COAST elapse (R230). -/
  | coastEnd
deriving DecidableEq, Repr

/-- What a transition does beside the change of state (R230). -/
inductive JctAction where
  | stay
  | grant
  /-- Handover, planned or after a release. -/
  | handover (planned : Bool)
  | coast
  /-- Dispute, by the claimant. -/
  | dispute (l : LaneId)
  /-- Safe state, with FLT_SAFE.CAUSE. -/
  | toSafe (cause : Nat)
  | toStart
deriving DecidableEq, Repr

/-- The voters' next state by R230, conditions in the order of its table, with R252 for the S variant. -/
def State.jctNext (s : State) (q : JctReq) : VoterState × JctAction :=
  let st := s.jct.state
  let safeAsked : Option Nat := match q with
    | .safe l c => if s.eligible l then some c else none
    | .misSafe => some Kind.jctMismatchSafe.code
    | _ => none
  match st, safeAsked with
  | .safe, _ => if q == .leave then (.start, .toStart) else (.safe, .stay)
  | _, some c => (.safe, .toSafe c)
  | .start, none =>
    let ea := s.eligible .a
    let eb := s.eligible .b
    if ea && eb then (.auth s.pref, .grant)
    else if ea && (s.variantS || s.jct.b.fence.getLsbD fenceDigest) then (.auth .a, .grant)
    else if eb && s.jct.a.fence.getLsbD fenceDigest then (.auth .b, .grant)
    else match q with
      | .eligTime l => if s.eligible l then (.auth l, .grant) else (.start, .stay)
      | _ => (.start, .stay)
  | .auth x, none =>
    let y := otherLane x
    if s.claim x = 2 && s.claim y = 2 then (.auth x, .dispute y)
    else if s.claim x = 0 && s.eligible y then (.auth y, .handover false)
    else if s.claim x = 0 then (if s.variantS then (.safe, .toSafe Kind.jctCoastSafe.code) else (.coast, .coast))
    else if q == .handover then (.auth y, .handover true)
    else (.auth x, .stay)
  | .coast, none =>
    if s.eligible s.pref then (.auth s.pref, .grant)
    else if s.eligible (otherLane s.pref) then (.auth (otherLane s.pref), .grant)
    else if q == .coastEnd then (.safe, .toSafe Kind.jctCoastSafe.code)
    else (.coast, .stay)

/-- The level a healthy voter drives in a state (R232). -/
def VoterState.level : VoterState → Voted
  | .auth l => votedOf l
  | .safe => .safe
  | _ => .none

/-- What a voter drives: its level, or the output it is stuck at (R232). -/
def voterOut (f : VoterFault) (v : Voted) : VoterOut :=
  match f with
  | .healthy => .level v
  | .stuck o => o

/-- Two voters drive the same valid level (R232). -/
def voterAgree : VoterOut → VoterOut → Option Voted
  | .level v, .level w => if v = w then some v else none
  | _, _ => none

/-- The voted value with the split and the odd voter (R232): 0 none, 1 two to one, 2 three ways. -/
def voteOut (a b c : VoterOut) : Voted × Nat × Nat :=
  match voterAgree a b, voterAgree a c, voterAgree b c with
  | some v, some _, _ => (v, 0, 0)
  | some v, none, _ => (v, 1, 2)
  | none, some v, _ => (v, 1, 1)
  | none, none, some v => (v, 1, 0)
  | none, none, none => (.safe, 2, 0)

/-- Item 2 of a running lane is loaded anew where its own claim code has changed (R289); not where no two copies agree, for then
nothing tells the code that it holds. -/
def State.claimUpdate (s : State) (l : LaneId) : State :=
  let c := s.claim l
  s.upd l fun L =>
    if L.on && (vget L.triples 2 ⟨0, 0, 0⟩).vote.isSome && L.ownClaim != c then L.setView L.view c else L

/-- Each running lane's view takes the voted value, and triplicated item 2 is loaded (R232, R289). -/
def State.viewUpdate (s : State) (v : Voted) : State :=
  let f := fun (s : State) (l : LaneId) => (s.upd l fun L => if L.on then L.setView v L.ownClaim else L).claimUpdate l
  f (f s .a) .b

/-- The voted value enters SAFE (R107, R265, R266): CAUSE is written, and the schedulers cancel every waypoint; no STOP
is needed, for the dies act by their own safe-state words. -/
def State.enterSafe (s : State) (cause : Nat) : State :=
  let f := fun (L : Lane) => L.setFld Reg.fltSafe 0 8 cause
  { s with laneA := f s.laneA, laneB := f s.laneB }.both fun L => L.cancelAll 7

/-- Safe state is left (R267): each route resumes at its next route cycle start. -/
def State.leaveSafe (s : State) : State :=
  s.both fun L =>
    if L.odo.valid && L.bit Reg.wptCtrl 0 then L.eachRoute fun L r => L.routeUpd r fun t =>
      if t.phase == .idle then { t with phase := .waiting, armed := none, armNext := none } else t
    else L

/-- What a transition does (R230, R238, R253). -/
def State.jctAct (s : State) (x : LaneId) (act : JctAction) : State :=
  match act with
  | .stay => s
  | .grant => s.both fun L => L.event Reg.jctEvent 0
  | .handover planned =>
    let s := s.both fun L => (L.event Reg.jctEvent 1).count Reg.jctCnt 24 8
    if planned then s else s.upd (otherLane x) fun L => if L.on then L.raise .jctHandoverRel 0x3FFF else L
  | .coast => (s.jctUpd fun j => { j with coastAt := s.now, coastOwed := false }).both fun L => L.event Reg.jctEvent 3
  | .dispute y =>
    ((s.setFence y fenceDispute).both fun L => (L.event Reg.jctEvent 4).count Reg.jctCnt 0 8).raiseBoth .jctDispute 0x3FFF
  | .toSafe c => if c = Kind.jctCoastSafe.code then s.raiseBoth .jctCoastSafe 0x3FFF else s
  | .toStart => s.jctUpd fun j => { j with a := { j.a with eligAt := none }, b := { j.b with eligAt := none } }

/-- The outputs of the three voters are taken over (R232, R233): voted value, splits, faults. -/
def State.jctVote (s : State) (old : Voted) (cause : Nat) : State :=
  let j := s.jct
  let lv := j.state.level
  let o0 := voterOut j.f0 lv
  let o1 := voterOut j.f1 lv
  let o2 := voterOut j.f2 lv
  let (v, split, odd) := voteOut o0 o1 o2
  let newSplit := split != 0 && (split != j.split || (split == 1 && odd != j.odd))
  let s := s.jctUpd fun j => { j with
    v0 := o0, v1 := o1, v2 := o2, voted := v, split := split, odd := if split = 1 then odd else j.odd
    votedAt := if v = old then j.votedAt else s.now, state := if split = 2 then .safe else j.state }
  let s := s.viewUpdate v
  let s := if v == .safe && old != .safe then s.enterSafe (if split = 2 then Kind.jctSplit3.code else cause) else s
  let s := if old == .safe && v != .safe then s.leaveSafe else s
  if !newSplit then s
  else if split = 1 then (s.both fun L => (L.event Reg.jctEvent 5).count Reg.jctCnt 8 8).raiseBoth .jctSplit2 odd
  else
    let s := (s.both fun L => (L.event Reg.jctEvent 6).count Reg.jctCnt 8 8).raiseBoth .jctSplit3 0x3FFF
    (List.range 12).foldl (fun s d => (s.dieUpd d fun x => { x with auth := .safe }).dieSafe d) s

/-- A release resolves every mismatch that awaits judgement (R238). -/
def State.judgeRelease (s : State) : State :=
  if s.claim .a = 0 || s.claim .b = 0 then
    s.jct.judge.foldl (fun s m => s.raiseBoth .jctMismatchRel m.2) (s.jctUpd fun j => { j with judge := [] })
  else s

/-- The voters decide (R230). -/
def State.jctDecide (s : State) (q : JctReq) : State :=
  let x := match s.jct.state with | .auth x => x | _ => s.pref
  let (st, act) := s.jctNext q
  let old := s.jct.voted
  let s := s.judgeRelease.jctAct x act
  let s := s.jctUpd fun j => { j with state := st }
  s.jctVote old (match act with | .toSafe c => c | _ => 0)

/-- The end of the 20 µs of COAST (R20, R230): it waits for the commands of its cycle, since a lane that they make eligible
wins. -/
def State.coastDecide (s : State) : State :=
  if !s.jct.coastOwed || !s.pending.isEmpty then s
  else
    let s := s.jctUpd fun j => { j with coastOwed := false }
    if s.jct.state == .coast then s.jctDecide .coastEnd else s

/-! ### Conditions of comparison, eligibility in START, frames ready to send -/

/-- The conditions of R240 but the route cycles. -/
def State.cmpBase (s : State) : Bool :=
  !s.variantS && s.laneA.on && s.laneB.on && s.jct.a.fence == 0 && s.jct.b.fence == 0 && s.laneA.odo.valid && s.laneB.odo.valid
    && s.laneA.odo.dir == s.laneB.odo.dir && s.mirror == .linked

/-- The route cycles of R240 are counted afresh once the other conditions come true, and comparison ends once one fails. -/
def State.cmpUpdate (s : State) : State :=
  let ok := s.cmpBase
  if ok && !s.jct.cmpOk then
    let z := fun (L : Lane) => L.schedUpd fun c => { c with routes := c.routes.map fun t => { t with cmpCycles := 0 } }
    { s with laneA := z s.laneA, laneB := z s.laneB, jct := { s.jct with cmpOk := true } }
  else if ok then s
  else s.jctUpd fun j => { j with cmpOk := false, cmpOn := false }

/-- A lane has been eligible in START since now, or is not (R231). -/
def State.eligUpdate (s : State) : State :=
  let f := fun (s : State) (l : LaneId) =>
    let e := s.jct.state == .start && s.eligible l
    s.jlUpd l fun j => { j with eligAt := if e then some (j.eligAt.getD s.now) else none }
  f (f s .a) .b

/-- A frame of lane l, no heartbeat, stands unacknowledged (R244). -/
def State.outstanding (s : State) (l : LaneId) : Bool :=
  let x := (s.lane (otherLane l)).xwk
  x.rx.any (fun m => !m.isHb) || x.digestIn.isSome

/-- The frame in flight to lane l has arrived and is acknowledged; the next one is in flight from now on (R244; one frame at a
time, DESIGN CHOICE, log entry 108). -/
def State.acked (s : State) (l : LaneId) : State :=
  s.upd (otherLane l) fun L => { L with xwk := { L.xwk with retries := 0, frameAt := s.now } }

/-- The frames that lane l has ready leave for the other lane, in their order: heartbeats always, others while the link is
UP (R244). -/
def State.flushXwk (s : State) (l : LaneId) : State :=
  match (s.lane l).xwk.tx with
  | [] => s
  | tx =>
    let out := (if s.link == .up then tx else tx.filter XMsg.isHb).foldl (fun q m => m.queue q) []
    let idle := !s.outstanding l
    let s := s.upd l fun L => { L with xwk := { L.xwk with tx := [], frameAt := if idle then s.now else L.xwk.frameAt } }
    if s.variantS then s else s.upd (otherLane l) fun L => if L.counts then { L with xwk := { L.xwk with rx := L.xwk.rx ++ out } } else L

/-! ### Commands at a drive die (R101, R141, R142, R176, R233, R237, R239) -/

/-- The command is executed at die d now; it moves no switch while VSUP is absent (R426). -/
def State.dieExec (s : State) (l : LaneId) (d : Nat) (c : DrvCmd) : State :=
  if s.vsupLow then s
  else match c.kind with
  | .startT => s.onStart l (16 * d + c.ch % 16) c
  | .startA => s.onStart l (16 * d + c.ch % 16) c
  | .endA => s.onEnd (16 * d + c.ch % 16) false
  | .endFast => s.onEnd (16 * d + c.ch % 16) true
  | .dwell => s.onDwell l (4 * d + c.ch % 4) c
  | .spark => s.onSpark (4 * d + c.ch % 4)
  | .stop => (s.stopChans d).quietGates d true .idle
  | .halt => (s.haltChans d).quietGates d true .idle

/-- Type of a command in comparisons and in JCT_MISMATCH.CMD (R237, R254). -/
def DrvKind.code : DrvKind → Nat
  | .startT => 1 | .startA => 2 | .endA => 3 | .endFast => 3 | .dwell => 4 | .spark => 5 | .stop => 0 | .halt => 0

/-- Channel field of JCT_MISMATCH (R254). -/
def DrvCmd.chField (c : DrvCmd) : Nat := if c.kind == .dwell || c.kind == .spark then 16 + c.ch else c.ch

/-- Two commands pair (R237): channel or gate, event name and type are equal. -/
def DrvCmd.pairs (c e : DrvCmd) : Bool :=
  c.kind.code == e.kind.code && c.ch == e.ch && c.idx == e.idx && c.cyc == e.cyc

/-- Tolerance of the comparison at die d (R237), by the settings and the speed word of the authority lane. -/
def State.cmpTol (s : State) (d : Nat) : Nat :=
  let l := (votedLane (s.die d).auth).getD s.pref
  let L := s.lane l
  let w := match l with | .a => (s.die d).speedA | .b => (s.die d).speedB
  min (min (L.fld Reg.jctCmp 0 8) 0x64 * 40 + L.fld Reg.jctCmp 16 8 * w) 4000

/-- Arrival of a command less the delays it reports (R237). -/
def cmdTime (arrived : Nat) (c : DrvCmd) : Int := (arrived : Int) - c.lateness - c.qdelay

/-- A mismatch is reported to both lanes and to the Junction (R238): kind 1 MISSING, 2 CONTENT, 3 TIMING. -/
def State.mismatch (s : State) (d kind : Nat) (first : LaneId) (c : DrvCmd) : State :=
  let w := d * 2 ^ 28 + kind * 2 ^ 26 + laneNum first * 2 ^ 25 + c.chField % 32 * 2 ^ 20 + c.cyc % 32 * 2 ^ 15 + c.idx % 8 * 2 ^ 12
    + c.kind.code * 2 ^ 8
  let s := s.both fun L => ((L.setReg Reg.jctMismatch (BitVec.ofNat 32 w)).count Reg.jctCnt 16 8).event Reg.jctEvent 7
  s.jctUpd fun j => { j with judge := j.judge ++ [(s.now, d)] }

/-- A command meets its partner (R237). -/
def State.comparePair (s : State) (d : Nat) (p : Stored) (l : LaneId) (c : DrvCmd) : State :=
  if !(s.die d).cmpOn || !p.open_ then s
  else if p.cmd.slot != c.slot || p.cmd.dur != c.dur then s.mismatch d 2 p.lane c
  else if (s.cmpTol d : Int) < (cmdTime s.now c - cmdTime p.arrived p.cmd).natAbs then s.mismatch d 3 (if p.lane == l then l else p.lane) c
  else s

/-- Keep a command at a die (R237, R239). -/
def State.keep (s : State) (d : Nat) (x : Stored) : State := s.dieUpd d fun y => { y with store := y.store ++ [x] }

/-- Drop a kept command. -/
def State.unkeep (s : State) (d : Nat) (x : Stored) : State := s.dieUpd d fun y => { y with store := y.store.filter (· != x) }

/-- The kept partner of a command of lane l, within the 10 µs of R237. -/
def State.partner (s : State) (d : Nat) (l : LaneId) (c : DrvCmd) : Option Stored :=
  (s.die d).store.find? fun x => x.lane == otherLane l && x.cmd.pairs c && decide (s.now ≤ x.arrived + 4000)

/-- A command of lane l arrives at die d (R142, R176, R233, R234, R237, R239). -/
def State.dieArrive (s : State) (l : LaneId) (d : Nat) (c : DrvCmd) : State :=
  let x := s.die d
  let compared := c.kind != .stop && c.kind != .halt
  let excluded := x.fencedLane == some l && votedLane x.auth != some l
  match x.auth with
  | .safe => s
  | .none =>
    if c.kind == .startT || c.kind == .startA || c.kind == .dwell then
      if excluded then s else s.keep d { lane := l, cmd := c, arrived := s.now, open_ := false, done := false, held := true }
    else
      let s := s.dieExec l d c
      if compared then s.keep d { lane := l, cmd := c, arrived := s.now, open_ := false, done := true, held := false } else s
  | v =>
    if votedLane v == some l then
      if !compared || s.variantS then s.dieExec l d c
      else match s.partner d l c with
        | some p =>
          let s := (s.unkeep d p).comparePair d p l c
          if p.done then s else s.dieExec l d c
        | none =>
          (s.dieExec l d c).keep d { lane := l, cmd := c, arrived := s.now, open_ := x.cmpOn, done := true, held := false }
    else if !compared || excluded || s.variantS then s
    else match s.partner d l c with
      | some p => if p.done then (s.unkeep d p).comparePair d p l c
                  else s.keep d { lane := l, cmd := c, arrived := s.now, open_ := x.cmpOn, done := false, held := true }
      | none => s.keep d { lane := l, cmd := c, arrived := s.now, open_ := x.cmpOn, done := false, held := true }

/-- The held commands of the new authority lane are executed in arrival order, flagged late by the time they were held
(R239). -/
def State.runHeld (s : State) (l : LaneId) (d : Nat) : State :=
  let mine := (s.die d).store.filter fun x => x.lane == l && x.held && decide (s.now ≤ x.arrived + 8000)
  let s := mine.foldl (fun s x =>
    match (s.die d).store.find? fun y => y.lane == otherLane l && y.done && y.cmd.pairs x.cmd with
    | some _ => s.unkeep d x
    | none =>
      let t := s.now - x.arrived
      let s := (s.unkeep d x).dieExec l d { x.cmd with late := true, lateness := x.cmd.lateness + t }
      let s := s.keep d { x with held := false, done := true }
      s.upd l fun L => if L.on then L.event Reg.jctEvent 11 else L) s
  s.dieUpd d fun y => { y with store := y.store.filter fun x => !(x.lane == l && x.held) }

/-- The waiting starts of die d go on (R142). -/
def State.tryStarts (s : State) (d : Nat) : State := (List.range 16).foldl (fun s i => s.tryStart (16 * d + i)) s

/-- The voted value takes effect at die d (R142, R233, R239, R266). -/
def State.authorityAt (s : State) (d : Nat) : State :=
  let v := s.jct.voted
  if (s.die d).auth = v then s
  else
    let s := s.both fun L => L.readTriple 2
    let s := if (s.die d).auth == .safe && d % 3 = 0 then s.railForget (d / 3) else s
    let s := s.dieUpd d fun x => { x with auth := v }
    match v with
    | .safe => s.dieSafe d
    | .none => s
    | .laneA => (s.runHeld .a d).tryStarts d
    | .laneB => (s.runHeld .b d).tryStarts d

/-- The front command of lane l's link to die d, once it is due and of a kind that the command names (R105). A frame that
fails its link check (`bad`) is discarded (R237). A change of the voted value that takes effect at the die in the same cycle
comes first (R233). -/
def State.linkArrive (s : State) (l : LaneId) (d : Nat) (kinds : List DrvKind) (bad : Bool) : State :=
  match vget (s.lane l).sched.links d [] with
  | [] => s
  | e :: rest =>
    if s.now < e.due || !kinds.contains e.cmd.kind then s
    else
      let s := s.upd l fun L => L.schedUpd fun c => { c with links := vmod c.links d fun _ => rest }
      if bad then s
      else
        let soon := s.pending.any fun i => match i with | .authorityChange x => x.val == d | _ => false
        (if soon then s.authorityAt d else s).dieArrive l d e.cmd

/-- The link, the die and the kinds of the good frame whose arrival a waiting command stands for. -/
def arrivalOf : Instr → Option (LaneId × Nat × List DrvKind)
  | .start l ⟨d, false⟩ => some (l, d, [.startT, .startA])
  | .endCmd l ⟨d, false⟩ => some (l, d, [.endA, .endFast])
  | .dwell l ⟨d, false⟩ => some (l, d, [.dwell])
  | .spark l ⟨d, false⟩ => some (l, d, [.spark])
  | _ => none

/-- An END or SPARK of lane l that arrives at die d in this cycle is executed: it is the authority lane's, or no lane holds
authority, and its partner has not been executed (R142, R176, R239). A change of the voted value that takes effect at the die
in the same cycle comes first (R233). -/
def State.executesEnd (s : State) (d : Nat) (l : LaneId) (c : DrvCmd) : Bool :=
  let soon := s.pending.any fun i => match i with | .authorityChange x => x.val == d | _ => false
  let auth := if soon then s.jct.voted else (s.die d).auth
  auth == .none || (votedLane auth == some l && (s.variantS || !(s.partner d l c).any (·.done)))

/-- A command that meets p stands at the front of a link to die d, is due, and its arrival waits in the queue (R20). -/
def State.linkSoon (s : State) (d : Nat) (p : LaneId → DrvCmd → Bool) : Bool :=
  s.pending.any fun i => match arrivalOf i with
    | some (l, d', kinds) =>
      d' == d && (match vget (s.lane l).sched.links d [] with
        | e :: _ => decide (e.due ≤ s.now) && kinds.contains e.cmd.kind && p l e.cmd
        | [] => false)
    | none => false

/-- A kept command of die d whose 10 µs are over, and whose partner does not arrive in this cycle (R20, R237). -/
def State.overWindow (s : State) (d : Nat) (x : Stored) : Bool :=
  decide (x.arrived + 4000 ≤ s.now) && !s.linkSoon d fun l c => l == otherLane x.lane && x.cmd.pairs c

/-- Kept commands whose 10 µs are over (R237): while the die compares (R240), one with no partner is a MISSING mismatch. -/
def State.windowExpiry (s : State) (d : Nat) : State :=
  let old := (s.die d).store.filter fun x => s.overWindow d x
  let s := old.foldl (fun s x => if x.open_ && (s.die d).cmpOn then s.mismatch d 1 x.lane x.cmd else s) s
  s.dieUpd d fun y => { y with store := (y.store.map fun x =>
    if s.overWindow d x then { x with open_ := false } else x).filter fun x => x.held || !s.overWindow d x }

/-- The speed word of a lane (R236): 0.01 °CA at its predicted speed, in TCLK, to the nearest. -/
def Lane.speedWord (L : Lane) : Nat := (L.perPos * L.odoN + 18000) / 36000

/-- A speed word, and from the authority lane the comparison state, arrive at die d (R236, R240). -/
def State.speedArrive (s : State) (l : LaneId) (d : Nat) : State :=
  let w := (s.lane l).speedWord
  let s := s.dieUpd d fun x => match l with | .a => { x with speedA := w } | .b => { x with speedB := w }
  if s.variantS || votedLane s.jct.voted != some l then s
  else
    let o := otherLane l
    s.dieUpd d fun x => { x with cmpOn := s.jct.cmpOn, fencedLane := if s.fence o != 0 then some o else none }

end Sys2Proof.Machine
end

