-- ==== Sys2Proof/Machine/IcuCore.lean ====
section
/-! DEFINITION. The interrupt controller of a lane (16_interrupts.md). -/

namespace Sys2Proof.Machine

/-! ### Sources (R346, R347) -/

/-- A reserved source number (R346). -/
def srcReserved (k : Nat) : Bool :=
  k == 14 || k == 15 || (41 ≤ k && k ≤ 47) || (59 ≤ k && k ≤ 63) || (137 ≤ k && k ≤ 139) || (180 ≤ k && k ≤ 183) || 192 ≤ k

/-- Some bit of a register under a mask is set. -/
def Lane.anyBit (L : Lane) (a : Nat) (m : Word) : Bool := L.reg a &&& m != 0

/-- Capacity of the receive and transmit queue of byway engine e (R380). -/
def Lane.bywCap (L : Lane) (e : Nat) : Nat × Nat :=
  match L.fld (Reg.bywQcfg e) 22 2 with | 1 => (8, 0) | 2 => (0, 8) | _ => (4, 4)

/-- RX_LVL of engine e (R381). -/
def Lane.bywRxLvl (L : Lane) (e : Nat) : Bool :=
  let th := L.fld (Reg.bywQcfg e) 28 4
  th != 0 && decide (th ≤ (vget L.byw e {}).rx.length)

/-- TX_LVL of engine e (R381). -/
def Lane.bywTxLvl (L : Lane) (e : Nat) : Bool :=
  let th := L.fld (Reg.bywQcfg e) 24 4
  th != 0 && decide ((vget L.byw e {}).tx.length < th)

/-- The signal of source k (R346); the privileged sources 8 to 13 are pulses, which arrive by command. -/
def Lane.srcSignal (L : Lane) (k : Nat) : Bool :=
  if k < 3 then L.bit Reg.fltPend (2 - k)
  else if k < 6 then L.bit Reg.fltIrq (5 - k)
  else if k = 6 then L.anyBit Reg.jctEvent 0xFFFFFFFF
  else if k = 7 then L.anyBit Reg.xwkEvent 0xFFFFFFFF
  else if k < 16 then false
  else if k < 32 then L.bit Reg.odoEvent (k - 16)
  else if k ≤ 40 then L.bit Reg.odoEvent2 (k - 32)
  else if 48 ≤ k ∧ k ≤ 58 then L.bit Reg.wptEvent (k - 48)
  else if 64 ≤ k ∧ k < 76 then (List.range 16).any fun i => L.anyBit (Reg.chnEvent (16 * (k - 64) + i)) 0xFFFFFFFC
  else if 76 ≤ k ∧ k < 88 then (List.range 16).any fun i => L.anyBit (Reg.lndEvent (16 * (k - 76) + i)) 0xFFFFFFFE
  else if 88 ≤ k ∧ k < 100 then (List.range 4).any fun i => L.anyBit (Reg.ignEvent (4 * (k - 88) + i)) 0xFFFFFFFE
  else if k = 100 then (List.range 4).any fun i => L.anyBit (Reg.bstEvent i) 0xFFFFFFFF
  else if k = 101 then L.anyBit Reg.cmbEvent 0xFFFFFFFF
  else if k = 102 then L.anyBit Reg.memEvent 0xFFFFFFFF
  else if k = 103 then L.anyBit Reg.cfgEvent 0xFFFFFFFF
  else if 104 ≤ k ∧ k < 128 then L.anyBit (Reg.acEvent (k - 104)) 0xFFFFFFFF
  else if 128 ≤ k ∧ k < 136 then L.anyBit (Reg.scEvent (k - 128)) 0xFFFFFFFF
  else if k = 136 then L.anyBit Reg.adcEvent 0xFFFFFFFF
  else if 140 ≤ k ∧ k < 144 then L.anyBit (Reg.hstEvent (k - 140)) 0xFFFFFFFF
  else if 144 ≤ k ∧ k < 160 then L.anyBit (Reg.dmaEvent (k - 144)) 0xFFFFFFFF
  else if 160 ≤ k ∧ k < 168 then L.bit Reg.bywPirq (k - 160)
  else if 168 ≤ k ∧ k < 176 then
    L.anyBit (Reg.bywEvent (k - 168)) 0x1FC || L.bywRxLvl (k - 168) || L.bywTxLvl (k - 168)
  else if k = 176 then L.anyBit Reg.twiEvent 0x3F
  else if k = 177 then L.anyBit Reg.twiEvent 0x1F00
  else if k = 178 then L.anyBit Reg.clkEvent 0xFFFFFFFF
  else if k = 179 then L.anyBit Reg.monEvent 0xFFFFFFFF
  else if 184 ≤ k ∧ k < 192 then L.bit Reg.icuSw (k - 184)
  else false

/-- A mode or mask register as it is in effect: a write takes effect in the next PCLK (R347, R352). -/
def Lane.icuEff (L : Lane) (a : Nat) : Word := (L.icu.old.lookup a).getD (L.reg a)

/-- Mode of source k: 0 level, 1 rising, 2 falling, 3 both edges (R347). -/
def Lane.srcMode (L : Lane) (k : Nat) : Nat := bits (L.icuEff (Reg.icuMode (k / 16))) (2 * (k % 16)) 2

/-- The pending bit of source k (R347): the signal itself in level mode. -/
def Lane.srcPending (L : Lane) (k : Nat) : Bool :=
  if srcReserved k then false else if L.srcMode k = 0 then L.srcSignal k else L.icu.pend.getLsbD k

/-- Change the interrupt controller of a lane. -/
def Lane.icuUpd (L : Lane) (f : Icu → Icu) : Lane := { L with icu := f L.icu }

/-- A mode or mask register is written; what it held stays in effect for the rest of the PCLK (R347, R352). -/
def Lane.icuLate (L : Lane) (a : Nat) (v : Word) : Lane :=
  (L.icuUpd fun c => { c with old := if (c.old.lookup a).isSome then c.old else (a, L.reg a) :: c.old }).setReg a v

/-- An arrival at source k (R348): the counter, and the pending bit of an edge-sensed source; both win over a clear in
the same cycle (R349). -/
def Lane.srcArrive (L : Lane) (k : Nat) : Lane :=
  let L := L.count (Reg.icuCnt (k / 8)) (4 * (k % 8)) 4
  let L := { L with fresh := (Reg.icuPend (k / 32), BitVec.ofNat 32 (2 ^ (k % 32))) :: L.fresh }
  if L.srcMode k = 0 then L else L.icuUpd fun c => { c with pend := putBit c.pend k true }

/-- Source k is sensed (R347, R348): its signal against the level sensed last. -/
def Lane.srcSense (L : Lane) (k : Nat) : Lane :=
  if srcReserved k then L
  else if 8 ≤ k ∧ k ≤ 13 then L.srcArrive k
  else
    let sig := L.srcSignal k
    let was := L.icu.last.getLsbD k
    let hit := match L.srcMode k with
      | 2 => was && !sig
      | 3 => was != sig
      | _ => sig && !was
    let L := L.icuUpd fun c => { c with last := putBit c.last k sig }
    if hit then L.srcArrive k else L

/-- The last level of each source follows its signal at the edges that its mode does not select, which are no arrivals
(R347, R348). -/
def Lane.srcTrack (L : Lane) : Lane :=
  if L.icu.last == 0 && (List.range 16).all (fun k => (L.regs.lookup (Reg.icuMode k)).isNone) then L
  else (List.range 192).foldl (fun L k =>
    let lvl := match L.srcMode k with
      | 2 => L.icu.last.getLsbD k || L.srcSignal k
      | 3 => L.icu.last.getLsbD k
      | _ => L.icu.last.getLsbD k && L.srcSignal k
    L.icuUpd fun c => { c with last := putBit c.last k lvl }) L

/-! ### Targets (R350 to R353) -/

/-- Record of target t. -/
def Lane.icuRec (L : Lane) (t : Nat) : Option Nat := vget L.icu.recs t none

/-- Source k is in service at some target (R350). -/
def Lane.inService (L : Lane) (k : Nat) : Bool := (List.range 5).any fun t => L.icuRec t == some k

/-- Source k is eligible at target t (R350). -/
def Lane.srcEligible (L : Lane) (t k : Nat) : Bool :=
  (L.icuEff (Reg.tgtEn t (k / 32))).getLsbD (k % 32) && !L.inService k && L.srcPending k

/-- Lowest-numbered eligible source at target t (R350, R351). -/
def Lane.srcNext (L : Lane) (t : Nat) : Option Nat :=
  if (List.range 6).all fun k => L.icuEff (Reg.tgtEn t k) == 0 then none else (List.range 192).find? fun k => L.srcEligible t k

/-- The line of target t: asserted while its record is empty and some source is eligible; standby holds it off (R350,
R356). -/
def Lane.tgtLine (L : Lane) (t : Nat) : Bool := L.on && (L.icuRec t).isNone && (L.srcNext t).isSome

/-- Target t takes source k into service (R349, R351). -/
def Lane.icuTake (L : Lane) (t k : Nat) : Lane :=
  let keep := (L.freshMask (Reg.icuPend (k / 32))).getLsbD (k % 32)
  L.icuUpd fun c => { c with recs := vmod c.recs t fun _ => some k, pend := if keep then c.pend else putBit c.pend k false }

/-- Targets of lower number claim first (R351). -/
def Lane.claimsFirst (L : Lane) (t : Nat) (others : List Nat) : Lane :=
  ((List.range t).filter others.contains).foldl (fun M u => match M.icuRec u, M.srcNext u with
    | none, some k => M.icuTake u k
    | _, _ => M) L

/-- A claim at target t (R351): the value that the read returns. The other targets that claim in the same PCLK are given: it is
evaluated without the sources that lower-numbered ones take. -/
def Lane.icuClaim (L : Lane) (t : Nat) (others : List Nat) : Lane × Word :=
  match L.icuRec t, (L.claimsFirst t others).srcNext t with
  | none, some k => (L.icuTake t k, BitVec.ofNat 32 (2 ^ 31 + k))
  | _, _ => (L, 0x3FF)

/-- A write to ICU_TGTt_COMPLETE (R353). -/
def Lane.icuComplete (L : Lane) (t : Nat) (v : Word) : Lane :=
  let x := bits v 0 10
  match L.icuRec t with
  | some k =>
    if x = k then L.icuUpd fun c => { c with recs := vmod c.recs t fun _ => none }
    else ((L.event Reg.icuEvent 0).count (Reg.tgtCtrl t) 0 8).raise .icuCompOrder t (x + k * 2 ^ 16)
  | none =>
    if x = 0x3FF then L
    else ((L.event Reg.icuEvent 0).count (Reg.tgtCtrl t) 0 8).raise .icuCompOrder t (x + 0x3FF * 2 ^ 16)

/-- A write to ICU_TGTt_CTRL (R353): the release key empties the record; ORD_CNT takes the written value. -/
def Lane.icuCtrl (L : Lane) (t : Nat) (v : Word) : Lane :=
  let L := L.applyCodes (Reg.tgtCtrl t) v
  if bits v 16 16 = 0x3E5A then L.icuUpd fun c => { c with recs := vmod c.recs t fun _ => none } else L

/-- A write to ICU_MODEk (R347): fields of sources 8 to 13 and of reserved sources stay. -/
def Lane.icuMode (L : Lane) (k : Nat) (v : Word) : Lane :=
  L.icuLate (Reg.icuMode k) ((List.range 16).foldl (fun (w : Word) j =>
    let src := 16 * k + j
    if srcReserved src || (8 ≤ src && src ≤ 13) then w else setBits w (2 * j) 2 (bits v (2 * j) 2)) (L.reg (Reg.icuMode k)))

/-- The next PCLK begins (R347, R352): modes and masks written in the last one take effect; the present signal of a source
whose mode changes becomes its last level. -/
def Lane.icuLand (L : Lane) : Lane :=
  let was := L.icu.old
  let L := L.icuUpd fun c => { c with old := [] }
  was.foldl (fun L r =>
    if r.1 < Reg.icuMode 0 || Reg.icuMode 16 ≤ r.1 then L
    else
      let k := (r.1 - Reg.icuMode 0) / 4
      (List.range 16).foldl (fun L j =>
        let new := bits (L.reg r.1) (2 * j) 2
        if bits r.2 (2 * j) 2 = new then L
        else L.icuUpd fun c => { c with
          last := putBit c.last (16 * k + j) (L.srcSignal (16 * k + j))
          pend := if new = 0 then putBit c.pend (16 * k + j) false else c.pend }) L) L

/-- A write to ICU_PENDk (R347, R349). -/
def Lane.icuPendClear (L : Lane) (k : Nat) (v : Word) : Lane :=
  let m := v &&& ~~~(L.freshMask (Reg.icuPend k))
  (List.range 32).foldl (fun L j =>
    if m.getLsbD j && L.srcMode (32 * k + j) != 0 then L.icuUpd fun c => { c with pend := putBit c.pend (32 * k + j) false } else L) L

/-- A write to ICU_CNTk (R346, R349): an arrival in the same cycle counts on from the written value. -/
def Lane.icuCntWrite (L : Lane) (k : Nat) (v : Word) : Lane :=
  (List.range 8).foldl (fun L j =>
    let src := 8 * k + j
    let hit := (L.freshMask (Reg.icuPend (src / 32))).getLsbD (src % 32)
    if srcReserved src then L
    else L.setFld (Reg.icuCnt k) (4 * j) 4 (min (bits v (4 * j) 4 + (if hit then 1 else 0)) 15)) L

/-- A write to ICU_TGTt_ENk (R346, R352): the enables of reserved sources stay 0. -/
def Lane.icuMask (L : Lane) (t k : Nat) (v : Word) : Lane :=
  let m : Word := (List.range 32).foldl (fun (m : Word) j => if srcReserved (32 * k + j) then m else m ||| BitVec.ofNat 32 (2 ^ j)) 0
  L.icuLate (Reg.tgtEn t k) (v &&& m)

/-- A write to ICU_SW (R357): SET bits rise, CLR bits lower; a set in the same write wins. -/
def Lane.icuSwWrite (L : Lane) (v : Word) : Lane :=
  L.setFld Reg.icuSw 0 8 ((L.reg Reg.icuSw &&& ~~~(v >>> 8) ||| v).toNat % 256)

/-- A read of ICU_PENDk (R347). -/
def Lane.icuPendWord (L : Lane) (k : Nat) : Word :=
  (List.range 32).foldl (fun (w : Word) j => if L.srcPending (32 * k + j) then w ||| BitVec.ofNat 32 (2 ^ j) else w) 0

/-- Targets of this lane whose host port lies in the other lane, by port of that lane (R354). -/
def remoteTarget (l : LaneId) (i : Nat) : Nat := match l with | .a => 3 + i | .b => 1 + i

/-- A read of ICU_TGTt_STAT (R357). -/
def Lane.icuStat (L : Lane) (l : LaneId) (t : Nat) : Word :=
  BitVec.ofNat 32 ((if (L.icuRec t).isSome then 2 ^ 31 else 0) + (if L.tgtLine t then 2 ^ 30 else 0)
    + (if t = remoteTarget l 0 ∨ t = remoteTarget l 1 then 2 ^ 29 else 0) + (L.icuRec t).getD 0x3FF * 2 ^ 16
    + (L.srcNext t).getD 0x3FF)

/-- The lines of this lane's remote targets as they stand are sent where they changed while the link is UP, and `again` sends
both whatever was sent before (R354). -/
def Lane.sendLines (L : Lane) (l : LaneId) (up again : Bool) : Lane :=
  if !up then L
  else
    [0, 1].foldl (fun L i =>
      let on := L.tgtLine (remoteTarget l i)
      if on = L.icu.sent.getLsbD i && !again then L
      else { L.icuUpd fun c => { c with sent := putBit c.sent i on } with
        xwk := { L.xwk with tx := L.xwk.tx ++ [XMsg.line (remoteTarget l i) on] } }) L

/-! ### What follows every command -/

/-- Each lane's own claim code is loaded (R289), frames leave, remote lines are sent, and the Junction's samples are brought up
to date. -/
def State.settle (s : State) : State :=
  let s := (s.claimUpdate .a).claimUpdate .b
  let up := s.link == .up
  let f := fun (s : State) (l : LaneId) => s.upd l fun L => if L.counts then L.sendLines l up false else L
  let s := f (f s .a) .b
  (((s.flushXwk .a).flushXwk .b).cmpUpdate).eligUpdate

/-- A command of a lane whose clocks run. -/
def laneCmd (l : LaneId) (s : State) (f : State → State) : Host.Outcome State Fault Refusal :=
  whenOn l s fun s => (f s).settle

/-- A command of a lane that does not need its clocks: a frame already on a link, or the always-on part. -/
def anyCmd (l : LaneId) (s : State) (f : State → State) : Host.Outcome State Fault Refusal :=
  onLane l s fun s => (f s).settle

/-- A command of a host port, at its lane (R6). -/
def portCmd (p : Fin 4) (s : State) (f : State → State) : Host.Outcome State Fault Refusal := anyCmd (portLane p) s f

/-- A command of a shared part. -/
def modCmd (s : State) (f : State → State) : Host.Outcome State Fault Refusal := .next (f s).settle

end Sys2Proof.Machine
end

