-- ==== Sys2Proof/Machine/HostCore.lean ====
section
/-! DEFINITION. Host ports: tags, response queues, moderation, streams, watchdogs and per-function reset
(15_host_ports.md). -/

namespace Sys2Proof.Machine

/-- Port p. -/
def State.port (s : State) (p : Nat) : Port := vget s.ports p {}
/-- Change port p. -/
def State.portUpd (s : State) (p : Nat) (f : Port → Port) : State := { s with ports := vmod s.ports p f }
/-- The lane of a port by its number (R6). -/
def laneOfPort (p : Nat) : LaneId := if p < 2 then .a else .b
/-- Change the lane of a port. -/
def State.portReg (s : State) (p : Nat) (f : Lane → Lane) : State := s.upd (laneOfPort p) f
/-- Tags in flight at a port (R327). -/
def Port.tags (x : Port) : List Nat := x.reqs.map (·.tag) ++ x.queue.map (·.tag)
/-- Moderation time in TCLK (R345). -/
def State.modTime (s : State) (p : Nat) : Nat := min ((s.lane (laneOfPort p)).fld (Reg.hstMod p) 16 10) 1000 * 400
/-- Entries that set RESP_SIG (R345). -/
def State.modCount (s : State) (p : Nat) : Nat := max 1 (min ((s.lane (laneOfPort p)).fld (Reg.hstMod p) 0 7) 64)

/-- A completion enters the response queue (R328, R336): while RESP_SIG is clear it starts an idle timer, and RESP_SIG is set at
COUNT, or at once with TIME = 0. In a lane that enters standby every timer counts as expired (R338). -/
def State.enqueue (s : State) (p : Nat) (r : Resp) : State :=
  let tm := if (s.lane (laneOfPort p)).run == .standby then 0 else s.modTime p
  let cnt := s.modCount p
  s.portUpd p fun x =>
    let x := { x with queue := x.queue ++ [{ r with num := x.queue.foldl (fun n e => max n (e.num + 1)) 0 }] }
    if x.respSig then x
    else
      let x := { x with modEnd := if tm = 0 then x.modEnd else some (x.modEnd.getD (s.now + tm)) }
      if tm = 0 ∨ cnt ≤ x.unsig + 1 then { x with respSig := true, unsig := 0 } else { x with unsig := x.unsig + 1 }

/-- The write of tag t is no longer waited for by the FENCEs of the port, which keep its single-lane mark (R324, R333). -/
def Req.uncover (t : Nat) (solo : Bool) (r : Req) : Req :=
  match r.kind with
  | .fence c m => { r with kind := .fence (c.filter (· != t)) (m || (solo && c.contains t)) }
  | _ => r

/-- A request completes (R324, R326, R328); `solo` is the single-lane mark, counted in HSTn_SOLO. -/
def State.complete (s : State) (p tag status : Nat) (data : List Byte) (info : BitVec 32) (solo : Bool) : State :=
  let s := s.portUpd p fun x => { x with reqs := (x.reqs.filter (·.tag != tag)).map (Req.uncover tag solo) }
  let s := if solo then s.portReg p fun L => L.count (Reg.hstSolo p) 0 16 else s
  s.enqueue p { tag := tag, status := status, data := data, info := if solo then info ||| 1 else info }

/-! ### Checks of a frame (R321 to R323, R341) -/

/-- The bytes of a request header (R322). -/
def frameHead (op : Byte) (f : Frame) : List Byte :=
  [op, f.tag] ++ leBytes f.len.toNat 2 ++ leBytes f.addr.toNat 4 ++ leBytes f.arg.toNat 4

/-- The byte count that the header implies holds, and the CRC passes (R321). -/
def frameGood (op : Byte) (f : Frame) : Bool :=
  f.payload.length == (if op = 1 then f.len.toNat else 0) && f.crc == crc32c (frameHead op f ++ f.payload)

/-- An opcode that uses a tag (R323). -/
def usesTag (op : Byte) : Bool := op == 1 || op == 2 || op == 3 || op == 6

/-- LEN of a WRITE, READ or STREAM (R323). -/
def lenOk (n : Nat) : Bool := decide (4 ≤ n) && decide (n ≤ 256) && n % 4 == 0

/-- The fields are as R322 and R323 state for the opcode. -/
def frameFields (op : Byte) (f : Frame) : Bool :=
  let n := f.len.toNat
  let a := f.addr.toNat
  let tag := decide (f.tag.toNat < 64)
  let block := tag && lenOk n && a % 4 == 0 && decide (a % 256 + n ≤ 256) && f.arg == 0
  match op.toNat with
  | 0 => f.tag == 0 && n == 0 && a == 0 && f.arg == 0
  | 1 => block
  | 2 => block
  | 3 => tag && n == 0 && a == 0 && f.arg == 0
  | 4 => f.tag == 0 && n == 0 && a == 0 && decide (f.arg.toNat < 2 ^ 16)
  | 5 => f.tag == 0 && n == 0 && a == 0 && f.arg == 0
  | 6 => tag && lenOk n && decide (a < 4) && decide (f.arg.toNat < 2)
  | _ => false

/-- The tag that a frame names (R322). -/
def frameTag (f : Frame) : Nat := f.tag.toNat % 64

/-- The port can take frames (R339). -/
def Port.awake (x : Port) (now : Nat) : Bool :=
  !x.doze && (match x.wakeTo with | some t => decide (t ≤ now) | none => true)

/-- The request is held back behind an action write (R331). -/
def Req.isHeld (r : Req) : Bool :=
  match r.kind with
  | .held _ _ => true
  | _ => false

/-- A request is in flight without a completion: it stands in the order of the requests started, before those held. -/
def State.putReq (s : State) (p : Nat) (r : Req) : State :=
  s.portUpd p fun x => { x with reqs := x.reqs.filter (!·.isHeld) ++ [r] ++ x.reqs.filter Req.isHeld }

/-! ### Responses (R324, R325, R329) -/

/-- The bytes of a response frame (R324). -/
def Resp.bytes (r : Resp) : List Byte :=
  let b := leBytes r.tag 1 ++ leBytes r.status 1 ++ leBytes r.data.length 2 ++ leBytes r.info.toNat 4 ++ r.data
  b ++ leBytes (crc32c b).toNat 4

/-- Responses in the order of the next block (R329): those delivered in their former order, then the others in the order of
completion. -/
def respOrder (q : List Resp) : List Resp :=
  q.filter (·.sent) ++ (q.filter (!·.sent)).foldr (insertAt (·.num)) []

/-- The first n responses are sent, and t of them clocked out to their last CRC byte: these are delivered, and one cut short
counts as undelivered (R329), as do those of the block behind it (log entry 103). -/
def respSent (q : List Resp) (n t : Nat) : List Resp :=
  respOrder (q.zipIdx.map fun e => if e.2 < t then { e.1 with sent := true } else if e.2 < n then { e.1 with sent := false } else e.1)

/-- A READ_RESP frame (R325, R329): releases, then delivers; `taken` response frames are clocked out to their last CRC
byte. -/
def State.readResp (s : State) (p ack lim taken : Nat) : State :=
  let x := s.port p
  let q := x.queue.drop (min ack x.lastDel)
  let n := if lim = 0 then q.length else min lim q.length
  let t := min taken n
  let rst := (s.lane (laneOfPort p)).bit (Reg.hstEvent p) 8
  let left := ((q.drop n).filter (!·.sent)).length
  let head := leBytes n 1 ++ leBytes left 1 ++ leBytes (if rst then 1 else 0) 1 ++ leBytes 0 1
  let block := head ++ leBytes (crc32c head).toNat 4 ++ ((q.take n).map Resp.bytes).flatten
  s.portUpd p fun x => { x with
    queue := respSent q n t, lastDel := t, out := block
    respSig := x.respSig && !q.isEmpty, modEnd := if q.isEmpty then none else x.modEnd, unsig := min x.unsig q.length }

/-- The moderation timer of port p is treated as expired (R336, R338). -/
def State.modExpire (s : State) (p : Nat) : State :=
  s.portUpd p fun x => if x.modEnd.isSome then { x with respSig := true, modEnd := none, unsig := 0 } else x

/-- Hn_IRQ_N is low (R336, R354). -/
def State.irqLow (s : State) (p : Nat) : Bool :=
  let l := laneOfPort p
  (s.port p).respSig || (s.lane l).tgtLine (p + 1) || (s.link == .up && (s.lane l).icu.remote.getLsbD (p % 2))

/-! ### Watchdog (R340) -/

/-- The watchdog of port p starts with the TIME its register holds (R340). -/
def State.wdStart (s : State) (p : Nat) : State :=
  let t := max 1 (min ((s.lane (laneOfPort p)).fld (Reg.hstWdog p) 0 14) 10000) * 400000
  s.portUpd p fun x => { x with wdEnd := some (s.now + t), wdLeft := none, expired := false }

/-- A valid frame restarts the watchdog (R340). -/
def State.wdFrame (s : State) (p : Nat) : State :=
  if (s.lane (laneOfPort p)).bit (Reg.hstWdog p) 31 then s.wdStart p else s

/-- The watchdog is suspended, or goes on with the time it had left (R339, R404). -/
def Port.wdHold (x : Port) (now : Nat) (hold : Bool) : Port :=
  if hold then { x with wdLeft := (x.wdEnd.map (· - now)).or x.wdLeft, wdEnd := none }
  else { x with wdEnd := (x.wdLeft.map (now + ·)).or x.wdEnd, wdLeft := none }

/-- The watchdog of port p runs in DOZE only with DOZE_RUN (R339). -/
def State.wdDoze (s : State) (p : Nat) : State :=
  let hold := (s.port p).doze && !(s.lane (laneOfPort p)).bit (Reg.hstWdog p) 30
  s.portUpd p fun x => x.wdHold s.now hold

/-- A write to HSTn_WDOG (R339, R340); EN = 0 stops the watchdog, and an expiry shown stays until it is restarted. -/
def State.writeWdog (s : State) (p : Nat) (v : Word) : State :=
  let was := (s.lane (laneOfPort p)).bit (Reg.hstWdog p) 31
  let s := s.portReg p fun L => L.applyCodes (Reg.hstWdog p) v
  if v.getLsbD 31 then (if was then s else s.wdStart p).wdDoze p
  else s.portUpd p fun x => { x with wdEnd := none, wdLeft := none }

/-- The policy of a port's host silence acts on the routes that the port owns (R111). -/
def Lane.hostSilence (L : Lane) (p : Nat) : Lane :=
  match L.fld Reg.wptHostsil (2 * p) 2 with
  | 1 => L
  | 2 => L.eachRoute fun L r => if L.owner r = p then L.schedUpd fun s => { s with idleReq := putBit s.idleReq r true } else L
  | _ => L.eachRoute fun L r => if L.owner r = p then L.schedUpd fun s => { s with detReq := putBit s.detReq r true } else L

/-- The host watchdog of port p expires (R111, R340). -/
def State.wdExpire (s : State) (p : Nat) : State :=
  let s := s.portUpd p fun x => { x with wdEnd := none, wdLeft := none, expired := true }
  s.portReg p fun L =>
    let L := ((L.event (Reg.hstEvent p) 4).raise .hstHostWdog p).hostSilence p
    { L with xwk := { L.xwk with tx := L.xwk.tx ++ [XMsg.silence p] } }

/-! ### Doze (R339) -/

/-- A DOZE frame takes effect (R339). -/
def State.dozeIn (s : State) (p : Nat) : State :=
  let s := (s.portUpd p fun x => { x with doze := true }).wdDoze p
  s.portReg p fun L => L.event (Reg.hstEvent p) 5

/-- Hn_WAKE_N or Hn_CS_N falls (R339): the port leaves DOZE and is ready 5 µs later. -/
def State.dozeOut (s : State) (p : Nat) : State :=
  if !(s.port p).doze then s
  else
    let s := s.portUpd p fun x => { x with doze := false, wakeTo := some (s.now + 2000) }
    let s := if (s.lane (laneOfPort p)).run == .standby then s else s.wdDoze p
    s.portReg p fun L => L.event (Reg.hstEvent p) 6

/-! ### Streams (R334) -/

/-- Bytes in stream queue q of port p. -/
def State.streamFill (s : State) (p q : Nat) : Nat := 4 * (vget (s.port p).streams q []).length

/-- INFO of a STREAM on queue q as the queue stands (R324). -/
def State.streamInfo (s : State) (p q : Nat) : BitVec 32 := BitVec.ofNat 32 (q * 2 ^ 16 + s.streamFill p q)

/-- INFO of the completion of a request that is aborted (R324, R342). -/
def State.abortInfo (s : State) (p : Nat) (r : Req) : BitVec 32 :=
  match r.kind with
  | .stream q _ _ => s.streamInfo p q
  | .held 6 f => s.streamInfo p (f.addr.toNat % 4)
  | _ => 0

/-- A STREAM request takes n bytes and completes (R324, R334). -/
def State.streamTake (s : State) (p tag q n : Nat) : State :=
  let ws := (vget (s.port p).streams q []).take (n / 4)
  let s := s.portUpd p fun x => { x with streams := vmod x.streams q fun l => l.drop (n / 4) }
  let info := s.streamInfo p q
  if ws.any (·.2) then s.complete p tag 4 [] info false
  else s.complete p tag 0 ((ws.map fun w => leBytes w.1.toNat 4).flatten) info false

/-- The first STREAM request that waits on queue q (R334). -/
def Port.streamHead (x : Port) (q : Nat) : Option (Nat × Nat × Bool) :=
  x.reqs.findSome? fun r => match r.kind with
    | .stream q' n w => if q' = q then some (r.tag, n, w) else none
    | _ => none

/-- The waiting STREAM requests of queue q complete as far as its fill allows, in arrival order (R334). -/
def State.streamServe (s : State) (p q : Nat) : Nat → State
  | 0 => s
  | fuel + 1 =>
    match (s.port p).streamHead q with
    | none => s
    | some (tag, n, w) =>
      if w then (if n ≤ s.streamFill p q then (s.streamTake p tag q n).streamServe p q fuel else s)
      else (s.streamTake p tag q (min n (s.streamFill p q))).streamServe p q fuel

/-! ### Resets (R335, R342, R343) -/

/-- Every request of port p without a completion completes with ABORTED (R342). -/
def State.abortReqs (s : State) (p : Nat) : State :=
  let rs := (s.port p).reqs
  if rs.isEmpty then s
  else
    let s := rs.foldl (fun s r => s.complete p r.tag 6 [] (s.abortInfo p r) false) s
    s.portReg p fun L =>
      let L := L.event (Reg.hstEvent p) 3
      { L with xwk := { L.xwk with unacked := L.xwk.unacked.filter fun w => w.viaRemote || w.port != p } }

/-- Per-function reset of port p (R335, R342). -/
def State.portReset (s : State) (p : Nat) : State :=
  let s := s.portReg p fun L => L.resetRange (Reg.hstStat p) (Reg.hstStat p + 0x100)
  let s := (s.portUpd p fun x => { x with streams := Vector.replicate 4 [] }).abortReqs p
  let s := s.portUpd p fun x => { x with
    doze := false, wakeTo := none, wdEnd := none, wdLeft := none, expired := false, modEnd := none, quad := false }
  s.portReg p fun L => L.event (Reg.hstEvent p) 8

/-- Bytes n at a reach into [lo, hi). -/
def meetsRange (lo hi a n : Nat) : Bool := decide (lo < a + n) && decide (a < hi)

/-- A request of a port names an address in [lo, hi) (R342): of the port's own lane, or with `far` of the other one. -/
def Req.names (lo hi : Nat) (far : Bool) (r : Req) : Bool :=
  match r.kind with
  | .mirrored a n => !far && meetsRange lo hi a n
  | .held op f => (op == 1 || op == 2) && f.addr.getLsbD 31 == far && meetsRange lo hi (f.addr.toNat % 2 ^ 31) f.len.toNat
  | _ => false

/-- Host requests in flight whose address lies in [lo, hi) of lane l complete with ABORTED (R342): writes that its own ports
have forwarded, requests that the ports of either lane hold back, remote accesses that have come but are not served, and remote
writes that are served but still forwarded. -/
def State.abortAddr (s : State) (l : LaneId) (lo hi : Nat) : State :=
  let s := (List.range 4).foldl (fun s p =>
    ((s.port p).reqs.filter (Req.names lo hi (laneOfPort p != l))).foldl (fun s r =>
      let s := (s.complete p r.tag 6 [] 0 false).portReg p fun L => L.event (Reg.hstEvent p) 3
      if laneOfPort p = l then
        s.upd l fun L => { L with xwk := { L.xwk with unacked := L.xwk.unacked.filter fun w =>
          w.viaRemote || w.port != p || w.tag != r.tag } }
      else s) s) s
  let hit := fun (m : XMsg) => match m with
    | .remote r => meetsRange lo hi r.addr r.len
    | _ => false
  let sent := fun (w : FwdWrite) => w.viaRemote && meetsRange lo hi w.addr w.len
  s.upd l fun L =>
    let out := (L.xwk.rx.filter hit).filterMap fun m => match m with
      | .remote r => some (XMsg.response r.port r.tag 6 0 [])
      | _ => none
    let out := out ++ (L.xwk.unacked.filter sent).map fun w => XMsg.response w.port w.tag 6 0 []
    if out.isEmpty then L
    else { L with xwk := { L.xwk with
      rx := L.xwk.rx.filter (!hit ·), unacked := L.xwk.unacked.filter (!sent ·), tx := L.xwk.tx ++ out } }

/-- A lane restart or warm reset loses the requests and responses of its ports (R343). -/
def State.portLost (s : State) (p : Nat) : State :=
  s.portUpd p fun _ => {}

end Sys2Proof.Machine
end

