-- ==== Sys2Proof/Machine/DmaCore.lean ====
section
/-! DEFINITION. The DMA engine of a lane (17_dma.md): a channel's turn is one command (log entry 24). -/

namespace Sys2Proof.Machine

/-- DMA channel c. -/
def Lane.dch (L : Lane) (c : Nat) : DmaChan := vget L.dma c {}
/-- Change DMA channel c. -/
def Lane.dchUpd (L : Lane) (c : Nat) (f : DmaChan → DmaChan) : Lane := { L with dma := vmod L.dma c f }
/-- Descriptor word i. -/
def DmaChan.word (d : DmaChan) (i : Nat) : Word := vget d.desc i 0
/-- REQ (R360). -/
def DmaChan.req (d : DmaChan) : Nat := bits (d.word 0) 24 6
/-- SRC_T (R360). -/
def DmaChan.srcT (d : DmaChan) : Nat := bits (d.word 0) 20 4
/-- DST_T (R360). -/
def DmaChan.dstT (d : DmaChan) : Nat := bits (d.word 0) 16 4
/-- COUNT (R360). -/
def DmaChan.total (d : DmaChan) : Nat := bits (d.word 1) 0 21

/-- A channel stops (R365): cause, address concerned, STOPPED and the cause's own flag. -/
def Lane.dmaStop (L : Lane) (c cause addr : Nat) (flag : Option Nat) : Lane :=
  let L := (L.dchUpd c fun d => { d with state := .idle, cause := cause, buf := [] }).setReg (Reg.dmaErraddr c) (BitVec.ofNat 32 addr)
  let L := L.event (Reg.dmaEvent c) 1
  match flag with
  | some i => L.event (Reg.dmaEvent c) i
  | none => L

/-- A write to DMAc_START (R365, R368); until a descriptor is fetched no byte is left to write (DEDUCED, log entry 103). -/
def Lane.writeDmaStart (L : Lane) (c : Nat) (byCore : Bool) (v : Word) : Lane :=
  let d := L.dch c
  if d.state == .idle then
    if v.getLsbD 0 then
      (L.dchUpd c fun d => { d with
        state := .fetch, cur := (L.reg (Reg.dmaDesc c)).toNat % 2 ^ 21 / 32 * 32, byCore := byCore, poison := false, moved := d.total
        chk := Config.chainSeed (16 * L.time + c) }).setReg (Reg.dmaHops c) 0
    else L
  else
    let L := if v.getLsbD 0 then L.event (Reg.dmaEvent c) 6 else L
    if v.getLsbD 1 then L.dmaStop c 2 d.cur none else L

/-- A write to DMAc_DESC (R370). -/
def Lane.writeDmaDesc (L : Lane) (c : Nat) (v : Word) : Lane :=
  if (L.dch c).state == .idle then L.applyCodes (Reg.dmaDesc c) v else L.event (Reg.dmaEvent c) 6

/-- A valid REQ (R360). -/
def reqValid (q : Nat) : Bool := q ≤ 0x18 || (0x20 ≤ q && q ≤ 0x27) || q == 0x30

/-- The descriptor meets R360 and R361. -/
def descValid (l : LaneId) (byCore : Bool) (w : Nat → Word) : Bool :=
  let w0 := w 0
  let n := bits (w 1) 0 21
  let st := bits w0 20 4
  let dt := bits w0 16 4
  let src := (w 2).toNat
  let dst := (w 3).toNat
  let pg := fun (a : Nat) => decide (a < 2 ^ 15)
  let sram := fun (a : Nat) => a % 4 == 0 && decide (a + n ≤ 0x00200000)
  w0 &&& 0xC000FF03 == 0 && w0.getLsbD 7 && reqValid (bits w0 24 6)
    && bits (w 1) 21 11 == 0 && 4 ≤ n && n ≤ 1048576 && n % 4 == 0 && (st != 1 || n % 8 == 0)
    && (match st with | 0 => sram src | 1 => decide (src < 8) | 2 => pg src && byCore | _ => false)
    && (match dt with
        | 0 => sram dst
        | 2 => pg dst && byCore
        | 3 => decide (dst < 16) && laneOfPort (dst / 4) == l
        | _ => false)
    && (w0.getLsbD 6 || ((w 4).toNat % 32 == 0 && decide ((w 4).toNat + 32 ≤ 0x00200000)))

/-- A channel begins to move data: the checksum is set up (R364, R368). -/
def Lane.dmaBegin (L : Lane) (c : Nat) : Lane :=
  L.dchUpd c fun d => { d with
    state := .move, moved := 0, poison := false, buf := []
    chk := if (d.word 0).getLsbD 2 then d.chk else if (d.word 0).getLsbD 3 then 0 else 0xFFFFFFFF }

/-- A descriptor fetch completes (R361, R365, R368). -/
def Lane.dmaFetch (L : Lane) (l : LaneId) (c : Nat) : Lane :=
  let d := L.dch c
  if d.state != .fetch then L
  else
    let lim := max 1 (L.fld (Reg.dmaCtrl c) 0 16)
    let hops := (L.reg (Reg.dmaHops c)).toNat
    if lim < hops + 1 then (L.dmaStop c 3 d.cur (some 2)).raiseBy .dmaDmaChain c d.cur (0x10 + c) 1
    else
      let L := L.setReg (Reg.dmaHops c) (BitVec.ofNat 32 (hops + 1))
      let (L, bs, p) := L.readBytes d.cur 32 (0x10 + c) 1
      let w := fun (i : Nat) => (BitVec.ofNat 32 (leNat ((bs.drop (4 * i)).take 4)) : Word)
      if p then (L.dmaStop c 6 d.cur (some 5)).raiseBy .dmaDmaPoison c d.cur (0x10 + c) 1
      else if !descValid l d.byCore w then L.dmaStop c 6 d.cur (some 5)
      else
        let L := L.dchUpd c fun d => { d with answerAt := some L.time, desc := Vector.ofFn fun i => w i.val, moved := 0, poison := false, state := .waitReq }
        if bits (w 0) 24 6 = 0 then L.dmaBegin c else L

/-- Event source that a REQ waits on (R360, R363). -/
def reqSource (q : Nat) : Option Nat := if 1 ≤ q ∧ q ≤ 0x18 then some (q - 1) else if q = 0x30 then some 24 else none

/-- A waiting descriptor finds its request (R363): the lowest-numbered waiting channel takes it. -/
def Lane.dmaTakeReq (L : Lane) (c : Nat) : Lane :=
  let d := L.dch c
  if d.state != .waitReq then L
  else
    match reqSource d.req with
    | some k =>
      let a := Reg.dmaReqcnt (k / 8)
      let n := L.fld a (4 * (k % 8)) 4
      let first := (List.range c).all fun e => !((L.dch e).state == .waitReq && (L.dch e).req == d.req)
      if n = 0 || !first then L
      else ((L.setFld a (4 * (k % 8)) 4 (n - 1)).setReg (Reg.dmaHops c) 0).dmaBegin c
    | none => if L.scThr (d.req - 0x20) then (L.setReg (Reg.dmaHops c) 0).dmaBegin c else L

/-! ### Moving data (R358, R359, R362, R364, R366) -/



/-- Bytes of the current descriptor that the read engine has fetched (R358). -/
def DmaChan.fetched (d : DmaChan) : Nat := d.moved + 4 * d.buf.length

/-- Entries of a scan source that have been read, and at which QRD does not stand yet (R362). -/
def DmaChan.entriesHeld (d : DmaChan) : Nat := d.fetched / 8 - d.moved / 8

/-- Bytes that the source of a channel can give now (R362). -/
def Lane.dmaAvail (L : Lane) (d : DmaChan) : Nat :=
  if d.srcT = 1 then 8 * (L.scFill (d.word 2).toNat - d.entriesHeld) else d.total - d.fetched

/-- Bytes that the engine's buffer holds (R358). -/
def Lane.dmaHeld (L : Lane) : Nat := ((List.range 16).map fun c => 4 * (L.dch c).buf.length).foldl (· + ·) 0

/-- Bytes that the destination of a channel can take now (R362). -/
def State.dmaRoom (s : State) (d : DmaChan) : Nat :=
  if d.dstT = 3 then 4096 - s.streamFill ((d.word 3).toNat / 4) ((d.word 3).toNat % 4) else d.total - d.moved

/-- Bytes that the read engine fetches in the channel's turn (R358): at most 64, what the source has, what is left of the
channel's 2 KiB and of the buffer's 16 KiB; whole entries of a scan source. -/
def Lane.dmaReads (L : Lane) (c : Nat) : Nat :=
  let d := L.dch c
  let n := min (min 64 (d.total - d.fetched)) (min (L.dmaAvail d) (min (2048 - 4 * d.buf.length) (16384 - L.dmaHeld)))
  if d.srcT = 1 then n / 8 * 8 else n / 4 * 4

/-- Bytes that the write engine drains in the channel's turn (R358): at most 64, what the buffer holds of the channel, what
the destination takes. -/
def State.dmaWrites (s : State) (l : LaneId) (c : Nat) : Nat :=
  let d := (s.lane l).dch c
  min 64 (min (4 * d.buf.length) (s.dmaRoom d)) / 4 * 4

/-- Channel c has data or room (R358): its turn reads or writes something. -/
def State.dmaReady (s : State) (l : LaneId) (c : Nat) : Bool :=
  ((s.lane l).dch c).state == .move && (decide (0 < (s.lane l).dmaReads c) || decide (0 < s.dmaWrites l c))

/-- Little-endian words of some bytes. -/
def wordsLe : List Byte → List Word
  | a :: b :: c :: d :: r => BitVec.ofNat 32 (leNat [a, b, c, d]) :: wordsLe r
  | _ => []

/-- Read a range of the main SRAM, 128-bit word by word: each of its 32-bit words with its address and its poison mark. -/
def Lane.dmaReadSram (L : Lane) (a n mid : Nat) : Lane × List DmaWord :=
  (wordsOf a n).foldl (fun (r : Lane × List DmaWord) A =>
    let k := chunkOf A a n
    let (L, bs, p) := r.1.readBytes (A + k.1) k.2 mid 1
    (L, r.2 ++ (wordsLe bs).zipIdx.map fun w => ⟨A + k.1 + 4 * w.2, w.1, p⟩)) (L, [])

/-- Address of the entry that follows QRD by i in the queue of modulator m (R207). -/
def Lane.scEntryAt (L : Lane) (m i : Nat) : Nat :=
  (L.reg (Reg.scQbase m)).toNat % 2 ^ 21 / 8 * 8 + 8 * (((L.reg (Reg.scQrd m)).toNat + i) % L.scQlen m)

/-- The first entry of the next n bytes that lies beyond the main SRAM, where R15 maps nothing (R365). -/
def Lane.dmaOff (L : Lane) (d : DmaChan) (n : Nat) : Option Nat :=
  if d.srcT = 1 then
    ((List.range (n / 8)).map fun i => L.scEntryAt (d.word 2).toNat (d.entriesHeld + i)).find? fun a => decide (0x00200000 < a + 8)
  else none

/-- Fetch n bytes of a channel's source (R362). -/
def Lane.dmaRead (L : Lane) (c n : Nat) : Lane × List DmaWord :=
  let d := L.dch c
  match d.srcT with
  | 0 => L.dmaReadSram ((d.word 2).toNat + d.fetched) n (0x10 + c)
  | 1 =>
    (List.range (n / 8)).foldl (fun (r : Lane × List DmaWord) i =>
      let (L, ps) := r.1.dmaReadSram (r.1.scEntryAt (d.word 2).toNat (d.entriesHeld + i)) 8 (0x10 + c)
      (L, r.2 ++ ps)) (L, [])
  | _ =>
    let bs := (List.range n).map fun i => Cells.get L.store.page (((d.word 2).toNat + d.fetched + i) % 2 ^ 15)
    (L, (wordsLe bs).map fun w => ⟨0, w, false⟩)

/-- A sum of 16-bit words with end-around carry (R364). -/
def endAround (x : Nat) : Nat := if x = 0 then 0 else (x - 1) % 65535 + 1

/-- One step of the running checksum (R364). -/
def chkStep (sum : Bool) (v : BitVec 32) : List Byte → BitVec 32
  | [] => v
  | [a] => if sum then v else crcByte v a
  | a :: b :: r =>
    if sum then
      chkStep sum (BitVec.ofNat 32 (endAround (v.toNat + a.toNat + 256 * b.toNat))) r
    else chkStep sum (crcByte (crcByte v a) b) r

/-- The stored form of the checksum (R364). -/
def chkFinal (sum : Bool) (v : BitVec 32) : BitVec 32 := if sum then v else v ^^^ 0xFFFFFFFF

/-- The bytes of some fetched words. -/
def dmaBytes (ps : List DmaWord) : List Byte := (ps.map fun p => leBytes p.word.toNat 4).flatten

/-- Write words at an SRAM destination, 128-bit word by word: one that takes a poisoned word is stored as poison (R280,
R366). -/
def Lane.dmaPutSram (L : Lane) (a mid : Nat) (ps : List DmaWord) : Lane :=
  (wordsOf a (4 * ps.length)).foldl (fun L A =>
    let k := chunkOf A a (4 * ps.length)
    let part := (ps.drop ((A + k.1 - a) / 4)).take (k.2 / 4)
    if part.any (·.poison) then L.poisonBytes (A + k.1) (dmaBytes part) mid else L.writeBytes (A + k.1) (dmaBytes part) mid) L

/-- Write words at the channel's destination. -/
def State.dmaWrite (s : State) (l : LaneId) (c : Nat) (ps : List DmaWord) : State :=
  let d := (s.lane l).dch c
  let dst := (d.word 3).toNat
  match d.dstT with
  | 0 => s.upd l fun L => L.dmaPutSram (dst + d.moved) (0x10 + c) ps
  | 3 =>
    s.portUpd (dst / 4) fun x => { x with streams := vmod x.streams (dst % 4) fun q => q ++ ps.map fun p => (p.word, p.poison) }
  | _ =>
    s.upd l fun L => { L with store := { L.store with
      page := ((dmaBytes ps).foldl
        (fun (r : Cells × Nat) b => (Cells.set r.1 (r.2 % 2 ^ 15) b, r.2 + 1)) (L.store.page, dst + d.moved)).1 } }

/-- What the next turn of channel c writes at an SRAM destination, with nothing else of the turn done (R279). -/
def Lane.dmaAhead (L : Lane) (c : Nat) : Lane :=
  let d := L.dch c
  if d.state != .move || d.dstT != 0 then L
  else L.dmaPutSram ((d.word 3).toNat + d.moved) (0x10 + c) ((d.buf ++ (L.dmaRead c (L.dmaReads c)).2).take 16)

/-- The read engine's part of a turn (R358, R362, R365, R366): up to 64 bytes go to the buffer, or the channel stops where
the source is not mapped, or at poison for a NAND destination. -/
def Lane.dmaReadTurn (L : Lane) (c : Nat) : Lane :=
  let d := L.dch c
  let n := L.dmaReads c
  if n = 0 then L
  else match L.dmaOff d n with
  | some a => (L.dmaStop c 5 a none).raiseBy .busDecode (0x10 + c) a (0x10 + c) 1
  | none =>
    let (L, ps) := L.dmaRead c n
    let bad := ps.find? fun p => p.poison
    let L := L.dchUpd c fun d => { d with
      answerAt := some L.time, chk := chkStep ((d.word 0).getLsbD 3) d.chk (dmaBytes ps), poison := d.poison || bad.isSome
      buf := d.buf ++ ps }
    match bad with
    | some p =>
      let L := L.event (Reg.dmaEvent c) 4
      let L := if d.poison then L else L.raiseBy .dmaDmaPoison c p.addr (0x10 + c) 1
      if d.dstT = 2 then L.dmaStop c 6 p.addr (some 5) else L
    | none => L

/-- The write engine's part of a turn (R358, R359, R362): up to 64 bytes of the buffer go to the destination, and QRD follows
them; with nothing to write the channel waits for flow. -/
def State.dmaWriteTurn (s : State) (l : LaneId) (c : Nat) : State :=
  let d := (s.lane l).dch c
  let n := s.dmaWrites l c
  if d.state != .move then s
  else if n = 0 then s.upd l fun L => L.dchUpd c fun d => { d with state := .waitFlow }
  else
    (s.dmaWrite l c (d.buf.take (n / 4))).upd l fun L =>
      let L := if d.srcT = 1 then L.scAdvance (d.word 2).toNat ((d.moved + n) / 8 - d.moved / 8) else L
      L.dchUpd c fun d => { d with moved := d.moved + n, buf := d.buf.drop (n / 4), answerAt := some L.time }

/-- A channel's turn (R358): both engines serve it, and the next round begins after it. -/
def State.dmaBurst (s : State) (l : LaneId) (c : Nat) : State :=
  let d := (s.lane l).dch c
  if d.state != .move || d.total ≤ d.moved then s
  else
    let s := if d.srcT == 1 then s.qrdAhead l (d.word 2).toNat else s
    ((s.upd l fun L => L.dmaReadTurn c).dmaWriteTurn l c).upd l fun L => { L with dmaTurn := (c + 1) % 16 }

/-- The channels that the round-robin order puts before channel c, from the one whose turn is next (R358). -/
def Lane.dmaBefore (L : Lane) (c : Nat) : List Nat :=
  (List.range ((c + 16 - L.dmaTurn) % 16)).map fun i => (L.dmaTurn + i) % 16

/-- An entry or room becomes available (R362, R368). -/
def State.dmaResume (s : State) (l : LaneId) (c : Nat) : State :=
  let d := (s.lane l).dch c
  let any := decide (0 < d.buf.length) || decide (0 < (s.lane l).dmaReads c)
  if d.state == .waitFlow && any && 4 ≤ s.dmaRoom d then
    s.upd l fun L => L.dchUpd c fun d => { d with state := .move }
  else s

/-- COUNT is moved (R359, R360, R364, R368): result, status and sequence words, EOC, and the next fetch or the end. The
RESULT word is written with CHK_EN = 1 (DEDUCED, log entry 25). -/
def Lane.dmaDone (L : Lane) (c : Nat) : Lane :=
  let d := L.dch c
  if d.state != .move || d.moved < d.total then L
  else
    let w0 := d.word 0
    let seq := L.reg (Reg.dmaDonecnt c) + 1
    let L := (L.setReg (Reg.dmaDonecnt c) seq).dchUpd c fun d => { d with answerAt := some L.time }
    let L := if w0.getLsbD 4 then L.sramWrite (d.cur + 20) (wordBytes [chkFinal (w0.getLsbD 3) d.chk]) (0x10 + c) else L
    let st := BitVec.ofNat 32 (2 ^ 31 + (if d.poison then 2 ^ 30 else 0) + d.moved)
    let L := L.sramWrite (d.cur + 24) (wordBytes [st, seq]) (0x10 + c)
    let L := if w0.getLsbD 5 then L.event (Reg.dmaEvent c) 0 else L
    if w0.getLsbD 6 then L.dmaStop c 1 d.cur none
    else L.dchUpd c fun d => { d with state := .fetch, cur := (d.word 4).toNat % 2 ^ 21 / 32 * 32 }

/-- An access of channel c at an address is a write (R260): it lies in the destination or in the words that a completion
writes, and not in the source. -/
def DmaChan.writesAt (d : DmaChan) (addr : Nat) : Bool :=
  let within := fun (t : Nat) (w : Word) => match t with
    | 1 => false
    | 3 => addr == w.toNat
    | _ => decide (w.toNat ≤ addr) && decide (addr < w.toNat + d.total)
  let result := decide (d.cur + 20 ≤ addr) && decide (addr < d.cur + 32)
  d.state == .move && !within d.srcT (d.word 2) && (within d.dstT (d.word 3) || result)

/-- An access has no response within 256 PCLK (R365), unless one arrived in this cycle (R20). -/
def Lane.dmaTimeout (L : Lane) (c addr : Nat) : Lane :=
  let d := L.dch c
  if (d.state != .fetch && d.state != .move) || d.answerAt == some L.time then L
  else (L.dmaStop c 4 addr (some 3)).raiseBy .dmaDmaTimeout c addr (0x10 + c) (if d.writesAt addr then 2 else 1)

/-- Per-function reset of channel c (R365, R367, R368): its registers go to their reset values, and the stop of a channel that
was running is recorded until the release (DEDUCED, log entry 26). -/
def Lane.dmaReset (L : Lane) (c : Nat) : Lane :=
  let d := L.dch c
  let L := (L.resetRange (Reg.dmaCtrl c) (Reg.dmaCtrl c + 0x40)).dchUpd c fun _ => {}
  if d.state == .idle then L else L.dmaStop c 7 d.cur none

end Sys2Proof.Machine
end

