-- ==== Sys2Proof/Machine/BywCore.lean ====
section
/-! DEFINITION. The byway engines of a lane (18_byways.md). -/

namespace Sys2Proof.Machine

/-- Engine e. -/
def Lane.eng (L : Lane) (e : Nat) : Byw := vget L.byw e {}
/-- Change engine e. -/
def Lane.engUpd (L : Lane) (e : Nat) (f : Byw → Byw) : Lane := { L with byw := vmod L.byw e f }
/-- Register Gs of an engine. -/
def Byw.gr (b : Byw) (s : Nat) : Word := vget b.g s 0
/-- Write register Gs. -/
def Byw.setG (b : Byw) (s : Nat) (v : Word) : Byw := { b with g := vmod b.g s fun _ => v }

/-! ### Pins (R371, R377, R379) -/

/-- Pin of input position i (R371). -/
def Lane.rdPin (L : Lane) (e i : Nat) : Nat := (L.fld (Reg.bywPincfg e) 0 4 + i) % 16
/-- Level at input position i. -/
def Lane.inPin (L : Lane) (e i : Nat) : Bool := L.pins.getLsbD (L.rdPin e i)
/-- The sixteen input positions as a word, upper bits 0. -/
def Lane.inWord (L : Lane) (e : Nat) : Word :=
  BitVec.ofNat 32 ((List.range 16).foldl (fun n i => if L.inPin e i then n + 2 ^ i else n) 0)
/-- Who wrote a pin latch in the present PCLK: 0 for no engine, one more than the engine's number otherwise (R379). -/
def Lane.pinOwner (L : Lane) (dir : Bool) (p : Nat) : Nat := (L.pinOwn.lookup (if dir then 16 + p else p)).getD 0
/-- Engine e writes one latch of pin p, unless a higher-numbered engine wrote it in the same PCLK (R379). -/
def Lane.pinPut (L : Lane) (e : Nat) (dir : Bool) (p : Nat) (v : Bool) : Lane :=
  if e + 1 < L.pinOwner dir p then L
  else { L.setBit (if dir then Reg.bywPindir else Reg.bywPinout) p v with pinOwn := (if dir then 16 + p else p, e + 1) :: L.pinOwn }
/-- Engine e writes the low n bits of a value to window positions starting at a pin. -/
def Lane.pinWindow (L : Lane) (e : Nat) (dir : Bool) (first n : Nat) (v : Word) : Lane :=
  (List.range n).foldl (fun L i => L.pinPut e dir ((first + i) % 16) (v.getLsbD i)) L
/-- A host write to BYW_PINOUT or BYW_PINDIR: the engines' writes of the same PCLK come after it (R379). -/
def Lane.writePins (L : Lane) (a : Nat) (v : Word) : Lane :=
  (List.range 16).foldl (fun L p => if L.pinOwner (a == Reg.bywPindir) p = 0 then L.setBit a p (v.getLsbD p) else L) L
/-- Write to the output positions of an engine (R371, R376). -/
def Lane.outPins (L : Lane) (e : Nat) (dir : Bool) (n : Nat) (v : Word) : Lane :=
  L.pinWindow e dir (L.fld (Reg.bywPincfg e) 8 4)
    (min n (min (L.fld (Reg.bywPincfg e) 12 5) 16)) v
/-- The side-set of an instruction (R373). -/
def Lane.sideSet (L : Lane) (e : Nat) (i : BitVec 24) : Lane :=
  let side := i.toNat / 16 % 16
  if L.bit (Reg.bywPincfg e) 27 && side = L.fld (Reg.bywPincfg e) 28 4 then L
  else L.pinWindow e false (L.fld (Reg.bywPincfg e) 20 4) (min (L.fld (Reg.bywPincfg e) 24 3) 4) (BitVec.ofNat 32 side)

/-! ### Instructions (R373 to R378) -/

/-- OP of an instruction. -/
def opOf (i : BitVec 24) : Nat := i.toNat / 2 ^ 20
/-- ARG bits [lo + w − 1 : lo] of an instruction. -/
def argOf (i : BitVec 24) (lo w : Nat) : Nat := i.toNat / 2 ^ 8 % 2 ^ 12 / 2 ^ lo % 2 ^ w

/-- What executing an instruction comes to. -/
inductive BywRes where
  | invalid
  | stall
  /-- It completes; the PC if it wrote PC or took a branch. -/
  | done (L : Lane) (pc : Option Nat)

/-- RX of engine e is full, host reads of the same cycle taken first (R380). -/
def Lane.rxFull (L : Lane) (e : Nat) : Bool := decide ((L.bywCap e).1 + (L.eng e).rxEarly ≤ (L.eng e).rx.length)
/-- The engine pushes a word into RX. -/
def Lane.rxPush (L : Lane) (e : Nat) (w : Word) : Lane := L.engUpd e fun b => { b with rx := b.rx ++ [w], pushed := b.pushed + 1 }
/-- The engine pulls a word from TX. -/
def Byw.pull (b : Byw) : Byw := { b with tx := b.tx.tail, pulled := b.pulled + 1 }

/-- Write a CAPTURE or ANGLE result (R374): a register, or RX, stalling when it is full. -/
def Lane.storeDst (L : Lane) (e dst : Nat) (w : Word) : BywRes :=
  if dst < 4 then .done (L.engUpd e fun b => b.setG dst w) none
  else if dst = 4 then (if L.rxFull e then .stall else .done (L.rxPush e w) none)
  else .invalid

/-- BRANCH (R374). -/
def Lane.bBranch (L : Lane) (e : Nat) (i : BitVec 24) : BywRes :=
  let b := L.eng e
  let sel := argOf i 5 3
  let s := sel % 4
  let pair := if s % 2 = 0 then s + 1 else s - 1
  let go := fun (L : Lane) (c : Bool) => BywRes.done L (if c then some (argOf i 0 5) else none)
  let reg := fun (r : BywRes) => if 4 ≤ sel then BywRes.invalid else r
  let zero := fun (r : BywRes) => if sel ≠ 0 then BywRes.invalid else r
  match argOf i 8 4 with
  | 0 => zero (go L true)
  | 1 => reg (go L (b.gr s == 0))
  | 2 => reg (go L (b.gr s != 0))
  | 3 => reg (go L (decide ((b.gr s).toNat < (b.gr pair).toNat)))
  | 4 => reg (go L (decide ((b.gr pair).toNat ≤ (b.gr s).toNat)))
  | 5 => reg (if b.gr s = 0 then go L false else go (L.engUpd e fun b => b.setG s (b.gr s - 1)) true)
  | 6 => go L (L.inPin e sel)
  | 7 => go L (!L.inPin e sel)
  | 8 => go L (L.bit Reg.bywFlags sel)
  | 9 => go L (!L.bit Reg.bywFlags sel)
  | 10 => zero (go L (L.rxFull e))
  | 11 => zero (go L b.tx.isEmpty)
  | 12 => zero (go L L.odo.valid)
  | _ => .invalid

/-- Clear a byway flag, unless it was set in the same PCLK (R381). -/
def Lane.flagClear (L : Lane) (f : Nat) : Lane :=
  if (L.freshMask Reg.bywFlags).getLsbD f then L else L.setBit Reg.bywFlags f false

/-- WAIT (R378); `seen`: the awaited edge or angle event came after the first evaluation. -/
def Lane.bWait (L : Lane) (e : Nat) (i : BitVec 24) (seen : Bool) : BywRes :=
  let pol := argOf i 8 1 = 1
  let opd := argOf i 0 8
  let hold := fun (c : Bool) => if c then BywRes.done L none else BywRes.stall
  match argOf i 9 3 with
  | 0 => if 16 ≤ opd then .invalid else hold (L.inPin e opd == pol)
  | 1 => if 16 ≤ opd then .invalid else hold seen
  | 2 =>
    if 16 ≤ opd then .invalid
    else if (L.bit Reg.bywFlags (opd % 8) || L.flagWas.getLsbD (opd % 8)) != pol then .stall
    else .done (if 8 ≤ opd && pol then { L.flagClear (opd % 8) with flagWas := putBit L.flagWas (opd % 8) true } else L) none
  | 3 => hold (L.srcPending opd == pol)
  | 4 => if 10 ≤ opd || pol then .invalid else hold seen
  | _ => .invalid

/-- SHIFT (R374, R376). -/
def Lane.bShift (L : Lane) (e : Nat) (i : BitVec 24) : BywRes :=
  let b := L.eng e
  let r := argOf i 8 2
  let peer := argOf i 5 3
  let n := if argOf i 0 5 = 0 then 32 else argOf i 0 5
  let top := argOf i 10 1 = 0
  let low : Word := BitVec.ofNat 32 (2 ^ n - 1)
  if peer = 3 || peer = 4 + r then .invalid
  else if argOf i 11 1 = 0 then
    let v : Word := low &&& (match peer with
      | 0 => L.inWord e | 1 => 0 | 2 => 0xFFFFFFFF | _ => b.gr (peer - 4))
    let g := b.gr r
    let g' := if top then (g >>> n) ||| (v <<< (32 - n)) else (g <<< n) ||| v
    let c2 := if r = 2 then min 32 (b.c2 + n) else b.c2
    let lim := if L.fld (Reg.bywQcfg e) 16 5 = 0 then 32 else L.fld (Reg.bywQcfg e) 16 5
    if r = 2 && L.bit (Reg.bywQcfg e) 0 && lim ≤ c2 then
      if L.rxFull e then .stall
      else .done ((L.engUpd e fun b => { b.setG 2 0 with c2 := 0 }).rxPush e g') none
    else .done (L.engUpd e fun b => { b.setG r g' with c2 := c2 }) none
  else
    let pull := r == 3 && L.bit (Reg.bywQcfg e) 1 && decide (b.c3 < n)
    if pull && b.tx.isEmpty then .stall
    else
      let L := if pull then L.engUpd e fun b => { b.pull.setG 3 (b.tx.headD 0) with c3 := 32 } else L
      let g := (L.eng e).gr r
      let v := if top then g &&& low else g >>> (32 - n)
      let L := L.engUpd e fun b => { b.setG r (if top then g >>> n else g <<< n) with c3 := if r = 3 then b.c3 - n else b.c3 }
      match peer with
      | 0 => .done (L.outPins e false n v) none
      | 1 => .done (L.outPins e true n v) none
      | 2 => .done L none
      | p => .done (L.engUpd e fun b => b.setG (p - 4) ((b.gr (p - 4) <<< n) ||| v)) none

/-- STATUS of MOVE (R374). -/
def Byw.statusWord (b : Byw) : Word := BitVec.ofNat 32 (b.rx.length * 2 ^ 28 + b.tx.length * 2 ^ 24 + b.c3 * 2 ^ 8 + b.c2)

/-- FN of MOVE (R374). -/
def bywFn (f : Nat) (w : Word) : Word :=
  match f with
  | 0 => w
  | 1 => ~~~w
  | 2 => BitVec.ofNat 32 ((List.range 32).foldl (fun n i => if w.getLsbD i then n + 2 ^ (31 - i) else n) 0)
  | _ => (w >>> 16) ||| (w <<< 16)

/-- The host pushes or an engine overruns a queue: kind BYW_QUEUE (R380). -/
def Lane.bywQueueFault (L : Lane) (e flag mid : Nat) : Lane :=
  (L.event (Reg.bywEvent e) flag).raiseBy .bywBywQueue e 0 mid 2

/-- MOVE (R374, R380). -/
def Lane.bMove (L : Lane) (e : Nat) (i : BitVec 24) : BywRes :=
  let b := L.eng e
  let dst := argOf i 8 4
  let src := argOf i 4 4
  let qw := argOf i 1 1 = 1
  if argOf i 0 1 ≠ 0 || 7 < dst || 8 < src then .invalid
  else if qw && ((src = 5 && b.tx.isEmpty) || (dst = 6 && L.rxFull e)) then .stall
  else
    let v := match src with
      | 4 => L.inWord e | 5 => b.tx.headD 0 | 6 => 0 | 7 => 0xFFFFFFFF | 8 => b.statusWord | r => b.gr r
    let L := if src = 5 then
        (if b.tx.isEmpty then L.event (Reg.bywEvent e) 5 else L.engUpd e Byw.pull)
      else L
    let w := if src = 5 && b.tx.isEmpty then 0 else bywFn (argOf i 2 2) v
    match dst with
    | 2 => .done (L.engUpd e fun b => { b.setG 2 w with c2 := 0 }) none
    | 3 => .done (L.engUpd e fun b => { b.setG 3 w with c3 := 32 }) none
    | 4 => .done (L.outPins e false 16 w) none
    | 5 => .done (L.outPins e true 16 w) none
    | 6 => .done (if L.rxFull e then L.bywQueueFault e 2 (0x28 + e) else L.rxPush e w) none
    | 7 => .done L (some (bits w 0 5))
    | r => .done (L.engUpd e fun b => b.setG r w) none

/-- COUNT (R374). -/
def Lane.bCount (L : Lane) (e : Nat) (i : BitVec 24) : BywRes :=
  let r := argOf i 10 2
  let scale := match argOf i 7 2 with | 0 => 1 | 1 => 8 | 2 => 64 | _ => 512
  let imm := argOf i 0 7
  .done (L.engUpd e fun b => b.setG r
    (if argOf i 9 1 = 0 then BitVec.ofNat 32 (imm * scale) else b.gr r + BitVec.ofInt 32 (toSigned imm 7 * scale))) none

/-- TIME (R374, R375). -/
def Lane.bTime (L : Lane) (e : Nat) (i : BitVec 24) : BywRes :=
  let s := argOf i 0 2
  match argOf i 10 2 with
  | 0 => .done (L.engUpd e fun b => { b with lt := BitVec.ofNat 32 (argOf i 0 10) }) none
  | 1 => if argOf i 2 8 ≠ 0 then .invalid else .done (L.engUpd e fun b => { b with lt := b.gr s }) none
  | 2 => if argOf i 0 10 ≠ 0 then .invalid else if (L.eng e).lt = 0 then .done L none else .stall
  | _ => if argOf i 2 8 ≠ 0 then .invalid else .done (L.engUpd e fun b => { b.setG s b.lt with lt := 0xFFFFFFFF }) none

/-- MARK (R374, R381). -/
def Lane.bMark (L : Lane) (e : Nat) (i : BitVec 24) : BywRes :=
  let f := argOf i 0 3
  if argOf i 3 6 ≠ 0 then .invalid
  else
    let L := if argOf i 9 1 = 1 then L.event Reg.bywPirq e else L
    match argOf i 10 2 with
    | 0 => .done L none
    | 1 => .done (L.event Reg.bywFlags f) none
    | 2 => .done (L.flagClear f) none
    | _ => .done (if L.bit Reg.bywFlags f then L.flagClear f else L.event Reg.bywFlags f) none

/-- CAPTURE (R374, R377). -/
def Lane.bCapture (L : Lane) (e : Nat) (i : BitVec 24) : BywRes :=
  let p := L.rdPin e (argOf i 0 4)
  if argOf i 8 4 ≠ 0 then .invalid
  else L.storeDst e (argOf i 5 3) (if argOf i 4 1 = 1 then vget L.rises p 0 else vget L.falls p 0)

/-- The angle record (R374). -/
def Lane.angleRecord (L : Lane) : Word :=
  BitVec.ofNat 32 ((if L.odo.valid then 2 ^ 31 else 0) + L.odo.cycle.toNat % 128 * 2 ^ 24 + L.odo.word % 2 ^ 24)

/-- ANGLE (R374). -/
def Lane.bAngle (L : Lane) (e : Nat) (i : BitVec 24) : BywRes :=
  if argOf i 8 4 ≠ 0 || argOf i 0 5 ≠ 0 then .invalid else L.storeDst e (argOf i 5 3) L.angleRecord

/-- Execute an instruction, without its side-set (R374). -/
def Lane.bywExec (L : Lane) (e : Nat) (i : BitVec 24) (seen : Bool) : BywRes :=
  match opOf i with
  | 1 => L.bBranch e i
  | 2 => L.bWait e i seen
  | 3 => L.bShift e i
  | 4 => L.bMove e i
  | 5 => L.bCount e i
  | 6 => L.bTime e i
  | 7 => L.bMark e i
  | 8 => L.bCapture e i
  | 9 => L.bAngle e i
  | _ => .invalid

/-! ### Engine cycles (R372, R375) -/

/-- A PCLK of an engine ends: what it holds of that PCLK's queue accesses is past (R380). -/
def Byw.turn (b : Byw) : Byw := { b with txEarly := 0, rxEarly := 0, pulled := 0, pushed := 0 }

/-- The rate generator in one PCLK (R372); a stopped engine has carried out the cycle of the PCLK in which it stopped (R384). -/
def Lane.bywRate (L : Lane) (e : Nat) : Lane :=
  if !L.bit (Reg.bywCtrl e) 0 then L.engUpd e fun b => { b.turn with due := 0 }
  else
    let L := L.engUpd e Byw.turn
    let n := L.fld (Reg.bywRaten e) 0 16
    let d := L.fld (Reg.bywRated e) 0 24
    let full := n = 0 ∨ d = 0 ∨ d < n
    L.engUpd e fun b =>
      if full then { b with due := b.due + 1 }
      else if d ≤ b.acc + n then { b with acc := b.acc + n - d, due := b.due + 1 }
      else { b with acc := b.acc + n }

/-- The instruction at PC, as it stood before a write of the present PCLK (R383). -/
def Lane.fetchImem (L : Lane) (e : Nat) : BitVec 24 :=
  let a := Reg.bywImem e (L.eng e).pc
  ((L.imemOld.lookup a).getD (L.reg a)).setWidth 24

/-- A write to instruction memory lands at the end of its PCLK: fetches of the same PCLK read the old word (R383). -/
def Lane.writeImem (L : Lane) (a : Nat) (v : Word) : Lane :=
  let old := (L.imemOld.lookup a).getD (L.reg a)
  { L.applyCodes a v with imemOld := (a, old) :: L.imemOld }

/-- An engine cycle begins: it is taken, and LT decrements, stopping at 0 (R375). -/
def Lane.cycleTake (L : Lane) (e : Nat) : Lane :=
  L.engUpd e fun b => { b with due := b.due - 1, lt := if b.lt = 0 then 0 else b.lt - 1 }

/-- The engine halts on an invalid instruction (R375). -/
def Lane.bywHalt (L : Lane) (e : Nat) (i : BitVec 24) : Lane :=
  ((L.setBit (Reg.bywCtrl e) 0 false).engUpd e fun b => { b with halted := true, latch := i, stalled := false, due := 0 }).event
    (Reg.bywEvent e) 7

/-- An instruction completed: PC and the idle count (R375). -/
def Lane.bywDone (L : Lane) (e : Nat) (i : BitVec 24) (pc : Option Nat) : Lane :=
  L.engUpd e fun b => { b with
    pc := pc.getD ((b.pc + 1) % 32), stalled := false, seen := false, idle := i.toNat % 16, latch := i }

/-- The engine has an engine cycle to carry out. -/
def Lane.bywReady (L : Lane) (e : Nat) : Bool := decide (0 < (L.eng e).due)

/-- An engine cycle that fetches, for an instruction of the given OPs only (R375). -/
def Lane.bywFetch (L : Lane) (e : Nat) (ops : List Nat) : Lane :=
  let b := L.eng e
  let i := L.fetchImem e
  if !L.bywReady e || b.stalled || 0 < b.idle || !ops.contains (opOf i) then L
  else
    let L := L.cycleTake e
    match L.bywExec e i false with
    | .invalid => L.bywHalt e i
    | .stall => (L.engUpd e fun b => { b with latch := i, stalled := true, seen := false }).sideSet e i
    | .done M pc => (M.sideSet e i).bywDone e i pc

/-- A stalled instruction's condition holds at an engine cycle (R375). -/
def Lane.bywRelease (L : Lane) (e : Nat) : Lane :=
  let b := L.eng e
  if !L.bywReady e || !b.stalled then L
  else
    let M := L.cycleTake e
    match M.bywExec e b.latch b.seen with
    | .done N pc => N.bywDone e b.latch pc
    | _ => L

/-- An engine cycle that idles, re-evaluates a stall that does not complete, or fetches an OP that names no operation
(R374, R375). -/
def Lane.bywIdle (L : Lane) (e : Nat) : Lane :=
  let b := L.eng e
  if !L.bywReady e then L
  else if b.stalled then
    let M := L.cycleTake e
    match M.bywExec e b.latch b.seen with
    | .done _ _ => L
    | _ => M
  else if 0 < b.idle then (L.cycleTake e).engUpd e fun b => { b with idle := b.idle - 1 }
  else L.bywFetch e [0, 10, 11, 12, 13, 14, 15]

/-- A write to BYWe_INJ (R382): the instruction executes on the next PCLK. -/
def Lane.bywInject (L : Lane) (e : Nat) (v : Word) : Lane := L.engUpd e fun b => { b with inj := some (v.setWidth 24) }

/-- The injected instruction executes (R382): its own side-set, PC only where it writes it or branches; invalid or stalling it
has no effect but INJ_FAIL. -/
def Lane.bywInjected (L : Lane) (e : Nat) (i : BitVec 24) : Lane :=
  match L.bywExec e i false with
  | .done M pc =>
    let M := M.sideSet e i
    match pc with
    | some p => M.engUpd e fun b => { b with pc := p, stalled := false, seen := false }
    | none => M
  | _ => L.event (Reg.bywEvent e) 6

/-- A PCLK begins with an instruction injected (R382): a stalled engine spends on it an engine cycle that falls in this PCLK. -/
def Lane.bywInjTurn (L : Lane) (e : Nat) : Lane :=
  match (L.eng e).inj with
  | none => L
  | some i =>
    let stalled := (L.eng e).stalled
    let L := (L.engUpd e fun b => { b with inj := none }).bywInjected e i
    if stalled && L.bywReady e then L.cycleTake e else L

/-! ### Events that a stalled WAIT watches (R378) -/

/-- A stalled WAIT of the given kind and operand has seen its event. -/
def Lane.bywSee (L : Lane) (hit : Nat → BitVec 24 → Bool) : Lane :=
  (List.range 8).foldl (fun L e =>
    let b := L.eng e
    if b.stalled && opOf b.latch = 2 && hit e b.latch then L.engUpd e fun b => { b with seen := true } else L) L

/-- An angle event: 0 to 7 a mark, 8 a milestone, 9 the wrap (R378). -/
def Lane.bywAngle (L : Lane) (n : Nat) : Lane := L.bywSee fun _ i => argOf i 9 3 = 4 && argOf i 0 8 = n

/-- A transition of byway pin p, held at the pin for `held` TCLK as the synchroniser and filter saw it (R377): an
accepted one is stamped, less the delays of both. -/
def Lane.pinEdge (L : Lane) (p : Nat) (level : Bool) (held : Nat) : Lane :=
  let flt := if p < 8 then L.fld Reg.bywPinflt0 (4 * p) 4 else L.fld Reg.bywPinflt1 (4 * (p - 8)) 4
  if held < 4 * flt || L.pins.getLsbD p == level then L
  else
    let st := BitVec.ofNat 32 (L.time - 4 * (2 + flt))
    let L := { L with pins := putBit L.pins p level }
    let L := if level then { L with rises := vmod L.rises p fun _ => st } else { L with falls := vmod L.falls p fun _ => st }
    L.bywSee fun e i => argOf i 9 3 = 1 && L.rdPin e (argOf i 0 8) == p && (argOf i 8 1 == 1) == level

/-! ### Writes, reads and resets (R380 to R385) -/

/-- What CLR does (R384). -/
def Byw.clr (b : Byw) : Byw :=
  { b with pc := 0, g := Vector.replicate 4 0, c2 := 0, c3 := 0, lt := 0, acc := 0, due := 0, latch := 0, stalled := false,
           seen := false, idle := 0, pulled := 0, pushed := 0 }

/-- A write to BYWe_CTRL (R384). -/
def Lane.writeBywCtrl (L : Lane) (e : Nat) (v : Word) : Lane :=
  let L := L.applyCodes (Reg.bywCtrl e) v
  let L := if v.getLsbD 0 then L.engUpd e fun b => { b with halted := false } else L
  if v.getLsbD 1 then L.engUpd e fun b => b.clr else L

/-- A write to BYWe_RATEN, RATED, PINCFG or QCFG (R380, R384). -/
def Lane.writeBywCfg (L : Lane) (e a : Nat) (v : Word) : Lane :=
  if L.bit (Reg.bywCtrl e) 0 then L.event (Reg.bywEvent e) 8
  else
    let L := L.applyCodes a v
    if a = Reg.bywQcfg e then L.engUpd e fun b => { b with rx := [], tx := [] } else L

/-- TX has no room for a host word: what the engine pulled in the same PCLK it pulled after the host (R380). -/
def Lane.txFull (L : Lane) (e : Nat) : Bool := decide ((L.bywCap e).2 ≤ (L.eng e).tx.length + (L.eng e).pulled)

/-- A write to BYWe_TXQ by master mid (R380). -/
def Lane.writeTxq (L : Lane) (e mid : Nat) (v : Word) : Lane :=
  if 0 < (L.eng e).txEarly then L.engUpd e fun b => { b with txEarly := b.txEarly - 1 }
  else if L.txFull e then L.bywQueueFault e 3 mid
  else L.engUpd e fun b => { b with tx := b.tx ++ [v] }

/-- A read of BYWe_RXQ or of its window, before the engine's pushes of the same PCLK (R380). -/
def Lane.readRxq (L : Lane) (e : Nat) : Lane × Word :=
  match (L.eng e).rx with
  | [] => (L.event (Reg.bywEvent e) 4, 0)
  | w :: r =>
    if (w :: r).length ≤ (L.eng e).pushed then (L.event (Reg.bywEvent e) 4, 0)
    else (L.engUpd e fun b => { b with rx := r, rxEarly := b.rxEarly - 1 }, w)

/-- Host words that wait in the cycle enter TX, as far as it has room, before the engine's access (R380). -/
def Lane.txAhead (L : Lane) (e : Nat) : List Word → Lane
  | [] => L
  | w :: ws => if L.txFull e then L else (L.engUpd e fun b => { b with tx := b.tx ++ [w], txEarly := b.txEarly + 1 }).txAhead e ws

/-- A write to BYW_FLAGS (R381): a set wins over a clear. -/
def Lane.writeFlags (L : Lane) (v : Word) : Lane :=
  (List.range 8).foldl (fun L f =>
    if v.getLsbD f then L.event Reg.bywFlags f else if v.getLsbD (8 + f) then L.flagClear f else L) L

/-- A write to BYW_SYNC (R372, R385). -/
def Lane.writeBywSync (L : Lane) (v : Word) : Lane :=
  (List.range 8).foldl (fun L e => if v.getLsbD e then L.engUpd e fun b => { b with acc := 0 } else L) L

/-- STATE of BYWe_STAT (R385). -/
def Lane.bywStat (L : Lane) (e : Nat) : Word :=
  let b := L.eng e
  let st := if b.halted then 3 else if !L.bit (Reg.bywCtrl e) 0 then 0 else if b.stalled then 2 else 1
  BitVec.ofNat 32 (st * 2 ^ 30 + b.pc * 2 ^ 24 + b.rx.length * 2 ^ 20 + b.tx.length * 2 ^ 16 + b.c3 * 2 ^ 8 + b.c2)

/-- Per-function reset of engine e (R384). -/
def Lane.bywReset (L : Lane) (e : Nat) : Lane :=
  (L.resetRange (Reg.bywCtrl e) (Reg.bywCtrl e + 0x40)).engUpd e fun b => { b.clr with rx := [], tx := [], halted := false, inj := none }

end Sys2Proof.Machine
end

