-- ==== Sys2Proof/Machine/Bch.lean ====
section
/-! DEFINITION. The BCH code of the NAND sectors: 40 bits in each sector, over GF(2^14) (14_start_up.md R301). -/

namespace Sys2Proof.Machine

/-- The generator polynomial but for its term x^560: the product of the minimal polynomials of α to α^80 over GF(2^14) with the
polynomial x^14 + x^5 + x^3 + x + 1 (R301). -/
def bchGen : BitVec 560 :=
  0x264159c33565ae3772eec093a09e297060b80bb1a648159acd08497e925bb46e32cdec71631cabc1461aa843f5bfdcf24b78b0f0da6e54099d334cdce16fbb6615f70f93c2ad

/-- One bit of the message enters the division by the generator. -/
def bchBit (r : BitVec 560) (b : Bool) : BitVec 560 := if r.getLsbD 559 != b then (r <<< 1) ^^^ bchGen else r <<< 1

/-- One byte, most significant bit first (log entry 100). -/
def bchByte (r : BitVec 560) (x : Byte) : BitVec 560 := (List.range 8).foldl (fun r i => bchBit r (x.getLsbD (7 - i))) r

/-- The 70 parity bytes of the protected bytes, most significant first. -/
def bchParity (bs : List Byte) : List Byte :=
  let r := bs.foldl bchByte 0
  (List.range 70).map fun i => r.extractLsb' (552 - 8 * i) 8

/-- Zero bits of a byte. -/
def zeroBits (x : Byte) : Nat := ((List.range 8).filter fun i => !x.getLsbD i).length

/-- What is left of a budget of zero bits after some bytes, if it holds out. -/
def fewZeros : Nat → List Byte → Option Nat
  | n, [] => some n
  | n, b :: r => if zeroBits b ≤ n then fewZeros (n - zeroBits b) r else none

/-- Bytes with the bits at some positions read wrong. -/
def flipBits (bs : List Byte) (fs : List Nat) : List Byte :=
  fs.foldl (fun bs i => bs.set (i / 8) (bs.getD (i / 8) 0 ^^^ ((1 : Byte) <<< (i % 8)))) bs

end Sys2Proof.Machine
end

