-- ==== Sys2Proof/Machine/Crypto.lean ====
section
/-! DEFINITION. SHA-256, HMAC-SHA-256 and AES-128 in counter mode, which R307 and R417 name; their definitions are the
published standards' (PRESUMED, log entry 29). -/

namespace Sys2Proof.Machine

/-! ### SHA-256 -/

/-- The 64 round constants, the first one topmost. -/
def shaRounds : BitVec 2048 :=
  0x428a2f9871374491b5c0fbcfe9b5dba53956c25b59f111f1923f82a4ab1c5ed5d807aa9812835b01243185be550c7dc372be5d7480deb1fe9bdc06a7c19bf174e49b69c1efbe47860fc19dc6240ca1cc2de92c6f4a7484aa5cb0a9dc76f988da983e5152a831c66db00327c8bf597fc7c6e00bf3d5a7914706ca63511429296727b70a852e1b21384d2c6dfc53380d13650a7354766a0abb81c2c92e92722c85a2bfe8a1a81a664bc24b8b70c76c51a3d192e819d6990624f40e3585106aa07019a4c1161e376c082748774c34b0bcb5391c0cb34ed8aa4a5b9cca4f682e6ff3748f82ee78a5636f84c878148cc7020890befffaa4506cebbef9a3f7c67178f2

/-- The chaining value before the first block, its first word topmost. -/
def shaStart : BitVec 256 := 0x6a09e667bb67ae853c6ef372a54ff53a510e527f9b05688c1f83d9ab5be0cd19

/-- Word i of n, counted from the top. -/
def topWord {m : Nat} (x : BitVec m) (n i : Nat) : BitVec 32 := x.extractLsb' (32 * (n - 1 - i)) 32

/-- A word turned right by each of some amounts, and summed without carry. -/
def turned (w : BitVec 32) (by_ : List Nat) : BitVec 32 := (by_.map w.rotateRight).foldl (· ^^^ ·) 0

/-- The bits of a block of 64 bytes, followed by the words that the rounds after the sixteenth take: the newest word first. -/
def shaGrow (block : BitVec 512) : List (BitVec 32) :=
  (List.range 48).foldl (fun ws _ =>
    let old := fun k => (ws.drop (k - 1)).headD 0
    (old 7 + old 16 + (turned (old 15) [7, 18] ^^^ old 15 >>> 3) + (turned (old 2) [17, 19] ^^^ old 2 >>> 10)) :: ws)
    ((List.range 16).map fun i => topWord block 16 (15 - i))

/-- A round on the chaining value: its upper and its lower four words each move down by one; x is a schedule word with its
constant. -/
def shaTurn (v : BitVec 256) (x : BitVec 32) : BitVec 256 :=
  let p := topWord v 8
  let pick := p 6 ^^^ (p 4 &&& (p 5 ^^^ p 6))
  let most := (p 0 &&& p 1) ||| (p 2 &&& (p 0 ||| p 1))
  let low := x + p 7 + pick + turned (p 4) [6, 11, 25]
  let high := low + most + turned (p 0) [2, 13, 22]
  high ++ v.extractLsb' 160 96 ++ (low + p 3) ++ v.extractLsb' 32 96

/-- The bits of some bytes, the first byte topmost. -/
def packed (n : Nat) (bs : List Byte) : BitVec n := BitVec.ofNat n (leNat bs.reverse)

/-- One block of 64 bytes into the chaining value, word by word. -/
def shaAbsorb (v : BitVec 256) (bs : List Byte) : BitVec 256 :=
  let ws := (shaGrow (packed 512 bs)).reverse
  let u := (ws.zipIdx).foldl (fun u x => shaTurn u (x.1 + topWord shaRounds 64 x.2)) v
  (List.range 8).foldl (fun r i => r ||| ((topWord v 8 i + topWord u 8 i).setWidth 256 <<< (32 * (7 - i)))) 0

/-- n blocks of a padded message. -/
def shaChain (v : BitVec 256) (bs : List Byte) : Nat → BitVec 256
  | 0 => v
  | n + 1 => shaChain (shaAbsorb v (bs.take 64)) (bs.drop 64) n

/-- The digest of R307 and R417: a one bit, zeros up to the last 8 bytes of a block, and the count of message bits follow the
message. -/
def sha256 (m : List Byte) : List Byte :=
  let count := (leBytes (8 * m.length) 8).reverse
  let blocks := (m.length + 72) / 64
  let full := m ++ 0x80 :: List.replicate (64 * blocks - m.length - 9) 0 ++ count
  (leBytes (shaChain shaStart full blocks).toNat 32).reverse

/-- HMAC-SHA-256. -/
def hmac (key m : List Byte) : List Byte :=
  let k := if 64 < key.length then sha256 key else key
  let k := k ++ List.replicate (64 - k.length) 0
  sha256 ((k.map (· ^^^ 0x5C)) ++ sha256 ((k.map (· ^^^ 0x36)) ++ m))

/-! ### AES-128 -/

/-- Multiply by x in the field of AES. -/
def aesX (a : Byte) : Byte := if a.getLsbD 7 then (a <<< 1) ^^^ 0x1B else a <<< 1

/-- Product in the field of AES. -/
def aesMul (a b : Byte) : Byte :=
  ((List.range 8).foldl (fun (p : Byte × Byte) i => (if b.getLsbD i then p.1 ^^^ p.2 else p.1, aesX p.2)) (0, a)).1

/-- The S-box: inverse, then the affine map. -/
def aesSub (b : Byte) : Byte :=
  let i := Nat.repeat (aesMul b) 254 1
  i ^^^ i.rotateLeft 1 ^^^ i.rotateLeft 2 ^^^ i.rotateLeft 3 ^^^ i.rotateLeft 4 ^^^ 0x63

/-- The S-box as a table. -/
def aesTable : List Byte := (List.range 256).map fun n => aesSub (BitVec.ofNat 8 n)

/-- The next round key, with its round constant. -/
def aesNextKey (t : List Byte) (rc : Byte) (k : List Byte) : List Byte :=
  let s := fun (b : Byte) => t.getD b.toNat 0
  let g := fun i => k.getD i 0
  let x := fun (a b : List Byte) => List.zipWith (· ^^^ ·) a b
  let w0 := x (k.take 4) [s (g 13) ^^^ rc, s (g 14), s (g 15), s (g 12)]
  let w1 := x ((k.drop 4).take 4) w0
  let w2 := x ((k.drop 8).take 4) w1
  w0 ++ w1 ++ w2 ++ x (k.drop 12) w2

/-- ShiftRows after SubBytes on the sixteen bytes of a state. -/
def aesShift (t : List Byte) (b : List Byte) : List Byte :=
  (List.range 16).map fun i => t.getD (b.getD ((i + 4 * (i % 4)) % 16) 0).toNat 0

/-- MixColumns. -/
def aesMix (b : List Byte) : List Byte :=
  (List.range 16).map fun i =>
    let g := fun j => b.getD (i / 4 * 4 + (i + j) % 4) 0
    aesX (g 0) ^^^ aesX (g 1) ^^^ g 1 ^^^ g 2 ^^^ g 3

/-- AES-128 of one block. -/
def aes128 (key blk : List Byte) : List Byte :=
  let t := aesTable
  let x := fun (a b : List Byte) => List.zipWith (· ^^^ ·) a b
  let r := (List.range 9).foldl (fun (r : List Byte × List Byte × Byte) _ =>
    let k := aesNextKey t r.2.2 r.2.1
    (x (aesMix (aesShift t r.1)) k, k, aesX r.2.2)) (x blk key, key, 1)
  x (aesShift t r.1) (aesNextKey t r.2.2 r.2.1)

/-- Counter mode with the counter block of R307, n blocks from block number i. -/
def aesCtr (key nonce : List Byte) (bs : List Byte) (i : Nat) : Nat → List Byte
  | 0 => []
  | n + 1 =>
    List.zipWith (· ^^^ ·) (bs.take 16) (aes128 key (nonce ++ (leBytes i 8).reverse)) ++ aesCtr key nonce (bs.drop 16) (i + 1) n

end Sys2Proof.Machine
end

