-- ==== Sys2Proof/Machine/MemCore.lean ====
section
/-! DEFINITION. The memory controller's registers and the scrubber (13_memory.md). -/

namespace Sys2Proof.Machine

/-- A write to MEM_MERGE (R278). -/
def Lane.writeMerge (L : Lane) (v : Word) : Lane := if v.getLsbD 0 then L.flushAll else L

/-- 64 CCLK with no narrow write (R278): every entry is flushed, oldest first. -/
def Lane.mergeIdle (L : Lane) : Lane := if L.time < L.mem.narrowAt + 128 then L else L.flushAll

/-- Copy the word at A, decoded and counted, poison included, into spare word i (R279, R282, R283). The word is remapped by
this copy: its corrections are counted in the tracking table, and remap nothing further. -/
def Lane.copyToSpare (L : Lane) (A i : Nat) : Lane :=
  let L := L.flushWord A
  let f := if (L.remapOf A).isSome then none else L.erased ((arrayOf A).getD 0)
  let w := L.rawWord A
  let r := decodeWord f w.1 w.2
  let (L, d, bad) := (L.trackOnly A f r).outcomeBy (Lane.countMacro 0 1) A f w.1 r 0 1
  let L := if r == .uncorrectable then L.putPoison A d else L
  L.putSpare i d (if bad then poisonCheck d else checkBytes d)

/-- A write to MEM_REMAPi (R282, R283, R291): the service core populates or releases the entry; any other write is refused. -/
def Lane.writeRemap (L : Lane) (w : Writer) (i : Nat) (v : Word) : Lane :=
  match w with
  | .host _ => L.event Reg.memEvent 8
  | _ =>
    let A := bits v 0 23 * 16
    let L := L.releaseRemap i
    let entry := bits v 25 5 * 2 ^ 25 + bits v 0 23
    if !v.getLsbD 31 then L.setReg (Reg.memRemap i) (BitVec.ofNat 32 (L.fld (Reg.memRemap i) 30 1 * 2 ^ 30 + entry))
    else
      let L := if (arrayOf A).isSome then L.copyToSpare A i else L
      (L.setReg (Reg.memRemap i) (BitVec.ofNat 32 (2 ^ 31 + entry))).event Reg.memEvent 2

/-- A write to MEM_ERASE (R285, R291): the service core sets or clears erasure; any other write is refused, and one that
names a macro above 18 is ignored. -/
def Lane.writeErase (L : Lane) (w : Writer) (v : Word) : Lane :=
  match w with
  | .host _ => L.event Reg.memEvent 8
  | _ =>
    if 18 < bits v 24 5 || 18 < bits v 16 5 || 18 < bits v 8 5 then L
    else
      (List.range 3).foldl (fun L k =>
        let f := eraseField k
        let m := bits v f.2 5
        if !v.getLsbD f.1 then (L.setBit Reg.memErase f.1 false).setFld Reg.memErase f.2 5 m
        else if L.erased k = some m then L
        else L.setErasure k m 0 1) L

/-! ### Scrubbing (R286 to R288) -/

/-- The word address a MEM_SCRUB_ register holds. -/
def Lane.scrubAddr (L : Lane) (a : Nat) : Nat := L.fld a 4 23 * 16

/-- The addresses that a pass would use are as R286 requires. -/
def Lane.scrubOk (L : Lane) : Bool :=
  let a := L.scrubAddr Reg.memScrubStart
  let b := L.scrubAddr Reg.memScrubEnd
  (arrayOf a).isSome && arrayOf a == arrayOf b && decide (a ≤ b)

/-- Start a pass (R286); a GO while one runs is ignored. -/
def Lane.scrubStart (L : Lane) : Lane :=
  if L.mem.scrub.isSome then L
  else if !L.scrubOk then L.event Reg.memEvent 8
  else { L with mem := { L.mem with
    scrub := some { next := L.scrubAddr Reg.memScrubStart, last := L.scrubAddr Reg.memScrubEnd, start := L.time }, scrubDone := false } }

/-- A pass ends: its figures go to the summary registers (R288). -/
def Lane.scrubEnd (L : Lane) (p : Scrub) : Lane :=
  let w := fun (n : Nat) => BitVec.ofNat 32 (satNat n 32)
  let L := (((((L.setReg Reg.memScrubRead (w p.read)).setReg Reg.memScrubCorr (w p.corr)).setReg Reg.memScrubUnc (w p.unc)).setReg
    Reg.memScrubFirst (match p.first with | some a => BitVec.ofNat 32 a | none => 0xFFFFFFFF)).setReg
    Reg.memScrubTime (w ((L.time - p.start) / 400)))
  let L := (List.range 19).foldl (fun L k => L.setReg (Reg.memScrubHist k) (w (vget p.hist k 0))) L
  { L with mem := { L.mem with scrub := none, scrubDone := true } }.event Reg.memEvent 5

/-- The scrubber reads one word (R287), and ends the pass after the last (R288). -/
def Lane.scrubWord (L : Lane) : Lane :=
  match L.mem.scrub with
  | none => L
  | some p =>
    let A := p.next
    let L := L.flushWord A
    let f := if (L.remapOf A).isSome then none else L.erased ((arrayOf A).getD 0)
    let w := L.rawWord A
    let r := decodeWord f w.1 w.2
    let L := (L.readOutcome A f w.1 r 0x30 5).1
    let (L, p) := match r with
      | .clean => (L, p)
      | .corrected d _ ms =>
        (if L.bit Reg.memScrubCtrl 3 then L.putWord A d else L,
         { p with corr := p.corr + 1, hist := ms.foldl (fun h m => vmod h m (· + 1)) p.hist })
      | _ => (L, { p with unc := p.unc + 1, first := some (p.first.getD A) })
    let p := { p with read := p.read + 1, next := A + 16 }
    if p.last ≤ A then L.scrubEnd p else { L with mem := { L.mem with scrub := some p } }

/-- A write to MEM_SCRUB_CTRL (R286, R288): ABORT ends a pass, GO starts one. A GO that R286 refuses refuses the whole
write. -/
def Lane.writeScrubCtrl (L : Lane) (v : Word) : Lane :=
  if v.getLsbD 0 && (L.mem.scrub.isNone || v.getLsbD 1) && !L.scrubOk then L.event Reg.memEvent 8
  else
    let L := L.applyCodes Reg.memScrubCtrl v
    let L := if v.getLsbD 1 then (match L.mem.scrub with | some p => L.scrubEnd p | none => L) else L
    if v.getLsbD 0 then L.scrubStart else L

/-- A write to MEM_MACROk_CNT: the written value, with ARRAY cleared (R291). -/
def Lane.writeMacroCnt (L : Lane) (k : Nat) (v : Word) : Lane := L.setReg (Reg.memMacroCnt k) (v &&& 0x3FFFFFFF)

/-- MEM_STAT as it reads (R291). -/
def Lane.memStat (L : Lane) : Word :=
  BitVec.ofNat 32 ((if L.mem.initDone then 2 ^ 31 else 0) + L.mem.merge.length * 2 ^ 8
    + ((List.range 16).filter fun i => L.bit (Reg.memRemap i) 31).length)

/-- MEM_SCRUB_CTRL as it reads (R291). -/
def Lane.scrubCtrl (L : Lane) : Word :=
  L.reg Reg.memScrubCtrl ||| (if L.mem.scrub.isSome then 0x80000000 else 0) ||| (if L.mem.scrubDone then 0x40000000 else 0)

/-- Any lane reset clears the tracking table (R282). -/
def Lane.memLaneReset (L : Lane) : Lane :=
  { L.flushAll with mem := { L.flushAll.mem with track := [], fullSeen := [], scrub := none } }

end Sys2Proof.Machine
end

