-- ==== Sys2Proof/Machine/StoreCore.lean ====
section
/-! DEFINITION. The NAND device and its store: sectors, image copies, image format and validation, journal pages and
records (14_start_up.md R298 to R315). -/

namespace Sys2Proof.Machine

/-- Change the store of a lane. -/
def Lane.storeUpd (L : Lane) (f : Store → Store) : Lane := { L with store := f L.store }
/-- Change the NAND device of a lane. -/
def Lane.nandUpd (L : Lane) (f : Nand → Nand) : Lane := L.storeUpd fun s => { s with nand := f s.nand }

/-! ### Pages and sectors (R300, R301) -/

/-- Index of a page: unit, block, page within the block. -/
def pageKey (u b p : Nat) : Nat := (u * 4096 + b) * 512 + p

/-- A written page. -/
def Nand.page (n : Nand) (u b p : Nat) : Option NandPage := n.pages.lookup (pageKey u b p)

/-- Insert a page in rising order, replacing one of the same index. -/
def putPage (k : Nat) (x : NandPage) : List (Nat × NandPage) → List (Nat × NandPage)
  | [] => [(k, x)]
  | (j, y) :: r => if k < j then (k, x) :: (j, y) :: r else if k = j then (k, x) :: r else (j, y) :: putPage k x r

/-- PAGE PROGRAM of an erased page. -/
def Nand.program (n : Nand) (u b p : Nat) (x : NandPage) : Nand := { n with pages := putPage (pageKey u b p) x n.pages }

/-- BLOCK ERASE. -/
def Nand.erase (n : Nand) (u b : Nat) : Nand :=
  { n with pages := n.pages.filter fun e => e.1 / 512 != u * 4096 + b }

/-- What a read of a sector finds (R301). -/
inductive SecRead where
  | ok (data : List Byte) (errs : Nat)
  | erased
  | bad
deriving DecidableEq, Repr

/-- The 1,024 bytes that a sector read returns: an ERASED one reads as all 0xFF (R301); of an UNCORRECTABLE one there are no good
bytes, and zeros stand in their place. -/
def SecRead.bytes : SecRead → List Byte
  | .ok d _ => d
  | .erased => List.replicate 1024 0xFF
  | .bad => List.replicate 1024 0

/-- Spare bytes 1 to 7 of a page (R300). -/
def NandPage.spareHead (x : NandPage) : List Byte :=
  [x.kind, BitVec.ofNat 8 (x.slot * 16 + x.copy)] ++ leBytes x.idx 2 ++ [0xFF, 0xFF, 0xFF]

/-- The bytes that sector k protects: its data, and in sector 0 the spare bytes 1 to 7 (R301). -/
def NandPage.guarded (x : NandPage) (k : Nat) (s : NandSector) : List Byte := s.data ++ (if k = 0 then x.spareHead else [])

/-- The spare area as the store writes it (R300): marker, bytes 1 to 7, and each sector's parity with two bytes of 0xFF. -/
def NandPage.spareArea (x : NandPage) : List Byte :=
  x.marker :: x.spareHead ++ (x.sectors.zipIdx.map fun s => bchParity (x.guarded s.2 s.1) ++ [0xFF, 0xFF]).flatten

/-- The guarded bytes and parity of a sector, as they read, hold at most 8 zero bits (R301). -/
def NandPage.blank (x : NandPage) (k : Nat) (s : NandSector) : Bool :=
  let g := x.guarded k s
  let n := 8 * g.length
  match fewZeros 8 (flipBits g (s.flips.filter (· < n))) with
  | some z => (fewZeros z (flipBits (bchParity g) ((s.flips.filter (n ≤ ·)).map (· - n)))).isSome
  | none => false

/-- Read sector k of a page (R301): ERASED, or corrected in up to 40 bits, or UNCORRECTABLE. -/
def NandPage.sector (x : NandPage) (k : Nat) : SecRead :=
  match x.sectors[k]? with
  | none => .erased
  | some s =>
    let errs := s.flips.eraseDups.length
    if x.blank k s then .erased else if 40 < errs then .bad else .ok s.data errs

/-- The layout of CFG_LASTERR (R302, R318). -/
def errWord (bitsBad sec u b p : Nat) : Nat := bitsBad * 2 ^ 26 + sec * 2 ^ 22 + u * 2 ^ 21 + b * 2 ^ 9 + p

/-- CFG_STORE thresholds: values outside 1 to 40 act as 40 (R318). -/
def eccField (x : Nat) : Nat := if x = 0 ∨ 40 < x then 40 else x

/-- A page of the image region is read (R314): the count of its block rises. -/
def Lane.countRead (L : Lane) (u b : Nat) : Lane :=
  if u = 0 then L.storeUpd fun s => { s with reads := vmod s.reads b (· + 1) } else L

/-- Read a sector (R302); `uncorr` tells that an UNCORRECTABLE one raises NAND_UNCORR (journal and patrol). -/
def Lane.readSector (L : Lane) (u b p k : Nat) (uncorr : Bool) : Lane × SecRead :=
  match L.store.nand.page u b p with
  | none => (L, .erased)
  | some x =>
    let r := x.sector k
    match r with
    | .ok _ e =>
      if eccField (L.fld Reg.cfgStore 26 6) ≤ e then
        let w := errWord e k u b p
        (((L.setReg Reg.cfgLasterr (BitVec.ofNat 32 w)).event Reg.cfgEvent 0).raise .cfgNandEcc 0 w, r)
      else (L, r)
    | .erased => (L, r)
    | .bad =>
      if uncorr then
        let w := errWord 0x3F k u b p
        (((L.setReg Reg.cfgLasterr (BitVec.ofNat 32 w)).event Reg.cfgEvent 1).raise .cfgNandUncorr 0 w, r)
      else (L, r)

/-! ### Pins of the NAND port (R298, R403) -/

/-- The store programs or erases: between commands that is an install under way, at a port that is not held in reset. -/
def Lane.nandBusy (L : Lane) : Bool := L.store.found && L.store.install.isSome
/-- NFx_CE_N is low, its active level. -/
def Lane.nandCeLow (L : Lane) : Bool := L.nandBusy
/-- NFx_WP_N is high only while the store programs or erases. -/
def Lane.nandWpHigh (L : Lane) : Bool := L.nandBusy

/-! ### Discovery (R298, R299) -/

/-- The copy of the parameter page that the controller takes: the first whose CRC-16 is valid (R298). -/
def Nand.param (n : Nand) : NandParam := (n.params.find? (·.crcOk)).getD {}
/-- Page size in KiB. -/
def Nand.pageK (n : Nand) : Nat := n.param.pageK
/-- Pages per block. -/
def Nand.ppb (n : Nand) : Nat := n.param.ppb
/-- Two logical units. -/
def Nand.lun2 (n : Nand) : Bool := n.param.lun2

/-- A device answers: RESET and NFx_RB_N, READ ID, and a valid copy of the parameter page (R296, R298). -/
def Nand.fitted (n : Nand) : Bool := n.rb && n.idOk && n.params.any (·.crcOk)

/-- The parameter page meets R299. -/
def NandParam.meets (p : NandParam) : Bool :=
  [4, 8, 16].contains p.pageK && [64, 128, 256, 512].contains p.ppb && decide (1024 ≤ p.blocks) && decide (p.blocks ≤ 4096)
    && decide (8 + 72 * p.pageK ≤ p.spare)

/-- NAND discovery at step 4a: the result code of CFG_BOOT (0 for success, 2 NO_NAND, 3 NAND_PARAM), with CFG_NAND and
CFG_NAND_BLK written on success. The timing mode is the highest that the page lists and TMODE_MAX permits: SET FEATURES sets
it, and GET FEATURES reads it back. -/
def Lane.discover (L : Lane) : Lane × Nat :=
  let L := L.readTriple 0
  let n := L.store.nand
  let p := n.param
  if !n.fitted then (L, 2)
  else if !p.meets then (L, 3)
  else
    let code := fun (x : Nat) (l : List Nat) => l.findIdx (· == x)
    let L := L.nandUpd fun n => { n with mode := min p.tmode (bits L.options 0 3) }
    let w := (if p.lun2 then 2 ^ 31 else 0) + L.store.nand.mode * 2 ^ 28 + code p.pageK [4, 8, 16] * 2 ^ 26
      + code p.ppb [64, 128, 256, 512] * 2 ^ 24 + p.spare % 2 ^ 12 * 2 ^ 12
    let L := L.setReg Reg.cfgNand (BitVec.ofNat 32 w)
    let L := L.setReg Reg.cfgNandBlk (BitVec.ofNat 32 (L.store.bad.length * 2 ^ 16 + p.blocks))
    (L.storeUpd fun s => { s with found := true }, 0)

/-! ### The image format (R304 to R307) -/

/-- A little-endian field of n bytes at an offset. -/
def fieldAt (bs : List Byte) (o n : Nat) : Nat := leNat ((bs.drop o).take n)

/-- The image header. -/
structure ImgHead where
  flags : Nat
  seq : Nat
  length : Nat
  bodyLen : Nat
  variant : Nat
  nonce : List Byte
  /-- MAGIC, FORMAT, TARGET and the reserved bytes are as R304 states. -/
  shape : Bool
deriving DecidableEq, Repr

/-- Read the header from the first bytes of an image. -/
def imgHead (bs : List Byte) : ImgHead :=
  { flags := fieldAt bs 6 2, seq := fieldAt bs 8 4, length := fieldAt bs 12 4, bodyLen := fieldAt bs 16 4
    variant := fieldAt bs 0x16 1, nonce := (bs.drop 0x18).take 8
    shape := fieldAt bs 0 4 == 0x49435A4C && fieldAt bs 4 2 == 3 && fieldAt bs 0x14 2 == 0x2448 && fieldAt bs 0x17 1 == 0
      && fieldAt bs 0x24 28 == 0 && decide (64 ≤ bs.length) }

/-- ENC. -/
def ImgHead.enc (h : ImgHead) : Bool := h.flags % 2 == 1

/-- header_ok (R309). -/
def Lane.headerOk (L : Lane) (variantS : Bool) (h : ImgHead) : Bool :=
  h.shape && decide (h.flags < 2) && (h.variant == 0 || h.variant == (if variantS then 2 else 1)) && h.seq != 0
    && h.length == 128 + h.bodyLen && decide (h.length ≤ 1048576) && h.bodyLen % 16 == 0
    && (h.enc || !L.options.getLsbD 5) && !L.mon.ka.isEmpty && (!h.enc || !L.mon.ke.isEmpty)

/-- A record of an image that takes effect (R306). -/
inductive ImgRec where
  | write (late : Bool) (addr : Nat) (words : List Word)
  | load (addr : Nat) (bytes : List Byte)
  | preset
  | shared (areas : List (Nat × Nat))
deriving DecidableEq, Repr

/-- R15 maps the address. -/
def mapped (a : Nat) : Bool := (arrayOf a).isSome || (decide (0x10000000 ≤ a) && decide (a < 0x10130000))

/-- A word that a WRITE or LATE_WRITE record may address (R306). -/
def imgWritable (a : Nat) : Bool :=
  mapped a && a / 0x10000 != 0x1012 && !(decide (0x100A0200 ≤ a) && decide (a < 0x100A0240)) && a != Reg.memErase
    && !(decide (0x10110100 ≤ a) && decide (a < 0x10110128))

/-- The words of a payload. -/
def payloadWords : List Byte → List Word
  | a :: b :: c :: d :: r => BitVec.ofNat 32 (leNat [a, b, c, d]) :: payloadWords r
  | _ => []

/-- Pairs of a SHARED payload. -/
def sharedPairs : List Word → List (Nat × Nat)
  | a :: n :: r => (a.toNat, n.toNat) :: sharedPairs r
  | _ => []

/-- What a known record says, none if it is invalid (R306). -/
def imgRecord (typ len : Nat) (pl : List Byte) : Option (Option ImgRec) :=
  let a := fieldAt pl 0 4
  match typ with
  | 1 | 3 =>
    let n := len / 4 - 1
    if len < 4 || len % 4 != 0 || a % 4 != 0 || !((List.range n).all fun i => imgWritable (a + 4 * i)) then none
    else some (some (.write (typ == 3) a (payloadWords (pl.drop 4))))
  | 2 =>
    let n := len - 4
    if len < 4 then none
    else if n = 0 then some none
    else match arrayOf a with
      | some k => if a + n ≤ arrayBase k + arraySize k then some (some (.load a (pl.drop 4))) else none
      | none => none
  | 4 => if len = 4 ∧ a = 1 then some (some .preset) else none
  | 5 =>
    let ps := sharedPairs (payloadWords pl)
    if len % 8 = 0 ∧ len ≤ 128 ∧ ps.all (fun p => decide (p.1 + p.2 ≤ 0x00200000)) then some (some (.shared ps)) else none
  | _ => none

/-- The records of a plaintext record area, none if R305 or R306 is broken. -/
def imgRecords (bs : List Byte) : Nat → Option (List ImgRec)
  | 0 => none
  | fuel + 1 =>
    let typ := fieldAt bs 0 2
    let flags := fieldAt bs 2 2
    let len := fieldAt bs 4 4
    let pad := (len + 3) / 4 * 4
    let pl := (bs.drop 8).take len
    let rest := bs.drop (8 + pad)
    if bs.length < 8 + pad || flags % 2 ^ 15 != 0 || ((bs.drop (8 + len)).take (pad - len)).any (· != 0) then none
    else if typ = 0xFF then (if len = 0 && rest.all (· == 0) then some [] else none)
    else if [1, 2, 3, 4, 5].contains typ then
      match imgRecord typ len pl, imgRecords rest fuel with
      | some (some r), some rs => some (r :: rs)
      | some none, some rs => some rs
      | _, _ => none
    else if 2 ^ 15 ≤ flags then none
    else imgRecords rest fuel

/-- An image that has passed every check. -/
structure Image where
  head : ImgHead
  digest : List Byte
  recs : List ImgRec
deriving DecidableEq, Repr

/-- The checks of R309 on the bytes of an image after its header; the code of CFG_INSTALL.RESULT that names the first
that fails (3 TAG, 4 DIGEST, 5 records). -/
def Lane.checkImage (L : Lane) (bs : List Byte) : Except Nat Image :=
  let h := imgHead bs
  let tagged := bs.take (h.length - 32)
  let area := (bs.drop 64).take h.bodyLen
  let digest := (bs.drop (64 + h.bodyLen)).take 32
  if hmac L.mon.ka tagged != (bs.drop (h.length - 32)).take 32 then .error 3
  else
    let body := if h.enc then aesCtr L.mon.ke h.nonce area 0 (h.bodyLen / 16) else area
    if sha256 (bs.take 64 ++ body) != digest then .error 4
    else match imgRecords body (body.length / 8 + 1) with
      | none => .error 5
      | some rs => .ok ⟨h, digest, rs⟩

/-! ### Image copies (R308, R309) -/

/-- A copy found by the scan. -/
structure Copy where
  slot : Nat
  copy : Nat
  block : Nat
  head : ImgHead
deriving DecidableEq, Repr

/-- Data bytes of a page. -/
def Nand.pageBytes (n : Nand) : Nat := n.pageK * 1024

/-- The header of the copy that starts at a block of the image region, if one does (R303, R308). -/
def Lane.copyAt (L : Lane) (variantS : Bool) (b : Nat) : Option Copy :=
  match L.store.nand.page 0 b 0 with
  | some x =>
    match x.sector 0 with
    | .ok d _ =>
      let h := imgHead d
      if x.kind == 0x1A && x.idx == 0 && x.slot < 2 && x.copy < 3 && L.headerOk variantS h then some ⟨x.slot, x.copy, b, h⟩ else none
    | _ => none
  | none => none

/-- The order of R309: SEQ descending, then slot A before B, then start block ascending. -/
def copyBefore (c d : Copy) : Bool :=
  decide (d.head.seq < c.head.seq) || (c.head.seq == d.head.seq && (decide (c.slot < d.slot) || (c.slot == d.slot && decide (c.block ≤ d.block))))

/-- Insert a candidate in the order of R309. -/
def insertCopy (c : Copy) : List Copy → List Copy
  | [] => [c]
  | d :: r => if copyBefore c d then c :: d :: r else d :: insertCopy c r

/-- The scan of step 4c: the page-0 sectors of the image region are read, and copies with a good header are listed in
the order of R309. -/
def Lane.scanCopies (L : Lane) (variantS : Bool) : Lane × List Copy :=
  (List.range 128).foldl (fun (r : Lane × List Copy) b =>
    let (L, cs) := r
    let (L, _) := (L.countRead 0 b).readSector 0 b 0 0 false
    match L.copyAt variantS b with
    | some c => (L, insertCopy c cs)
    | none => (L, cs)) (L, [])

/-- The blocks in which a copy may continue after block b (R308). -/
def blocksAhead (b : Nat) : List Nat := ((List.range 8).map (b + 1 + ·)).filter (· < 128)

/-- Page 0 of block x holds page index i of a copy (R308). -/
def Nand.continues (n : Nand) (slot copy i x : Nat) : Bool :=
  match n.page 0 x 0 with
  | some y => y.kind == 0x1A && y.slot == slot && y.copy == copy && y.idx == i && y.sector 0 != .bad
  | none => false

/-- The block in which page index i of a copy continues, from block b on, within 8 blocks (R308). -/
def Nand.nextBlock (n : Nand) (slot copy i b : Nat) : Option Nat := (blocksAhead b).find? (n.continues slot copy i)

/-- The same found by reading: page 0 of each block is read until one continues the copy (R302, R308, R314). -/
def Lane.seekBlock (L : Lane) (slot copy i : Nat) : List Nat → Lane × Option Nat
  | [] => (L, none)
  | x :: r =>
    let (L, _) := (L.countRead 0 x).readSector 0 x 0 0 false
    if L.store.nand.continues slot copy i x then (L, some x) else L.seekBlock slot copy i r

/-- Read n pages of a copy from page index i at block b, page p; the bytes, or the error word of the first failing
sector (R308, R309). -/
def Lane.readCopyPages (L : Lane) (c : Copy) (acc : List (List Byte)) : Nat → Nat → Nat → Nat → Lane × Except Nat (List Byte)
  | 0, _, _, _ => (L, .ok acc.reverse.flatten)
  | n + 1, i, b, p =>
    let (L, at?) : Lane × Option (Nat × Nat) :=
      if p < L.store.nand.ppb then (L, some (b, p))
      else let (L, x) := L.seekBlock c.slot c.copy i (blocksAhead b); (L, x.map fun x => (x, 0))
    match at? with
    | none => (L, .error (errWord 0 0 0 c.block 0))
    | some (b, p) =>
      let L := L.countRead 0 b
      let (L, r) := (List.range L.store.nand.pageK).foldl (fun (q : Lane × Except Nat (List (List Byte))) k =>
        match q.2 with
        | .error _ => q
        | .ok ds =>
          match q.1.readSector 0 b p k false with
          | (L, .ok d _) => (L, .ok (d :: ds))
          | (L, _) => (L, .error (errWord 0x3F k 0 b p))) (L, .ok [])
      match r with
      | .error w => (L, .error w)
      | .ok ds => L.readCopyPages c (ds.reverse.flatten :: acc) n (i + 1) b (p + 1)

/-- Pages of an image of n bytes. -/
def Nand.pagesFor (n : Nand) (len : Nat) : Nat := (len + n.pageBytes - 1) / n.pageBytes

/-- Read and check a whole copy (R309); on failure IMAGE_COPY is raised with the first failing sector, else page 0. -/
def Lane.validateCopy (L : Lane) (c : Copy) : Lane × Option (Image × List Byte) :=
  let (L, r) := L.readCopyPages c [] (L.store.nand.pagesFor c.head.length) 0 c.block 0
  let bad := fun (L : Lane) (w : Nat) =>
    (((L.setReg Reg.cfgLasterr (BitVec.ofNat 32 w)).event Reg.cfgEvent 2).raise .cfgImageCopy 0 w, none)
  match r with
  | .error w => bad L w
  | .ok bs =>
    let bs := bs.take c.head.length
    match L.checkImage bs with
    | .ok i => (L, some (i, bs))
    | .error _ => bad L (errWord 0 0 0 c.block 0)

/-- select_image (R309) over the candidates in order. -/
def Lane.selectImage (L : Lane) : List Copy → Lane × Option (Copy × Image)
  | [] => (L, none)
  | c :: cs =>
    let (L, r) := L.validateCopy c
    match r with
    | some (i, _) => (L, some (c, i))
    | none => (L.setBit Reg.cfgBoot (16 + 3 * c.slot + c.copy) true).selectImage cs

/-! ### Writing image copies (R308, R310, R315) -/

/-- The blocks whose factory marker, on the first or last page, is not 0xFF (R300, R303). -/
def Nand.marked (n : Nand) : List Nat :=
  ((n.pages.filter fun e => e.2.marker != 0xFF && (e.1 % 512 == 0 || e.1 % 512 + 1 == n.ppb)).map fun e => e.1 / 512).eraseDups

/-- The bad-block table, with its length in CFG_NAND_BLK (R303, R318). -/
def Lane.setBad (L : Lane) (bs : List Nat) : Lane :=
  (L.storeUpd fun s => { s with bad := bs }).setFld Reg.cfgNandBlk 16 16 bs.length

/-- The store is first formatted: its bad-block table is built from the factory markers (R303). -/
def Lane.format (L : Lane) : Lane :=
  if L.store.formatted then L
  else (L.setBad (L.store.bad ++ L.store.nand.marked).eraseDups).storeUpd fun s => { s with formatted := true }

/-- The block is in the bad-block table. -/
def Lane.badBlock (L : Lane) (u b : Nat) : Bool := L.store.bad.contains (u * 4096 + b)

/-- Blocks of the image region that hold no written page and are good. -/
def Lane.freeBlocks (L : Lane) : List Nat :=
  (List.range 128).filter fun b => !L.badBlock 0 b && !(L.store.nand.pages.any fun e => e.1 / 512 == b)

/-- The blocks that a copy fills from block b on, k more after it: each the next free one within 8 that a reader of the copy
will find there (R308); none where there is no such block. -/
def Lane.runFrom (L : Lane) (slot copy : Nat) (free : List Nat) : Nat → Nat → Nat → Option (List Nat)
  | 0, _, b => some [b]
  | k + 1, i, b =>
    let n := L.store.nand
    match free.find? fun x => decide (b < x ∧ x ≤ b + 8) with
    | none => none
    | some x =>
      if (n.nextBlock slot copy (i * n.ppb) b).all (fun y => decide (x < y)) then
        (L.runFrom slot copy free k (i + 1) x).map (b :: ·)
      else none

/-- Bytes in sectors of 1,024, the last padded with zeros. -/
def sectorsOf (bs : List Byte) (n : Nat) : List NandSector :=
  (List.range n).map fun k =>
    let d := (bs.drop (1024 * k)).take 1024
    { data := d ++ List.replicate (1024 - d.length) 0 }

/-- The free good blocks that a copy of an image of len bytes takes, from the lowest start that serves (R308). -/
def Lane.copyRun (L : Lane) (slot copy len : Nat) : Option (List Nat) :=
  let f := L.freeBlocks
  f.findSome? (L.runFrom slot copy f ((L.store.nand.pagesFor len + L.store.nand.ppb - 1) / L.store.nand.ppb - 1) 1)

/-- A program or an erase in a block fails (R303): the block joins the bad-block table and its page 0 marker is written 0x00. -/
def Lane.failBlock (L : Lane) (u b : Nat) : Lane :=
  let x := (L.store.nand.page u b 0).getD { kind := 0xFF, slot := 0xF, copy := 0xF, idx := 0xFFFF, sectors := [] }
  (L.nandUpd fun n => n.program u b 0 { x with marker := 0 }).setBad (L.store.bad ++ [u * 4096 + b]).eraseDups

/-- PAGE PROGRAM of an erased page, and whether it succeeded (R298, R303). -/
def Lane.programPage (L : Lane) (u b p : Nat) (x : NandPage) : Lane × Bool :=
  if L.store.nand.worn.contains (u * 4096 + b) then (L.failBlock u b, false) else (L.nandUpd fun n => n.program u b p x, true)

/-- BLOCK ERASE, and whether it succeeded (R298, R303); the read count of a block of the image region starts again (R314). -/
def Lane.eraseBlock (L : Lane) (u b : Nat) : Lane × Bool :=
  if L.store.nand.worn.contains (u * 4096 + b) then (L.failBlock u b, false)
  else
    let L := L.nandUpd fun n => n.erase u b
    (if u = 0 then L.storeUpd fun s => { s with reads := vmod s.reads b fun _ => 0 } else L, true)

/-- Erase blocks of the image region. -/
def Lane.eraseBlocks (L : Lane) (bs : List Nat) : Lane := bs.foldl (fun L b => (L.eraseBlock 0 b).1) L

/-- Page i of a copy of an image (R300, R308). -/
def Nand.copyPage (n : Nand) (slot copy : Nat) (bs : List Byte) (i : Nat) : NandPage :=
  { kind := 0x1A, slot := slot, copy := copy, idx := i, sectors := sectorsOf (bs.drop (i * n.pageBytes)) n.pageK }

/-- A program that is cut short leaves a page whose sectors cannot be read (R301, R403). -/
def NandPage.torn (x : NandPage) : NandPage := { x with sectors := x.sectors.map fun s => { s with flips := List.range 41 } }

/-- How the writing of a copy ends early: the program of a page fails, or is cut short by a reset of the port (R303, R403). -/
inductive Cut where
  | fails | torn
deriving DecidableEq, Repr

/-- Program the pages of a copy in the blocks of its run; after `cut` pages the next one ends as told. Whether all were written
(R303, R308, R403). -/
def Lane.writePages (L : Lane) (slot copy : Nat) (bs : List Byte) (run : List Nat) (how : Cut) : Option Nat → List Nat → Lane × Bool
  | _, [] => (L, true)
  | cut, i :: is =>
    let n := L.store.nand
    let b := run.getD (i / n.ppb) 0
    if cut = some 0 then
      (if how == .fails then L.failBlock 0 b else L.nandUpd fun n => n.program 0 b (i % n.ppb) (n.copyPage slot copy bs i).torn, false)
    else match L.programPage 0 b (i % n.ppb) (n.copyPage slot copy bs i) with
      | (L, true) => L.writePages slot copy bs run how (cut.map (· - 1)) is
      | (L, false) => (L, false)

/-- How the writing of a copy ended. -/
inductive CopyEnd where
  /-- Every page was written and read back as written. -/
  | done
  /-- There are no free blocks for it. -/
  | noRoom
  /-- A page failed, in one of the blocks taken. -/
  | failed (run : List Nat)
deriving DecidableEq, Repr

/-- Write a copy of an image into free good blocks, and read it back (R308, R310, R315). -/
def Lane.writeCopy (L : Lane) (slot copy : Nat) (bs : List Byte) (how : Cut) (cut : Option Nat) : Lane × CopyEnd :=
  let L := L.format
  let k := L.store.nand.pagesFor bs.length
  match L.copyRun slot copy bs.length with
  | none => (L, .noRoom)
  | some run =>
    match L.writePages slot copy bs run how cut (List.range k) with
    | (L, false) => (L, .failed run)
    | (L, true) =>
      match L.readCopyPages ⟨slot, copy, run.headD 0, imgHead bs⟩ [] k 0 (run.headD 0) 0 with
      | (L, .ok ds) => (L, if ds.take bs.length == bs then .done else .failed run)
      | (L, .error _) => (L, .failed run)

/-! ### The journal (R311 to R313) -/

/-- The bytes of a record: head, payload and CRC-32C (R311). -/
def JRec.bytes (r : JRec) : List Byte :=
  let b := leBytes r.typ 1 ++ leBytes r.payload.length 1 ++ leBytes 0 2 ++ leBytes r.rseq 4 ++ leBytes r.time.toNat 4
    ++ (r.payload.map fun w => leBytes w.toNat 4).flatten
  b ++ leBytes (crc32c b).toNat 4

/-- The bytes of a journal page: its head and records (R311). -/
def JPage.bytes (p : JPage) : List Byte :=
  leBytes 0x4C524A5A 4 ++ leBytes p.pseq 4 ++ leBytes p.boot 4 ++ leBytes p.recs.length 2 ++ leBytes 0 2
    ++ (p.recs.map JRec.bytes).flatten

/-- The records of a page, those with a bad CRC skipped (R311). -/
def parseRecs : Nat → List Byte → List JRec
  | 0, _ => []
  | k + 1, bs =>
    let n := fieldAt bs 1 1
    let b := bs.take (12 + 4 * n)
    let rest := parseRecs k (bs.drop (16 + 4 * n))
    if fieldAt bs (12 + 4 * n) 4 == (crc32c b).toNat && b.length == 12 + 4 * n then
      { typ := fieldAt bs 0 1, rseq := fieldAt bs 4 4, time := BitVec.ofNat 32 (fieldAt bs 8 4), payload := payloadWords (b.drop 12) } :: rest
    else rest

/-- What a journal page holds, as far as its sectors can be read; none without a readable head (R300, R311). -/
def NandPage.journal (x : NandPage) (S : Nat) : Option JPage :=
  if x.kind != 0x1B then none
  else match x.sector 0 with
    | .ok d _ =>
      let bs := d ++ ((List.range (S - 1)).map fun k => (x.sector (k + 1)).bytes).flatten
      if fieldAt bs 0 4 == 0x4C524A5A then some ⟨fieldAt bs 4 4, fieldAt bs 8 4, parseRecs (fieldAt bs 12 2) (bs.drop 16)⟩ else none
    | _ => none

/-- Bytes that a record takes in a page (R311). -/
def JRec.size (r : JRec) : Nat := 16 + 4 * r.payload.length

/-- Records that fit one page, and the rest (R311). -/
def fitRecords (room : Nat) : List JRec → List JRec × List JRec
  | [] => ([], [])
  | r :: rs => if r.size ≤ room then let (a, b) := fitRecords (room - r.size) rs; (r :: a, b) else ([], r :: rs)

/-- The buffer holds a full page (R313): its records leave no room for the largest of them. -/
def Lane.jrnFull (L : Lane) : Bool := decide (L.store.nand.pageBytes - 16 < (L.store.buf.map JRec.size).sum + 1036)

/-- A record joins the page buffer (R311, R313). -/
def Lane.jrnAdd (L : Lane) (typ : Nat) (payload : List Word) (urgent : Bool := false) : Lane :=
  L.storeUpd fun s => { s with
    buf := s.buf ++ [{ typ := typ, rseq := s.rseq, time := BitVec.ofNat 32 (L.time / 2 ^ 16), payload := payload.take 255 }]
    bufAt := if s.buf.isEmpty then L.time else s.bufAt
    rseq := s.rseq + 1, urgent := s.urgent || urgent }

/-- Number of pages in the ring (R303). -/
def Nand.ring (n : Nand) : Nat := (if n.lun2 then 1024 else 512) * n.ppb

/-- Unit, block and page of a ring position (R303). -/
def Nand.ringAt (n : Nand) (pos : Nat) : Nat × Nat × Nat :=
  let i := pos / n.ppb
  if i < 512 then (0, 128 + i, pos % n.ppb) else (1, i - 512, pos % n.ppb)

/-- LANE_TIME in an hour. -/
def hourTclk : Nat := 3600 * 400000000

/-- Those of the times that lie within the last hour (R313). -/
def lastHour (now : Nat) (ts : List Nat) : List Nat := ts.filter fun t => decide (now < t + hourTclk)

/-- JOURNAL is raised once in an hour for a dropped record (R313). -/
def Lane.jrnLost (L : Lane) : Lane :=
  if L.store.lostAt.any fun t => decide (L.time < t + hourTclk) then L
  else ((L.storeUpd fun s => { s with lostAt := some L.time }).event Reg.cfgEvent 4).raise .cfgJournal 0

/-- The next ring position at or after pos whose block is good (R312). -/
def Lane.ringGood (L : Lane) (pos : Nat) : Nat → Option Nat
  | 0 => none
  | fuel + 1 =>
    let n := L.store.nand
    let (u, b, _) := n.ringAt pos
    if L.badBlock u b then L.ringGood ((pos / n.ppb + 1) * n.ppb % n.ring) fuel else some pos

/-- JOURNAL with the place of a page whose program failed (R303, R313). -/
def Lane.jrnFailed (L : Lane) (u b p : Nat) : Lane := (L.event Reg.cfgEvent 4).raise .cfgJournal 0 (errWord 0 0 u b p)

/-- Program one journal page at the head: a block is erased before its first page, one that fails is left for the next one, and a
failed program raises JOURNAL (R303, R311 to R313). With `fails` the first program fails. -/
def Lane.jrnProgram (L : Lane) (rs : List JRec) (fails : Bool) : Nat → Lane
  | 0 => L.jrnLost
  | fuel + 1 =>
    match L.ringGood L.store.head 1024 with
    | none => L.jrnLost
    | some pos =>
      let n := L.store.nand
      let (u, b, p) := n.ringAt pos
      let (L, ok) := if p = 0 then L.eraseBlock u b else (L, true)
      if !ok then L.jrnProgram rs fails fuel
      else
        let x : NandPage := { kind := 0x1B, slot := 0xF, copy := 0xF, idx := 0xFFFF
                              sectors := sectorsOf (JPage.bytes ⟨L.store.pseq, L.store.boot, rs⟩) n.pageK }
        match if fails then (L.failBlock u b, false) else L.programPage u b p x with
        | (L, false) => (L.jrnFailed u b p).jrnProgram rs false fuel
        | (L, true) =>
          let L := L.setReg Reg.cfgJrnl (BitVec.ofNat 32 L.store.pseq)
          L.storeUpd fun s => { s with pseq := s.pseq + 1, head := (pos + 1) % n.ring }

/-- A FAULT record of class CONTAINED or FATAL (R311, R313). -/
def JRec.urgent (r : JRec) : Bool := r.typ == 1 && decide (0 < (r.payload.headD 0).toNat)

/-- The page buffer is due to be written (R313). -/
def Lane.jrnDue (L : Lane) : Bool :=
  !L.store.buf.isEmpty && (L.jrnFull || L.store.urgent || decide (L.store.bufAt + 400000000 ≤ L.time))

/-- The page buffer is written within the budget (R313): 64 immediate and 3,600 buffered pages in any hour. Where no immediate
page is left its FAULT records are dropped and the others wait on; where no buffered page is left the page's records are
(DEDUCED, log entry 31). -/
def Lane.jrnWrite (L : Lane) (fails : Bool) : Lane :=
  if !L.store.found || !L.jrnDue then L
  else
    let pages := lastHour L.time L.store.pagesAt
    let urgents := lastHour L.time L.store.urgentAt
    let urg := L.store.urgent && !L.jrnFull
    if urg && decide (64 ≤ urgents.length) then
      (L.storeUpd fun s => { s with buf := s.buf.filter fun r => !r.urgent, urgent := false, urgentAt := urgents }).jrnLost
    else
      let (now, later) := fitRecords (L.store.nand.pageBytes - 16) L.store.buf
      let full := !urg && decide (3600 ≤ pages.length)
      let L := L.storeUpd fun s => { s with
        buf := later, bufAt := L.time, urgent := s.urgent && later.any JRec.urgent
        pagesAt := if urg || full then pages else L.time :: pages, urgentAt := if urg then L.time :: urgents else urgents }
      if full then L.jrnLost else L.format.jrnProgram now fails 1024

/-- MEM_REMAPi and MEM_ERASE, as a SNAPSHOT saves them (R284, R312). -/
def Lane.memMap (L : Lane) : List Word := ((List.range 16).map fun i => L.reg (Reg.memRemap i)) ++ [L.reg Reg.memErase]

/-- Blocks by unit × 4096 + block, two in a word, the lower half first; 0xFFFF fills the last word. -/
def packBlocks : List Nat → List Word
  | a :: b :: r => BitVec.ofNat 32 (b * 2 ^ 16 + a) :: packBlocks r
  | [a] => [BitVec.ofNat 32 (0xFFFF0000 + a)]
  | [] => []

/-- The blocks that such words name. -/
def unpackBlocks (ws : List Word) : List Nat := (ws.flatMap fun w => [bits w 0 16, bits w 16 16]).filter (· != 0xFFFF)

/-- Payload of a SNAPSHOT: remap entries, erasure state, patrol position, read counts of the image region, bad blocks (R311;
the order of the words and their packing are a DESIGN CHOICE, log entry 31). The 109 words that are left hold 218 blocks, more
than the 2 % of R299. -/
def Lane.snapWords (L : Lane) : List Word :=
  L.memMap ++ [BitVec.ofNat 32 L.store.patrolPos] ++ L.store.reads.toList.map (BitVec.ofNat 32 ·) ++ packBlocks (L.store.bad.take 218)

/-- A snapshot is due (R312): hourly, on a change of remap or erasure, and once after the release. -/
def Lane.snapNow (L : Lane) : Bool :=
  L.store.snapDue || L.store.snapMap != L.memMap || decide (L.store.snapAt + 3600 * 400000000 ≤ L.time)

/-- A SNAPSHOT record (R312). -/
def Lane.snapshot (L : Lane) : Lane :=
  if !L.snapNow then L
  else (L.jrnAdd 2 L.snapWords).storeUpd fun s => { s with snapDue := false, snapMap := L.memMap, snapAt := L.time }

/-- What a probe of a page-0 head of the ring finds (R312). -/
inductive Probe where
  | seq (pseq : Nat)
  | erased
  | bad
deriving DecidableEq, Repr

/-- Read the head of page 0 of ring block i. -/
def Lane.probeBlock (L : Lane) (i : Nat) : Lane × Probe :=
  let n := L.store.nand
  let (u, b, _) := n.ringAt (i * n.ppb)
  match n.page u b 0 with
  | none => (L, .erased)
  | some x =>
    if x.marker != 0xFF then (L, .bad)
    else match L.readSector u b 0 0 true with
      | (L, .ok d _) => (L, if x.kind == 0x1B && fieldAt d 0 4 == 0x4C524A5A then .seq (fieldAt d 4 4) else .bad)
      | (L, .erased) => (L, .erased)
      | (L, .bad) => (L, .bad)

/-- The first block from i on, below hi, whose page-0 head can be read: one probe more for each bad block met. -/
def Lane.probeFrom (L : Lane) (hi : Nat) : Nat → Nat → Lane × Option (Nat × Nat)
  | 0, _ => (L, none)
  | fuel + 1, i =>
    if hi ≤ i then (L, none)
    else match L.probeBlock i with
      | (L, .bad) => L.probeFrom hi fuel (i + 1)
      | (L, .erased) => (L, none)
      | (L, .seq p) => (L, some (i, p))

/-- The binary search for the step down of PSEQ (R312): the last block whose page-0 number is not below that of the first. -/
def Lane.searchHead (L : Lane) (p0 : Nat) : Nat → Nat → Nat → Lane × Nat
  | 0, lo, _ => (L, lo)
  | fuel + 1, lo, hi =>
    if hi ≤ lo + 1 then (L, lo)
    else
      let mid := (lo + hi) / 2
      match L.probeFrom hi 1024 mid with
      | (L, some (j, p)) => if p0 ≤ p then L.searchHead p0 fuel j hi else L.searchHead p0 fuel lo mid
      | (L, none) => L.searchHead p0 fuel lo mid

/-- The block of the ring that was written last: with the first block erased for its next turn, the last one. -/
def Lane.headBlock (L : Lane) : Lane × Option Nat :=
  let N := L.store.nand.ring / L.store.nand.ppb
  match L.probeFrom N N 0 with
  | (L, some (i, p)) => let (L, b) := L.searchHead p 11 i N; (L, some b)
  | (L, none) =>
    match L.probeBlock (N - 1) with
    | (L, .seq _) => (L, some (N - 1))
    | (L, _) => (L, none)

/-- The ring positions of the written pages from the end of block i backwards. -/
def Nand.pagesBack (n : Nand) (i : Nat) : List Nat :=
  let back := fun (pos : Nat) => ((i + 1) * n.ppb + n.ring - 1 - pos) % n.ring
  (n.pages.filterMap fun e =>
    let u := e.1 / 512 / 4096
    let b := e.1 / 512 % 4096
    let k := if u = 0 then b - 128 else 512 + b
    if (u = 0 ∧ 128 ≤ b ∧ b < 640) ∨ (u = 1 ∧ b < 512 ∧ n.lun2) then some (k * n.ppb + e.1 % 512) else none).foldr (insertAt back) []

/-- A record is a SNAPSHOT (R311). -/
def JRec.isSnap (r : JRec) : Bool := r.typ == 2

/-- The newest SNAPSHOT of a page, by its number (R311, R312). -/
def newestSnap (rs : List JRec) : Option JRec :=
  rs.foldl (fun m r => if r.isSnap && (m.all fun x => decide (x.rseq ≤ r.rseq)) then some r else m) none

/-- Every sector of a journal page is read (R302, R312). -/
def Lane.readJournal (L : Lane) (pos : Nat) : Lane × Option JPage :=
  let n := L.store.nand
  let (u, b, p) := n.ringAt pos
  let L := (List.range n.pageK).foldl (fun L k => (L.readSector u b p k true).1) L
  (L, (n.page u b p).bind fun x => x.journal n.pageK)

/-- The journal is read back, page by page, to the newest SNAPSHOT (R312): the pages read with their positions, oldest
first, and those that could not be read. -/
def Lane.readBack (L : Lane) (acc : List (Nat × Option JPage)) : List Nat → Lane × List (Nat × Option JPage)
  | [] => (L, acc)
  | pos :: rest =>
    let (L, j) := L.readJournal pos
    let acc := (pos, j) :: acc
    if j.any fun j => j.recs.any JRec.isSnap then (L, acc) else L.readBack acc rest

/-- The words of the newest SNAPSHOT are restored (R284, R311, R312). -/
def Lane.restoreSnap (L : Lane) (w : List Word) : Lane :=
  let g := fun i => (w[i]? ).getD (0 : Word)
  let L := (List.range 16).foldl (fun L i => L.setReg (Reg.memRemap i) (g i)) L
  let L := L.setReg Reg.memErase (g 16)
  let L := L.storeUpd fun s => { s with
    patrolPos := (g 17).toNat, reads := Vector.ofFn fun i => (g (18 + i.val)).toNat, snapMap := w.take 17 }
  L.setBad (unpackBlocks (w.drop 146))

/-- Step 4b (R284, R312): the head of the ring is found, and the newest snapshot restored. Without a valid page JOURNAL is
raised, and the bad-block table is empty (R296). -/
def Lane.openJournal (L : Lane) : Lane :=
  let n := L.store.nand
  let (L, hb) := L.headBlock
  let (L, read) := L.readBack [] (match hb with | some i => n.pagesBack i | none => [])
  let newest := read.reverse
  match newest.findSome? fun x => x.2.map fun j => (x.1, j) with
  | none =>
    let L := (L.setBad []).storeUpd fun s => { s with formatted := false, pseq := 0, head := 0, boot := 1 }
    (L.event Reg.cfgEvent 4).raise .cfgJournal 0
  | some (_, j) =>
    let lost := (newest.takeWhile fun x => x.2.isNone).length
    let top := (newest.head?.map (·.1)).getD 0
    let rseq := (read.map fun y => match y.2 with
      | some j => j.recs.foldl (fun m r => max m (r.rseq + 1)) 0
      | none => 0).foldl max 0
    let L := L.storeUpd fun s => { s with
      formatted := true, pseq := j.pseq + lost + 1, head := (top + 1) % n.ring, boot := j.boot + 1, rseq := max rseq s.rseq }
    let L := L.setReg Reg.cfgJrnl (BitVec.ofNat 32 (j.pseq + lost))
    match newest.findSome? fun x => x.2.bind fun j => newestSnap j.recs with
    | some r => L.restoreSnap r.payload
    | none => L

end Sys2Proof.Machine
end

