-- ==== Sys2Proof/Machine/JobCore.lean ====
section
/-! DEFINITION. What the service core does beside the start: whole-array scrub passes, image repair, the patrol, image
installs and run records (13_memory.md R288, 14_start_up.md R310, R311, R314, R315). -/

namespace Sys2Proof.Machine

/-! ### Scrub passes of the service core (R288) -/

/-- The service core starts a pass over the whole of array k. -/
def Lane.coreScrub (L : Lane) (k : Nat) : Lane :=
  let a := arrayBase k
  let b := arrayBase k + arraySize k - 16
  let L := ((L.setReg Reg.memScrubStart (BitVec.ofNat 32 a)).setReg Reg.memScrubEnd (BitVec.ofNat 32 b)).scrubStart
  { L with mem := { L.mem with scrub := L.mem.scrub.map fun p => { p with core := some k } } }

/-- The summary of a pass as the journal keeps it (R288, R311). -/
def Lane.scrubWords (L : Lane) : List Word :=
  ([Reg.memScrubStart, Reg.memScrubEnd, Reg.memScrubRead, Reg.memScrubCorr, Reg.memScrubUnc, Reg.memScrubFirst,
    Reg.memScrubTime] ++ (List.range 19).map Reg.memScrubHist).map L.reg

/-- After a change of the scrubber: an ended pass of the service core is journaled, and with `next` the pass over the next
array starts (R288). -/
def Lane.coreScrubNext (L : Lane) (was : Option Scrub) (next : Bool) : Lane :=
  match was, L.mem.scrub with
  | some p, none =>
    match p.core with
    | some k =>
      let L := L.jrnAdd 3 L.scrubWords
      if next && decide (k < 2) then L.coreScrub (k + 1) else L
    | none => L
  | _, _ => L

/-- The scrubber reads one word (R286 to R288). -/
def Lane.scrubStep (L : Lane) : Lane := L.scrubWord.coreScrubNext L.mem.scrub true

/-- A write to MEM_SCRUB_CTRL (R286, R288). -/
def Lane.scrubWrite (L : Lane) (v : Word) : Lane := (L.writeScrubCtrl v).coreScrubNext L.mem.scrub false

/-- The interval of whole-array passes has come (R288, R318 CFG_STORE.SCRUB_H). -/
def Lane.scrubInterval (L : Lane) : Lane :=
  let h := L.fld Reg.cfgStore 0 8
  if h = 0 || !L.ready || L.mem.scrub.isSome || decide (L.time < L.store.scrubAt + h * hourTclk) then L
  else (L.storeUpd fun s => { s with scrubAt := L.time }).coreScrub 0

/-! ### Copies of the image region (R308 to R310) -/

/-- The blocks of a copy that starts at b, by its chain of page indices (R308). -/
def Nand.chain (n : Nand) (slot copy i b : Nat) : Nat → List Nat
  | 0 => [b]
  | fuel + 1 =>
    match n.nextBlock slot copy ((i + 1) * n.ppb) b with
    | some x => b :: n.chain slot copy (i + 1) x fuel
    | none => [b]

/-- Starts of copies by the spare bytes of their first page: block, slot and copy (R300, R308). -/
def Nand.starts (n : Nand) : List (Nat × Nat × Nat) :=
  (List.range 128).filterMap fun b =>
    match n.page 0 b 0 with
    | some x => if x.kind == 0x1A && x.idx == 0 && decide (x.slot < 2) && decide (x.copy < 3) then some (b, x.slot, x.copy) else none
    | none => none

/-- Rewrite a copy from good bytes into free good blocks, and read it back (R310). Where a page fails, what was written of the copy
is erased again and the copy starts over in the free blocks that are left (DESIGN CHOICE, log entry 51). Whether it is
written. -/
def Lane.rewriteCopy (L : Lane) (slot copy : Nat) (bs : List Byte) : Nat → Lane × Bool
  | 0 => (L, false)
  | fuel + 1 =>
    match L.writeCopy slot copy bs .fails none with
    | (L, .done) => (L, true)
    | (L, .noRoom) => (L, false)
    | (L, .failed run) => (L.eraseBlocks (run.filter fun b => !L.badBlock 0 b)).rewriteCopy slot copy bs fuel

/-- The image of a copy that starts at block b, if it passes R309. -/
def Lane.copyImage (L : Lane) (variantS : Bool) (b : Nat) : Lane × Option (Image × List Byte) :=
  match L.copyAt variantS b with
  | some c => L.validateCopy c
  | none => (L, none)

/-- The copies of the running slot that start at the given blocks are brought to the running image (R310): each that fails, or
holds another SEQ, is rewritten into free good blocks and read back; `old` are the blocks of those rewritten, which are erased
once all are (as the worked example of 14_start_up.md shows), or earlier where there is no room. -/
def Lane.repairCopies (L : Lane) (variantS : Bool) (slot : Nat) (img : Image) (bs : List Byte) (old : List Nat) :
    List (Nat × Nat × Nat) → Lane
  | [] => L.eraseBlocks old
  | x :: xs =>
    let (L, r) := L.copyImage variantS x.1
    if r.any fun i => i.1.head.seq == img.head.seq then L.repairCopies variantS slot img bs old xs
    else
      let mine := L.store.nand.chain slot x.2.2 0 x.1 128
      let (L, done, old) := match L.rewriteCopy slot x.2.2 bs 128 with
        | (L, true) => (L, true, old)
        | (L, false) => let (L, d) := (L.eraseBlocks old).rewriteCopy slot x.2.2 bs 128; (L, d, [])
      if done then
        ((L.event Reg.cfgEvent 6).jrnAdd 4 [2, BitVec.ofNat 32 (slot * 16 + x.2.2), 1]).repairCopies variantS slot img bs (old ++ mine) xs
      else L.repairCopies variantS slot img bs old xs

/-- Every copy of the running slot but the selected one (R310). -/
def Lane.repairSlot (L : Lane) (variantS : Bool) (slot sel : Nat) (img : Image) (bs : List Byte) : Lane :=
  L.repairCopies variantS slot img bs [] (L.store.nand.starts.filter fun x => x.2.1 == slot && x.1 != sel)

/-- In the other slot the copies of the best valid image stay and the rest are erased (R310). -/
def Lane.tidySlot (L : Lane) (variantS : Bool) (slot : Nat) : Lane :=
  let cs := (L.scanCopies variantS).2.filter fun c => c.slot == slot
  let (L, good) := cs.foldl (fun (q : Lane × List (Nat × Image)) c =>
    let (L, r) := q.1.validateCopy c
    (L, match r with | some (i, _) => q.2 ++ [(c.block, i)] | none => q.2)) (L, [])
  let keep : List Nat := match good with
    | [] => []
    | (_, i) :: _ => (good.filter fun (g : Nat × Image) => g.2.head.seq == i.head.seq && g.2.digest == i.digest).map fun (g : Nat × Image) => g.1
  L.store.nand.starts.foldl (fun L x =>
    if x.2.1 != slot || keep.contains x.1 then L else L.eraseBlocks (L.store.nand.chain slot x.2.2 0 x.1 128)) L

/-- The service core repairs the selected slot after READY (R310), and journals the selection. -/
def Lane.imageRepair (L : Lane) (variantS : Bool) : Lane :=
  let L := L.readTriple 0
  if !L.ready || !L.store.found || L.store.repaired || L.store.install.isSome then L
  else
    match L.store.image with
    | none => L
    | some b =>
      let L := L.storeUpd fun s => { s with repaired := true }
      let (L, r) := L.copyImage variantS b
      match r with
      | none => L
      | some (i, bs) =>
        let slot := L.fld Reg.cfgBoot 15 1
        (L.repairSlot variantS slot b i bs).tidySlot variantS (1 - slot)

/-! ### Patrol (R314) -/

/-- Read every sector of a page; whether some sector shows PATROL_THR corrected bits or more. -/
def Lane.patrolPage (L : Lane) (u b p : Nat) : Lane × Bool :=
  let thr := eccField (L.fld Reg.cfgStore 20 6)
  let L := if b < 128 then L.countRead u b else L
  (List.range L.store.nand.pageK).foldl (fun (q : Lane × Bool) k =>
    match q.1.readSector u b p k true with
    | (L, .ok _ e) => (L, q.2 || decide (thr ≤ e))
    | (L, _) => (L, q.2)) (L, false)

/-- A journal block is refreshed: its good records are appended at the head as they were (R314). Behind a copy of an older
SNAPSHOT the present one is written again (DESIGN CHOICE, log entry 101). -/
def Lane.refreshJournal (L : Lane) (u b : Nat) : Lane :=
  let rs := (L.store.nand.pages.filterMap fun e =>
    if e.1 / 512 = u * 4096 + b then (e.2.journal L.store.nand.pageK).map (·.recs) else none).flatten
  (L.storeUpd fun s => { s with
    buf := s.buf ++ rs, bufAt := if s.buf.isEmpty then L.time else s.bufAt
    snapDue := s.snapDue || rs.any JRec.isSnap }).event Reg.cfgEvent 5

/-- An image copy that holds a block is refreshed by rewriting it (R310, R314). -/
def Lane.refreshImage (L : Lane) (variantS : Bool) (b : Nat) : Lane :=
  match L.store.nand.starts.find? fun x => (L.store.nand.chain x.2.1 x.2.2 0 x.1 128).contains b with
  | none => L
  | some x =>
    let (L, r) := L.copyImage variantS x.1
    match r with
    | none => L
    | some (_, bs) =>
      let old := L.store.nand.chain x.2.1 x.2.2 0 x.1 128
      match L.rewriteCopy x.2.1 x.2.2 bs 128 with
      | (L, true) => (L.eraseBlocks old).event Reg.cfgEvent 5
      | (L, false) => L

/-- A block is refreshed (R314). -/
def Lane.refresh (L : Lane) (variantS : Bool) (b : Nat) : Lane :=
  if b < 128 then L.refreshImage variantS b else L.refreshJournal (b / 4096) (b % 4096)

/-- The blocks of the image region whose read count has reached RD_LIMIT (R314, R318). -/
def Lane.muchRead (L : Lane) : List Nat :=
  let lim := max 1 (L.fld Reg.cfgRdlim 0 16) * 1000
  (List.range 128).filter fun b => decide (lim ≤ vget L.store.reads b 0)

/-- The patrol (R314): every PATROL_H hours each written page is read, from the patrol position on, worn blocks are refreshed, and
a summary journaled; much-read blocks are refreshed at any time. -/
def Lane.patrol (L : Lane) (variantS : Bool) : Lane :=
  let h := L.fld Reg.cfgStore 8 12
  if !L.ready || !L.store.found || L.store.install.isSome then L
  else if h = 0 || decide (L.time < L.store.patrolAt + h * hourTclk) then L.muchRead.foldl (fun L b => L.refresh variantS b) L
  else
    let pages := (L.store.nand.pages.map (·.1)).filter (L.store.patrolPos ≤ ·)
    let (L, worn) := pages.foldl (fun (q : Lane × List Nat) k =>
      let (L, w) := q.1.patrolPage (k / 512 / 4096) (k / 512 % 4096) (k % 512)
      (L, if w && !q.2.contains (k / 512) then q.2 ++ [k / 512] else q.2)) (L, [])
    let all := worn ++ L.muchRead.filter fun b => !worn.contains b
    let L := all.foldl (fun L b => L.refresh variantS b) L
    (L.jrnAdd 6 [BitVec.ofNat 32 pages.length, BitVec.ofNat 32 all.length]).storeUpd fun s => { s with
      patrolAt := L.time, patrolPos := 0 }

/-! ### Installs (R315) -/

/-- The service core reads a poisoned word (R280). -/
def Lane.corePoison (L : Lane) (a : Nat) : Lane := L.raiseBy .memCorePoison 0x3FFF a 0 1

/-- The address of the first poisoned word of a byte range, as a read of it finds it (R280). -/
def Lane.firstPoison (L : Lane) (a n : Nat) : Nat :=
  ((wordsOf a n).find? fun A =>
    let c := chunkOf A a n
    (L.readMerged A (BitVec.ofNat 16 ((2 ^ c.2 - 1) * 2 ^ c.1)) 0 1).2.2).getD a

/-- A write to CFG_INSTALL (R315, R318): with the key and no install running, the staged bytes are taken and the checks
begin. -/
def Lane.writeInstall (L : Lane) (v : Word) : Lane :=
  if bits v 16 16 ≠ 0x7E18 || L.bit Reg.cfgInstall 15 then L
  else
    let base := L.fld Reg.cfgStage 12 9 * 2 ^ 12
    let n := min (L.fld Reg.cfgStageLen 0 21) (2 ^ 21 - base)
    let (L, bs, bad) := L.readBytes base n 0 1
    let L := if bad then L.corePoison (L.firstPoison base n) else L
    ((L.setReg Reg.cfgInstall 0).setBit Reg.cfgInstall 15 true).storeUpd fun s => { s with install := some (if bad then [] else bs) }

/-- The checks of R309 and R315 on a staged image: RESULT of the first that fails, 1 when it passes. -/
def Lane.installCheck (L : Lane) (variantS : Bool) (bs : List Byte) : Nat :=
  let h := imgHead bs
  if !L.headerOk variantS h || h.length != bs.length || h.length != L.fld Reg.cfgStageLen 0 21 then 2
  else match L.checkImage bs with
    | .error e => e
    | .ok _ => if h.seq ≤ (L.reg Reg.cfgImageSeq).toNat then 6 else if !L.store.found then 8 else 1

/-- Write the copies listed of an image, reading each back; the writing ends early at page k of them, counted over all copies.
The RESULT: 1 done, 7 no free blocks, 8 NAND failure (R315, R318). -/
def Lane.writeCopies (L : Lane) (slot : Nat) (bs : List Byte) (how : Cut) (cut : Option Nat) : List Nat → Lane × Nat
  | [] => (L, 1)
  | i :: is =>
    let n := L.store.nand.pagesFor bs.length
    let here := match cut with | some k => if k < n then some k else none | none => none
    match L.writeCopy slot i bs how here with
    | (L, .done) => L.writeCopies slot bs how (cut.map (· - n)) is
    | (L, .noRoom) => (L, 7)
    | (L, .failed _) => (L, 8)

/-- The install ends (R315, R318): three copies in the other slot, and after all three verify its older copies erased, or the
failure's result. With a `cut` the NAND fails, or is reset, at that page of the three copies, by a free value (log entry 51). -/
def Lane.installEnd (L : Lane) (variantS : Bool) (how : Cut) (cut : Option Nat) : Lane :=
  match L.store.install with
  | none => L
  | some bs =>
    let L := (L.storeUpd fun s => { s with install := none }).setBit Reg.cfgInstall 15 false
    let res := fun (L : Lane) (r : Nat) =>
      ((L.setFld Reg.cfgInstall 11 4 r).event Reg.cfgEvent (if r = 1 then 8 else 7)).jrnAdd 4 [3, 0, BitVec.ofNat 32 r]
    let L := L.readTriple 0
    let r := L.installCheck variantS bs
    if r ≠ 1 then res L r
    else
      let slot := if L.store.image.isSome then 1 - L.fld Reg.cfgBoot 15 1 else 0
      let L := L.format
      let old := (L.store.nand.starts.filter fun x => x.2.1 == slot).map fun x => L.store.nand.chain slot x.2.2 0 x.1 128
      let k := cut.map (· % max 1 (3 * L.store.nand.pagesFor bs.length))
      let (L, r) := L.writeCopies slot bs how k [0, 1, 2]
      res (if r = 1 then L.eraseBlocks old.flatten else L) r

/-- INSTALL_DONE (R315): where the NAND fails, the page at which it does is a free value (log entry 51). -/
def State.installDone (s : State) (l : LaneId) (fails : Bool) : State :=
  if !fails || (s.lane l).store.install.isNone then s.upd l fun L => L.installEnd s.variantS .fails none
  else let (w, s) := s.free; s.upd l fun L => L.installEnd s.variantS .fails (some w.toNat)

/-! ### Run records (R311) -/

/-- The hourly RUN record: running hours, cycles, guard trips per cylinder. -/
def Lane.runRecord (L : Lane) : Lane :=
  if !L.ready || decide (L.time < L.store.runAt + hourTclk) then L
  else
    (L.jrnAdd 5 ([BitVec.ofNat 32 (L.time / hourTclk), L.odo.cycle] ++ (List.range 24).map fun c =>
      BitVec.ofNat 32 (L.fld (Reg.cylStat c) 0 16))).storeUpd fun s => { s with runAt := L.time }

end Sys2Proof.Machine
end

