-- ==== Sys2Proof/Machine/TwiCore.lean ====
section
/-! DEFINITION. The two-wire bus block of a lane (19_two_wire.md), command by command and transfer by transfer; the
lines between the bytes are not modelled. -/

namespace Sys2Proof.Machine

/-- Change the two-wire block of a lane. -/
def Lane.twiUpd (L : Lane) (f : Twi → Twi) : Lane := { L with twi := f L.twi }
/-- WLEN of the command in progress. -/
def Twi.wlen (t : Twi) : Nat := bits t.cmd 8 7
/-- RLEN of the command in progress. -/
def Twi.rlen (t : Twi) : Nat := bits t.cmd 16 7

/-- A controller command ends with a cause (R387, R397). -/
def Lane.twiEnd (L : Lane) (cause : Nat) : Lane :=
  (((L.setFld Reg.twiCstat 25 4 cause).event Reg.twiEvent 0)).twiUpd fun t => { t with state := .idle, go := false, retries := 0 }

/-- A command of the controller runs (R387). -/
def Twi.runs (t : Twi) : Bool :=
  match t.state with
  | .idle => false
  | .check => t.go
  | _ => true

/-- A write to TWI_CCMD (R387): on a free bus the lines are checked before the START (R394). GO without CTL_EN is ignored as
well (DEDUCED, log entry 27). -/
def Lane.writeCcmd (L : Lane) (v : Word) : Lane :=
  let run := L.twi.runs
  let new := (L.applyCodes Reg.twiCcmd v).reg Reg.twiCcmd
  let L := L.setReg Reg.twiCcmd new
  if !v.getLsbD 31 then L
  else if run || !L.bit Reg.twiCtrl 0 || 64 < bits new 8 7 || 64 < bits new 16 7 then L.event Reg.twiEvent 5
  else
    L.twiUpd fun t => { t with
      cmd := new, retries := L.fld Reg.twiCtrl 3 3, free := false
      go := t.free && t.state == .idle, state := if t.free && t.state == .idle then .check else .waitBus }

/-- Data bytes of the command before byte index k (R387). -/
def Twi.bytesBefore (t : Twi) (k : Nat) : Nat :=
  if k = 0 then 0
  else if k ≤ t.wlen + 1 then k - 1
  else if t.wlen = 0 then k - 1
  else k - 2

/-- Store read bytes in TWI_CBUF, which holds 64, from offset 0. -/
def Lane.cbufPut (L : Lane) (bs : List Byte) : Lane :=
  ((bs.take 64).foldl (fun (r : Lane × Nat) b => (r.1.setFld (Reg.twiCbuf (r.2 / 4)) (8 * (r.2 % 4)) 8 b.toNat, r.2 + 1)) (L, 0)).1

/-- The first n bytes of TWI_CBUF. -/
def Lane.cbufGet (L : Lane) (n : Nat) : List Byte :=
  (List.range n).map fun i => BitVec.ofNat 8 (L.fld (Reg.twiCbuf (i / 4)) (8 * (i % 4)) 8)

/-- Data bytes that a command which ends so sent (R387). -/
def Twi.sentBytes (t : Twi) : TwiOutcome → Nat
  | .done _ => t.wlen
  | .nack k _ => min t.wlen (t.bytesBefore k)
  | .arbLost k _ _ => min t.wlen (t.bytesBefore k)

/-- A controller command comes to its end, or loses arbitration (R387, R389); one that stood in CHECK has passed it (log entry
27). DONE counts written and read bytes (DEDUCED, log entry 28). -/
def Lane.twiOutcome (L : Lane) (o : TwiOutcome) : Lane :=
  let t := L.twi
  if t.state != .active && !(t.state == .check && t.go) then L
  else
    let L := L.twiUpd fun t => { t with wrote := L.cbufGet (t.sentBytes o) }
    match o with
    | .done rd =>
      let L := L.cbufPut (rd.take t.rlen)
      (L.setFld Reg.twiCstat 0 8 (t.wlen + t.rlen)).twiEnd 1
    | .nack k rd =>
      let L := L.cbufPut (rd.take t.rlen)
      (((L.setFld Reg.twiCstat 8 8 k).setFld Reg.twiCstat 0 8 (t.bytesBefore k)).event Reg.twiEvent 1).twiEnd 2
    | .arbLost k b rd =>
      let L := L.cbufPut (rd.take t.rlen)
      let L := (((L.setFld Reg.twiCstat 8 8 k).setFld Reg.twiCstat 16 4 b.toNat).setFld Reg.twiCstat 0 8 (t.bytesBefore k)).event Reg.twiEvent 2
      if 0 < t.retries then L.twiUpd fun t => { t with state := .arbWait, go := false, retries := t.retries - 1 } else L.twiEnd 3

/-- After a STOP and TBUF a lost command starts again (R389). -/
def Lane.twiRetry (L : Lane) : Lane :=
  if L.twi.state == .arbWait then L.twiUpd fun t => { t with state := .active, free := false } else L

/-- The bus becomes free (R386, R394): a waiting command checks the lines before its START; a check ends with both high. -/
def Lane.twiFree (L : Lane) : Lane :=
  L.twiUpd fun t => match t.state with
    | .waitBus => { t with state := .check, go := true, free := false }
    | .check => if t.go then { t with state := .active, go := false, free := false } else { t with state := .idle, free := true }
    | .active => t
    | _ => { t with free := true }

/-- A write to TWI_CTRL (R386, R394): CTL_EN written 1 starts the check; the bus counts as busy until it is found free. -/
def Lane.writeTwiCtrl (L : Lane) (v : Word) : Lane :=
  let L := L.applyCodes Reg.twiCtrl v
  if v.getLsbD 0 && L.twi.state == .idle then L.twiUpd fun t => { t with state := .check, free := false } else L

/-- The check finds the bus stuck (R394): SCL low for STUCK_T, or SDA low after nine pulses; a command that it precedes ends
with no byte transferred. -/
def Lane.twiStuck (L : Lane) (sda : Bool) : Lane :=
  if L.twi.state != .check || !L.bit Reg.twiCtrl 0 then L
  else
    let L := L.event Reg.twiEvent 3
    let L := if L.twi.go then ((L.setFld Reg.twiCstat 0 8 0).twiUpd fun t => { t with wrote := [] }).twiEnd 4
      else L.twiUpd fun t => { t with state := .idle, free := false }
    if sda then L.raise .twiBusStuck 0 else L

/-- The bytes that a command had transferred when the timeout ended it, no more than it moves in all, and those of them that it
had read: free values, for the row does not bring them (log entry 110). -/
def State.twiMoved (s : State) (l : LaneId) : Nat × List Byte × State :=
  let t := (s.lane l).twi
  let (w, s) := s.free
  let n := if t.state == .active || (t.state == .check && t.go) then w.toNat % (t.wlen + t.rlen + 1) else 0
  (List.range (n - t.wlen)).foldl (fun (r : Nat × List Byte × State) _ =>
    let (w, s) := r.2.2.free
    (r.1, r.2.1 ++ [w.setWidth 8], s)) (n, [], s)

/-- A low period of SCL exceeds TO_LOW (R395): the controller ends its command, the target discards a page not yet written;
each where the arrival is not in time. -/
def State.twiTimeout (s : State) (l : LaneId) (ctl tgt : Bool) : State :=
  if !(s.lane l).bit Reg.twiCtrl 2 then s
  else
    let s := if ctl && (s.lane l).twi.runs then
        let (n, rd, s) := s.twiMoved l
        s.upd l fun L =>
          let sent := L.cbufGet (min L.twi.wlen n)
          let L := (L.cbufPut rd).setFld Reg.twiCstat 0 8 n
          (((L.twiUpd fun t => { t with wrote := sent }).event Reg.twiEvent 4).twiEnd 5).raise .twiTwiTimeout 0
      else s
    s.upd l fun L =>
      if tgt && L.bit Reg.twiCtrl 1 && !(L.twi.heardAt.any fun t => t / 4 == L.time / 4) then
        (L.event Reg.twiEvent 11).raise .twiTwiTimeout 0
      else L

/-! ### Target (R390 to R392) -/

/-- MATCH of an address: 1 A0, 2 A1 or masked (R386, R390, R397). -/
def Lane.twiMatch (L : Lane) (addr : Nat) : Option Nat :=
  let a0 := L.fld Reg.twiTaddr 0 7
  let a1 := L.fld Reg.twiTaddr 8 7
  if !L.bit Reg.twiCtrl 1 || addr ≤ 7 || 0x78 ≤ addr then none
  else if addr = a0 then some 1
  else if L.bit Reg.twiTaddr 31 then
    (if (BitVec.ofNat 7 addr ^^^ BitVec.ofNat 7 a0) &&& ~~~(BitVec.ofNat 7 a1) = 0 then some 2 else none)
  else if addr = a1 then some 2 else none

/-- Size of the target's window (R390). -/
def Lane.twiSize (L : Lane) : Nat := 2 ^ (8 + min (L.fld Reg.twiTwin 24 4) 8)
/-- Base of the target's window in the main SRAM (R390). -/
def Lane.twiBase (L : Lane) : Nat := (L.reg Reg.twiTwin).toNat % 2 ^ 21 / L.twiSize * L.twiSize

/-- The page buffer after data bytes from the pointer: offset in the page and byte, the later byte of an offset last
(R391). -/
def pageBytes (ptr : Nat) (bs : List Byte) : List (Nat × Byte) :=
  (bs.zipIdx 0).map fun p => ((ptr + p.2) % 64, p.1)

/-- A transfer of another controller is over (R386, R395): the bus stays busy until TBUF after its STOP. -/
def Lane.twiHeard (L : Lane) : Lane := L.twiUpd fun t => { t with free := false, heardAt := some L.time }

/-- A write transfer to the target (R391). -/
def Lane.targetWrite (L : Lane) (addr : Nat) (bs : List Byte) : Lane :=
  let L := L.twiHeard
  match L.twiMatch addr with
  | none => L
  | some m =>
    let L := L.setFld Reg.twiTstat 30 2 m
    match bs with
    | h :: lo :: data =>
      let p := (h.toNat * 256 + lo.toNat) % L.twiSize
      if data.isEmpty then L.twiUpd fun t => { t with ptr := p }
      else if L.bit Reg.twiTwin 31 then (L.twiUpd fun t => { t with ptr := p }).event Reg.twiEvent 10
      else
        let page := p / 64 * 64
        let L := (pageBytes p data).foldl (fun L x => L.sramWrite (L.twiBase + page + x.1) [x.2] 0x3F) L
        (L.twiUpd fun t => { t with ptr := page + (p + data.length) % 64 }).event Reg.twiEvent 8
    | _ => L

/-- The bytes of a read transfer, at most a word of the array at a time, those of a poisoned word as 0xFF: whether one was
met, the pointer after it, and the bytes (R392). -/
def Lane.targetFetch (L : Lane) (p n : Nat) : Nat → Lane × Bool × Nat × List Byte
  | 0 => (L, false, p, [])
  | fuel + 1 =>
    if n = 0 then (L, false, p, [])
    else
      let k := min n (16 - p % 16)
      let (L, bs, bad) := L.readBytes (L.twiBase + p) k 0x3F 1
      let r := L.targetFetch ((p + k) % L.twiSize) (n - k) fuel
      (r.1, bad || r.2.1, r.2.2.1, (if bad then List.replicate k 0xFF else bs) ++ r.2.2.2)

/-- A read transfer from the target (R392). -/
def Lane.targetRead (L : Lane) (addr n : Nat) : Lane :=
  let L := L.twiHeard
  match L.twiMatch addr with
  | none => L
  | some m =>
    let L := L.setFld Reg.twiTstat 30 2 m
    let (L, bad, p, bs) := L.targetFetch (L.twi.ptr % L.twiSize) n n
    let L := if bad then L.event Reg.twiEvent 12 else L
    (L.twiUpd fun t => { t with ptr := p, sent := bs }).event Reg.twiEvent 9

/-! ### Protected writes and reset (R396) -/

/-- A write to TWI_TIM0, TIM1, TOUT, TADDR or TWIN (R396). -/
def Lane.writeTwiCfg (L : Lane) (a : Nat) (v : Word) : Lane :=
  if L.bit Reg.twiCtrl 0 || L.bit Reg.twiCtrl 1 then L.event Reg.twiEvent 5 else L.applyCodes a v

/-- Code of a controller state (R397). -/
def TwiState.code : TwiState → Nat
  | .idle => 0 | .check => 1 | .waitBus => 2 | .active => 3 | .arbWait => 4

/-- TWI_CSTAT as it reads (R397). -/
def Lane.twiCstat (L : Lane) : Word := setBits (L.reg Reg.twiCstat) 29 3 L.twi.state.code
/-- TWI_TSTAT as it reads (R397). -/
def Lane.twiTstat (L : Lane) : Word := setBits (L.reg Reg.twiTstat) 0 16 L.twi.ptr

/-- Per-function reset of the block (R396); TWI_CBUF keeps its bytes (R23), and CAUSE shows ABORT for a command that ran
(DEDUCED, log entry 26). -/
def Lane.twiReset (L : Lane) : Lane :=
  let run := L.twi.runs
  let L := (L.resetRange Reg.twiCtrl (Reg.twiCtrl + 0x28)).twiUpd fun _ => { free := false }
  if run then L.setFld Reg.twiCstat 25 4 6 else L

end Sys2Proof.Machine
end

