-- ==== Sys2Proof/Machine/FltCore.lean ====
section
/-! DEFINITION. The fault collector of a lane, its reactions, safe state, the background self-test, the status pins, and
per-function reset (12_faults.md R255 to R272, 20_clocks_power.md R402, R403). -/

namespace Sys2Proof.Machine

/-! ### Per-function reset (R402) -/

/-- FRST register k: channels 0 to 5, gates 6 and 7, acquisition 8, the other functions 9. -/
def frstReg (k : Nat) : Nat := 0x10110100 + 4 * k

/-- Bits of FRST register k that name a function (R411). -/
def frstMask (k : Nat) : Word := if k = 7 then 0xFFFF else if k = 9 then 0x0FFFFFFF else 0xFFFFFFFF

/-- The register ranges [lo, hi) of the function at bit b of FRST register k of lane l (R402);
TWI_CBUF is a buffer and keeps its bytes (R23). -/
def frstRanges (l : LaneId) (k b : Nat) : List (Nat × Nat) :=
  let n := 32 * k + b
  if k < 6 then [(Reg.chnCtrl n, Reg.chnCtrl n + 0x40), (Reg.lndCtrl n, Reg.lndCtrl n + 16), (Reg.lndLast n, Reg.lndLast n + 16)]
  else if k < 8 then let g := 32 * (k - 6) + b; [(Reg.ignCtrl g, Reg.ignCtrl g + 32)]
  else if k = 8 then
    if b < 24 then [(Reg.acCtrl b, Reg.acCtrl b + 0x40)] else [(Reg.scCtrl (b - 24), Reg.scCtrl (b - 24) + 0x100)]
  else if b < 16 then [(Reg.dmaCtrl b, Reg.dmaCtrl b + 0x40)]
  else if b < 24 then
    let e := b - 16
    [(Reg.bywCtrl e, Reg.bywCtrl e + 0x40), (Reg.bywRxwin e 0, Reg.bywRxwin e 0 + 32)]
  else if b < 26 then let p := b - 24 + 2 * laneNum l; [(Reg.hstStat p, Reg.hstStat p + 0x100)]
  else if b = 26 then [(Reg.twiCtrl, Reg.twiCtrl + 0x100)]
  else [(Reg.cfgNand, Reg.cfgNand + 8)]

/-- The FRST register and bit of the function that an address belongs to. -/
def frstOfAddr (l : LaneId) (a : Nat) : Option (Nat × Nat) :=
  let o := a % 0x10000
  match a / 0x10000 with
  | 0x1002 => if o < 0x3000 then some (o / 64 / 32, o / 64 % 32) else none
  | 0x1005 => if o % 0x1000 < 0xC00 ∧ o < 0x2000 then some (o % 0x1000 / 16 / 32, o % 0x1000 / 16 % 32) else none
  | 0x1003 => if o < 0x600 then some (6 + o / 32 / 32, o / 32 % 32) else none
  | 0x1006 =>
    if 0x400 ≤ o ∧ o < 0xA00 then some (8, (o - 0x400) / 64)
    else if 0x1000 ≤ o ∧ o < 0x1800 then some (8, 24 + (o - 0x1000) / 256) else none
  | 0x100D => if o < 0x400 then some (9, o / 64) else none
  | 0x100F =>
    if o < 0x200 then some (9, 16 + o / 64) else if 0x800 ≤ o ∧ o < 0x900 then some (9, 16 + (o - 0x800) / 32) else none
  | 0x100B =>
    let p := o / 0x100
    if p < 4 ∧ p / 2 = laneNum l then some (9, 24 + p % 2) else none
  | 0x1010 => if o < 0x100 then some (9, 26) else none
  | 0x100E => if o = 8 ∨ o = 12 then some (9, 27) else none
  | _ => none

/-- The function that an address belongs to is held in per-function reset (R402). -/
def Lane.held (L : Lane) (l : LaneId) (a : Nat) : Bool :=
  match frstOfAddr l a with
  | some (k, b) => L.bit (frstReg k) b
  | none => false

/-- Registers of a function back at their reset values, ADCa_SEQ excepted (R214, R402). -/
def Lane.frstClear (L : Lane) (l : LaneId) (k b : Nat) : Lane :=
  let seq := L.reg (Reg.acSeq b)
  let L := (frstRanges l k b).foldl (fun L r => L.resetRange r.1 r.2) L
  if k = 8 ∧ b < 24 then L.setReg (Reg.acSeq b) seq else L

/-- Channel n in per-function reset (R144, R155): in the authority lane its event ends with fast decay, and the channel goes
to OFF. -/
def State.chanReset (s : State) (l : LaneId) (n : Nat) : State :=
  if s.dieTakes (n / 16) l then
    let s := match (s.chan n).wait with
      | some w => (s.chanUpd n fun c => c.unwait s.now).startGone n w.cmd
      | none => s
    (s.endEvent n true .off).chanUpd n fun c =>
      if c.state == .decay then { c with afterDecay := .off } else { c with state := .off, idleAt := s.now }
  else s

/-- The NAND command in progress of a lane is cut short (R403): an install under way ends with a NAND failure, its program
torn at a page that is a free value (log entry 51). -/
def State.nandTear (s : State) (l : LaneId) : State :=
  if (s.lane l).nandBusy then
    let (w, s) := s.free
    s.upd l fun L => L.installEnd s.variantS .torn (some w.toNat)
  else s

/-- Per-function reset of the NAND port (R403): the controller is back in its state before discovery. -/
def State.nandReset (s : State) (l : LaneId) : State :=
  (s.nandTear l).upd l fun L => L.storeUpd fun c => { c with found := false }

/-- The function at bit b of FRST register k enters per-function reset (R402). -/
def State.frstEnter (s : State) (l : LaneId) (k b : Nat) : State :=
  let n := 32 * k + b
  let s := (frstRanges l k b).foldl (fun s r => s.abortAddr l r.1 r.2) s
  if k = 9 ∧ 24 ≤ b ∧ b < 26 then s.portReset (b - 24 + 2 * laneNum l)
  else
    let s := s.upd l fun L => L.frstClear l k b
    if k < 6 then (if n < 192 then s.chanReset l n else s)
    else if k < 8 then
      let g := 32 * (k - 6) + b
      if s.gateTakes g l then s.gateReset g else s
    else if k = 8 then s.upd l fun L => if b < 24 then L.acReset b else L.scReset (b - 24)
    else if b < 16 then s.upd l fun L => L.dmaReset b
    else if b < 24 then s.upd l fun L => L.bywReset (b - 16)
    else if b = 26 then s.upd l fun L => L.twiReset
    else s.nandReset l

/-- The functions whose bit rises enter reset. -/
def State.frstEnterAll (s : State) (l : LaneId) (k : Nat) (m : Word) : State :=
  (List.range 32).foldl (fun s b => if m.getLsbD b then s.frstEnter l k b else s) s

/-- What the dies reported of a channel or gate before its registers went to their reset values is gone from the lane's
view (R144, R402). -/
def Lane.forget (L : Lane) (l : LaneId) (now k b : Nat) : Lane :=
  match frstRanges l k b with
  | r :: _ => if k < 8 then { L with viewAt := (r.1, now) :: L.viewAt.filter fun e => e.1 != r.1 } else L
  | [] => L

/-- A function is released (R402, R403): it starts from its reset values; the store discovers its device again. -/
def Lane.frstRelease (L : Lane) (l : LaneId) (now k b : Nat) : Lane :=
  let L := (if k = 9 ∧ 24 ≤ b ∧ b < 26 then L else L.frstClear l k b).forget l now k b
  if k = 9 ∧ b < 16 then L.dchUpd b fun _ => {} else if k = 9 ∧ b = 27 then L.discover.1 else L

/-- A write to FRST register k (R402): a bit that FENCE_FUNCTION set in this cycle stays 1 (R21). -/
def State.writeFrst (s : State) (l : LaneId) (k : Nat) (v : Word) : State :=
  let L := s.lane l
  let old := L.reg (frstReg k)
  let new := (v &&& frstMask k) ||| (old &&& L.freshMask (frstReg k))
  let s := s.upd l fun L => L.setReg (frstReg k) new
  let s := s.frstEnterAll l k (new &&& ~~~old)
  let off := old &&& ~~~new
  s.upd l fun L => (List.range 32).foldl (fun L b => if off.getLsbD b then L.frstRelease l s.now k b else L) L

/-- The FRST register and bit of the instance that a message names (R256, R263), if it has one (of a bus fault's master,
and of the configuration store, DEDUCED, log entry 32). -/
def frstOfFault (l : LaneId) (src inst : Nat) : Option (Nat × Nat) :=
  match src with
  | 0x03 | 0x04 => if inst < 192 then some (inst / 32, inst % 32) else none
  | 0x06 => if inst < 48 then some (6 + inst / 32, inst % 32) else none
  | 0x07 => if inst < 24 then some (8, inst) else if 0x20 ≤ inst ∧ inst < 0x28 then some (8, 24 + (inst - 0x20)) else none
  | 0x0D => if inst / 2 = laneNum l then some (9, 24 + inst % 2) else none
  | 0x0F => if inst < 16 then some (9, inst) else none
  | 0x10 => some (9, 27)
  | 0x11 => if inst < 8 then some (9, 16 + inst) else none
  | 0x12 => some (9, 26)
  | 0x16 =>
    if 0x10 ≤ inst ∧ inst < 0x20 then some (9, inst - 0x10)
    else if 0x28 ≤ inst ∧ inst < 0x30 then some (9, 16 + (inst - 0x28)) else none
  | _ => none

/-! ### The collector (R258 to R264) -/

/-- The kind of a code (R271). -/
def kindOf (code : Nat) : Option Kind := (kindRows.find? fun r => r.code == code).map (·.kind)

/-- The message as it is recorded (R255): an invalid class or kind makes it MSG_BAD. -/
def FaultMsg.checked (m : FaultMsg) : FaultMsg :=
  if bits m.w0 14 2 = 3 || (kindOf (bits m.w0 16 8)).isNone then { m with w0 := faultWord .fltMsgBad 0, w1 := 0 } else m

/-- The order of messages of one class that arrive in the same cycle (R258). -/
def FaultMsg.before (a b : FaultMsg) : Bool :=
  a.time.toNat / 4 == b.time.toNat / 4 && (decide (bits a.w0 24 8 < bits b.w0 24 8)
    || (bits a.w0 24 8 == bits b.w0 24 8 && decide (bits a.w0 0 14 < bits b.w0 0 14)))

/-- The message processed next (R258): by class, then by arrival, then by source and instance. -/
def nextFault (q : List FaultMsg) : Option FaultMsg :=
  let top := q.foldl (fun c m => max c m.cls) 0
  match q.filter fun m => m.cls == top with
  | [] => none
  | m :: ms => some (ms.foldl (fun best x => if x.before best then x else best) m)

/-- The queue without its message processed next, and one held by a source moved in (R258). -/
def Lane.dequeue (L : Lane) (m : FaultMsg) : Lane :=
  let q := L.fltQ.erase m
  match nextFault L.fltHeld with
  | none => { L with fltQ := q }
  | some h => { L with fltQ := q ++ [h], fltHeld := L.fltHeld.erase h }

/-- The words of a capture with its class, as the journal keeps them (R311). -/
def Lane.captureWords (L : Lane) (c : Nat) : List Word :=
  BitVec.ofNat 32 c :: [Reg.capW0 c, Reg.capW1 c, Reg.capInfo c, Reg.capTimel c, Reg.capTimeh c, Reg.capAngle c, Reg.capCycle c].map L.reg

/-- The service core copies a capture into the journal (R262, R313). -/
def Lane.journalCapture (L : Lane) (c : Nat) : Lane :=
  (L.storeUpd fun s => { s with capSeen := putBit s.capSeen c true }).jrnAdd 1 (L.captureWords c) (decide (0 < c))

/-- A message is recorded: FLT_PEND, FLT_CNT, FLT_LAST and the capture (R259). -/
def Lane.record (L : Lane) (m : FaultMsg) : Lane :=
  let c := m.cls
  let L := L.event Reg.fltPend c
  let L := match c with
    | 0 => L.count Reg.fltCnt 16 16
    | 1 => L.count Reg.fltCnt 8 8
    | _ => L.count Reg.fltCnt 0 8
  let L := L.setReg Reg.fltLast m.w0
  let k := bits m.w0 16 8
  let L := if k = Kind.selfClock.code ∨ k = Kind.clkPllUnlock.code then { L with power := { L.power with clockFault := true } } else L
  if L.bit (Reg.capInfo c) 31 then L
  else
    let info := 2 ^ 31 + (if m.avalid then 2 ^ 30 else 0) + m.mid.toNat * 2 ^ 8 + m.acc.toNat
    let L := (((((((L.setReg (Reg.capW0 c) m.w0).setReg (Reg.capW1 c) m.w1).setReg (Reg.capInfo c) (BitVec.ofNat 32 info)).setReg
      (Reg.capTimel c) (m.time.setWidth 32)).setReg (Reg.capTimeh c) ((m.time >>> 32).setWidth 32)).setReg
      (Reg.capAngle c) (m.angle.setWidth 32)).setReg (Reg.capCycle c) m.cycle)
    if L.on then L.journalCapture c else L.storeUpd fun s => { s with capSeen := putBit s.capSeen c false }

/-- The reaction selected for a message (R263, R264): 0 NONE, 1 INTERRUPT, 2 FENCE_FUNCTION, 3 LANE_SILENT, 4
SAFE_STATE. -/
def Lane.reaction (L : Lane) (variantS : Bool) (m : FaultMsg) : Nat :=
  let k := bits m.w0 16 8
  let src := bits m.w0 24 8
  if m.cls = 2 then 4
  else
    let r := min (L.fld (Reg.fltReact (k / 8)) (4 * (k % 8)) 4) 4
    if r = 3 then (if [0x03, 0x05, 0x06, 0x09].contains src then 2 else if variantS then 4 else 3) else r

/-- FENCE_FUNCTION (R263): the FRST bit of the named instance is set. -/
def State.fenceFunction (s : State) (l : LaneId) (src inst : Nat) : State :=
  match frstOfFault l src inst with
  | none => s
  | some (k, b) =>
    let was := (s.lane l).bit (frstReg k) b
    let s := s.upd l fun L => L.event (frstReg k) b
    if was then s else s.frstEnter l k b

/-- A reaction is carried out (R263). -/
def State.react (s : State) (l : LaneId) (m : FaultMsg) (r : Nat) : State :=
  if r = 0 then s
  else
    let s := s.upd l fun L => L.event Reg.fltIrq m.cls
    match r with
    | 1 => s
    | 2 => s.fenceFunction l (bits m.w0 24 8) (bits m.w0 0 14)
    | 3 => s.laneSilent l
    | _ => s.jctDecide (.safe l (bits m.w0 16 8))

/-- The collector processes one message (R258, R259, R263). -/
def State.collect (s : State) (l : LaneId) : State :=
  match nextFault (s.lane l).fltQ with
  | none => s
  | some m0 =>
    let s := s.upd l fun L => L.dequeue m0
    let m := m0.checked
    let r := (s.lane l).reaction s.variantS m
    (s.upd l fun L => L.record m).react l m r

/-- The classes of the messages that the collector takes in this cycle for the FAULT_MESSAGE commands that wait (R258). -/
def State.classesSoon (s : State) (l : LaneId) : Word :=
  (s.pending.foldl (fun (r : Lane × Word) i => match i with
    | .faultMessage m arrives =>
      if m != l then r
      else
        let L := r.1.checkerSends arrives
        match nextFault L.fltQ with
        | some x => (L.dequeue x, r.2 ||| BitVec.ofNat 32 (2 ^ x.checked.cls))
        | none => (L, r.2)
    | _ => r) (s.lane l, 0)).2

/-- Writing 1 to class bits of FLT_PEND (R261): the bit and VALID of the capture clear, unless a message of the class
comes in this cycle; `soon` are the classes still to come. -/
def Lane.pendClear (L : Lane) (v soon : Word) : Lane :=
  let m := v &&& 7 &&& ~~~(L.freshMask Reg.fltPend ||| soon)
  (List.range 3).foldl (fun L c =>
    if m.getLsbD c then ((L.setBit Reg.fltPend c false).setBit (Reg.capInfo c) 31 false).storeUpd fun s =>
      { s with capSeen := putBit s.capSeen c false }
    else L) L

/-- A write to FLT_BIST (R270, R272): with EN the first round begins. -/
def Lane.writeBist (L : Lane) (v : Word) : Lane :=
  let was := L.bit Reg.fltBist 31
  let L := L.applyCodes Reg.fltBist v
  if L.bit Reg.fltBist 31 && !was then { L with bistDone := 0, bistAt := L.time } else L

/-! ### Safe state by key (R265, R267) -/

/-- Safe state may be left (R267). -/
def State.exitOk (s : State) (l : LaneId) : Bool :=
  let L := s.lane l
  s.jct.voted == .safe && L.ready && s.fence l == 0 && !L.bit Reg.fltPend 2
    && !(s.link == .up && (match L.xwk.hb with | some h => h.fatal | none => false)) && s.jct.split != 2

/-- A write to FLT_SAFE (R265, R267). -/
def State.writeSafe (s : State) (l : LaneId) (v : Word) : State :=
  let s := s.upd l fun L => L.applyCodes Reg.fltSafe v
  let k := bits v 16 16
  if k = 0x9C63 then s.jctDecide (.safe l 0xFF)
  else if k = 0x3C96 then
    if s.exitOk l then s.jctDecide .leave else s.upd l fun L => L.event Reg.fltSafe 14
  else s

/-- FLT_SAFE as it reads (R272). -/
def Lane.safeReg (L : Lane) : Word := setBits (L.reg Reg.fltSafe) 15 1 (if L.view == .safe then 1 else 0)

/-! ### Background self-test (R270) -/

/-- Three copies of a safe-state word compared: the repaired copies, and whether one differed (R270 item 6). -/
def mendCopies (a b c : Word) : (Word × Word × Word) × Bool :=
  if a = b ∧ b = c then ((a, b, c), false)
  else if a = b then ((a, a, a), true)
  else if a = c then ((a, a, a), true)
  else if b = c then ((b, b, b), true)
  else ((a, b, c), true)

/-- Item 6: the copies of the lane and of each die are compared and rewritten, and SAFEWORD is raised; a die with no two equal
copies applies the fixed actions (R266, R270). -/
def State.testSafeWords (s : State) (l : LaneId) : State :=
  let L := s.lane l
  let m := mendCopies (vget L.safeW 0 0) (vget L.safeW 1 0) (vget L.safeW 2 0)
  let s := if m.2 then s.upd l fun L => { L with safeW := #v[m.1.1, m.1.2.1, m.1.2.2] }.raise .fltSafeword 0 else s
  (List.range 12).foldl (fun s d =>
    let x := s.die d
    let m := mendCopies x.safe0 x.safe1 x.safe2
    let s := if m.2 then (s.dieUpd d fun x => { x with safe0 := m.1.1, safe1 := m.1.2.1, safe2 := m.1.2.2 }).raiseBoth .fltSafeword 0
      else s
    if x.split then s.dieSafe d else s) s

/-- The self-test tests one item (R270). -/
def State.bist (s : State) (l : LaneId) (item : Nat) (pass : Bool) : State :=
  if !(s.lane l).bit Reg.fltBist 31 then s
  else
    let s := if item = 6 then s.testSafeWords l else s
    s.upd l fun L =>
      let L := if pass then L
        else ((L.event Reg.fltBist 30).setFld Reg.fltBist 16 4 item).raise .selfBist (0x30 + item)
      let done := putBit L.bistDone item true
      if done = 0x3FF then
        { L.setFld Reg.fltBist 0 16 (satNat ((L.time - L.bistAt) / 40000) 16) with bistDone := 0, bistAt := L.time }
      else { L with bistDone := done }

/-! ### Status pins (R268, R269) -/

/-- Lane l pulls ERR_N low (R268): a pending fault, or the lane held in reset or its clock stopped, as in standby (R404). -/
def State.errPull (s : State) (l : LaneId) : Bool :=
  s.fitted l && ((s.lane l).anyBit Reg.fltPend 7 || (match (s.lane l).run with | .init | .stopped | .standby => true | _ => false))

/-- ERR_N is low (R268). -/
def State.errLow (s : State) : Bool := s.errPull .a || s.errPull .b

/-- LFLT_x_N is low (R269); of a lane that is not fitted it is high impedance (00_scope.md R1). -/
def State.lfltLow (s : State) (l : LaneId) : Bool :=
  s.fitted l
    && (!(s.lane l).on || !(s.lane l).ready || s.fence l != 0 || (s.lane l).bit Reg.fltPend 1 || (s.lane l).bit Reg.fltPend 2)

/-- AUTH_A or AUTH_B is high (R269); that of a lane not fitted is held low (00_scope.md R1). -/
def State.authHigh (s : State) (l : LaneId) : Bool := s.fitted l && votedLane s.jct.voted == some l

end Sys2Proof.Machine
end

