-- ==== Sys2Proof/Machine/ClkCore.lean ====
section
/-! DEFINITION. Fuse load, clock monitoring, resets and power states of a lane (14_start_up.md R292, R293,
20_clocks_power.md R398 to R411). -/

namespace Sys2Proof.Machine

/-- Change the power part of a lane. -/
def Lane.pwrUpd (L : Lane) (f : Power → Power) : Lane := { L with power := f L.power }

/-- The host ports of a lane (R6). -/
def lanePorts : LaneId → List Nat
  | .a => [0, 1]
  | .b => [2, 3]

/-! ### Fuse load, step 2 (R292, R293, R417) -/

/-- The lane letter byte (R416). -/
def laneLetter : LaneId → Nat
  | .a => 0x41
  | .b => 0x42

/-- The identity row of a lane as programmed: MON_ID0 above MON_ID1 (R292, R422). -/
def identity (l : LaneId) : BitVec 64 :=
  Config.serial (laneNum l) ++ BitVec.ofNat 8 (laneLetter l) ++ Config.madeYear (laneNum l) ++ Config.madeWeek (laneNum l) ++ (0 : BitVec 8)

/-- A row of the fuses as it is loaded: voted two of three (R293). -/
def Mon.row {α : Type} [DecidableEq α] (m : Mon) (f : FuseCopy → α) : Option α :=
  vote3 (f (vget m.fuse 0 {})) (f (vget m.fuse 1 {})) (f (vget m.fuse 2 {}))

/-- A fuse row has no majority (R293). -/
def Mon.fuseBad (m : Mon) : Bool :=
  (m.row (·.opt)).isNone || (m.row (·.idErr)).isNone || (m.row (·.safe)).isNone
    || ((List.range 4).any fun i => (m.row fun c => c.trimErr.extractLsb' (32 * i) 32).isNone)
    || (List.range 64).any fun i => (m.row fun c => c.sdErr.extractLsb' (24 * i) 24).isNone

/-- The trim rows of the sigma-delta modulators as they are loaded, each voted (R293). -/
def Mon.sdRows (m : Mon) : BitVec 1536 :=
  (List.range 64).foldl (fun x i =>
    x ||| (((m.row fun c => c.sdErr.extractLsb' (24 * i) 24).getD 0).setWidth 1536 <<< (24 * i))) 0

/-- Program the fuses, all three copies (R293, R414, R420). -/
def Mon.burn (m : Mon) (f : FuseCopy → FuseCopy) : Mon := { m with fuse := m.fuse.map f }

/-- The lock state as the fuses give it (R292, R415): SEALED where the seal fuse reads programmed. -/
def Mon.fuseLock (m : Mon) : LockState :=
  if m.row (·.sealed) == some true then .sealed else if m.lock == .sealed then .locked else m.lock

/-- The keys are written to zero, which is absent (R293, R417). -/
def Mon.erase (m : Mon) : Mon := { m with ka := [], ke := [], kc := [], fails := 0, lock := .opened, hold := true }

/-- Fuse load at step 2 of a start (R292, R293): an erasure under way is completed; the rows are voted, and triplicated words
0 and 1, the trim registers and the safe-state words are loaded. A row with no majority halts the lane. -/
def State.loadFuses (s : State) (l : LaneId) : State :=
  let m := (s.lane l).mon
  let opt := (m.row (·.opt)).getD 0
  let safe := (m.row (·.safe)).getD 0x5A0000FC
  let s := s.upd l fun L =>
    let L := { L with mon := { L.mon with lock := m.fuseLock } }
    let L := if L.mon.lock == .erasing then { L with mon := L.mon.erase } else L
    let L := L.setBit Reg.cfgBoot 23 L.power.cold
    if m.fuseBad then ((L.setFld Reg.cfgBoot 28 4 0xF).setFld Reg.cfgBoot 24 4 1).raise .memTripleFail 0x3FFF 0
    else
      let L := (L.loadTriple 0 ((setBits opt 6 1 (if s.variantS then 1 else 0)).setWidth 288)).loadTriple 1
        ((identity l ^^^ (m.row (·.idErr)).getD 0).setWidth 288)
      { L with
        safeW := Vector.replicate 3 safe
        sdTrim := m.sdRows
        trim := Vector.ofFn fun i =>
          Config.trimWord (laneNum l) i.val ^^^ (m.row fun c => c.trimErr.extractLsb' (32 * i.val) 32).getD 0 }
  if m.fuseBad then s
  else { s with
    pref := if opt.getLsbD 7 && !s.variantS then .b else .a
    dies := s.dies.map fun x => { x with safe0 := safe, safe1 := safe, safe2 := safe } }

/-! ### Resets (R400, R401) -/

/-- A lane's clocks stop: its link queues are dropped and its frames to come are lost; frames already on a link go on. -/
def State.stopLane (s : State) (l : LaneId) (r : LaneRun) : State :=
  s.upd l fun L => { L.dropLinks s.now with run := r, xwk := { L.xwk with rx := [], tx := [] } }

/-- The ports that lane l does not carry have no event to show: their registers read 0 (R345, R346). -/
def Lane.absentPorts (L : Lane) (l : LaneId) : Lane := (lanePorts (otherLane l)).foldl (fun L p => L.setReg (Reg.hstEvent p) 0) L

/-- Registers that keep their values through a warm reset (R262, R398, R401, R22): the FLT_ and CLK_ registers of the
always-on part, ADCa_SEQ, the byway instruction memories, and TWI_CBUF (R23). -/
def warmKeeps (a : Nat) : Bool :=
  a / 0x10000 == 0x1009 || (decide (Reg.clkStat ≤ a) && decide (a < frstReg 0)) || (a / 0x10000 == 0x100F && decide (0x1000 ≤ a % 0x10000))
    || (decide (0x10060400 ≤ a) && decide (a < 0x10060A00) && a % 64 == 0x20)
    || (decide (Reg.twiCbuf 0 ≤ a) && decide (a < Reg.twiCbuf 16))

/-- What is left of a lane die when a warm reset or lane restart begins (R22, R23, R262, R282, R401, R416). -/
def Lane.warm (L : Lane) (now : Nat) : Lane :=
  { run := .stopped, time := L.time
    regs := L.regs.filter fun e => warmKeeps e.1
    locked := L.locked.filter fun a => a / 0x10000 == 0x1009
    sched := { links := L.sched.links, linkFree := L.sched.linkFree }
    mem := { L.memLaneReset.mem with scrubDone := false }
    store := { nand := L.store.nand, page := L.store.page, buf := L.store.buf, bufAt := L.store.bufAt, rseq := L.store.rseq
               urgent := L.store.urgent, pagesAt := L.store.pagesAt, urgentAt := L.store.urgentAt, lostAt := L.store.lostAt
               capSeen := L.store.capSeen
               patrolAt := L.store.patrolAt, scrubAt := L.store.scrubAt, snapAt := L.store.snapAt, runAt := L.store.runAt }
    mon := { L.mon with nonce := none, reply := .none, wait := none }
    triples := L.triples, trim := L.trim, pins := L.pins, bistAt := L.time
    power := { cold := false, startAt := now, pllAt := now, coreAt := L.power.coreAt, devAt := L.power.devAt
               supLo := L.power.supLo, supHi := L.power.supHi } }

/-- A warm reset or lane restart (R343, R401): CAUSE, WARM_CNT, and the start begins at step 2. -/
def State.warmReset (s : State) (l : LaneId) (cause : Nat) : State :=
  let s := (s.nandTear l).stopLane l .stopped
  let s := s.upd l fun L => (((((L.warm s.now).absentPorts l).setFld Reg.clkRst 8 4 cause).count Reg.clkRst 0 8).pwrUpd fun p =>
    { p with byClock := cause == 2 })
  let s := (lanePorts l).foldl (fun s p => s.portLost p) s
  s.loadFuses l

/-- Cold power-up clears everything but what lies outside the die or in fuses and key store (R22, R262, R401). -/
def Lane.coldStart (L : Lane) (now : Nat) : Lane :=
  { run := .init, pins := L.pins, triples := L.triples, store := { nand := L.store.nand }
    mon := { L.mon with nonce := none, reply := .none, wait := none }
    power := { cold := true, startAt := now, pllAt := now, coreAt := now } }

/-- Neither lane runs yet. -/
def State.allDown (s : State) (l : LaneId) : Bool :=
  match (s.lane (otherLane l)).run with
  | .off => true
  | .init => true
  | _ => false

/-- Supply good after OFF (R294 steps 1 and 2): the lane starts cold, and the drive dies, rails and Junction start with
the first lane of the module to do so (R22, log entry 33). -/
def State.coldPowerUp (s : State) (l : LaneId) : State :=
  if (s.lane l).run != .off then s
  else
    let s := if s.allDown l then { s with
        chans := Vector.replicate 192 {}, quads := Vector.replicate 48 {}, gates := Vector.replicate 48 {}
        rails := Vector.replicate 4 {}, dies := Vector.replicate 12 {}, jct := {}, link := .down, mirror := .solo }
      else s
    let s := { s with vsupLow := false }.upd l fun L => (L.coldStart s.now).absentPorts l
    let s := (lanePorts l).foldl (fun s p => s.portLost p) s
    s.loadFuses l

/-- The PLL has locked (R19, R232, R234, R294): the lane's clocks run, its view takes the voted value, and LANE_TIME starts on a
cold start; a restart clears the fence causes SILENT and DISPUTE. -/
def State.pllLocked (s : State) (l : LaneId) : State :=
  let s := s.upd l fun L =>
    let L := { L with run := .running, time := if L.power.cold && L.run == LaneRun.init then 0 else L.time }
    (L.setView s.jct.voted 0).pwrUpd fun p => { p with pll := true, ref := true }
  (s.clearFence l fenceSilent).clearFence l fenceDispute

/-- Change the monitor of a lane. -/
def Lane.monUpd (L : Lane) (f : Mon → Mon) : Lane := { L with mon := f L.mon }

/-- The monitor's reply line (R413). -/
def State.reply (s : State) (l : LaneId) (r : MonReply) : State := s.upd l fun L => L.monUpd fun m => { m with reply := r }

/-- A monitor command (R414, R415): SEALED reads nothing, a command valid in another state replies ER 03. -/
def State.monitor (s : State) (l : LaneId) (allowed : List LockState) (f : State → State) : State :=
  let k := (s.lane l).mon.lock
  if k == .sealed then s else if allowed.contains k then f s else s.reply l (.er 3)

/-- LOCK (R414). -/
def State.monLock (s : State) (l : LaneId) : State :=
  if (s.lane l).mon.kc.isEmpty then s.reply l (.er 4)
  else (s.upd l fun L => (L.monUpd fun m => { m with lock := .locked }).event Reg.monEvent 3).reply l (.ok [])

/-- SEAL (R420): where the fuse does not read back programmed the lane stays LOCKED. -/
def State.monSeal (s : State) (l : LaneId) (fuseOk : Bool) : State :=
  if fuseOk then
    (s.upd l fun L => L.monUpd fun m => { m.burn fun c => { c with sealed := true } with lock := .sealed }).reply l (.ok [])
  else s

/-- The monitor's LOCK, SEAL and RESTART that wait in the cycle complete before a restart (R420). -/
def State.monFirst (s : State) (l : LaneId) : State :=
  s.pending.foldl (fun s i => match i with
    | .monLock m => if m = l then s.monitor l [.opened] fun s => s.monLock l else s
    | .monSeal m ok => if m = l then s.monitor l [.locked] fun s => s.monSeal l ok else s
    | .monRestart m => if m = l then s.monitor l [.opened] fun s => s.reply l (.ok []) else s
    | _ => s) s

/-- The restart key (R401, R420): a reply that a monitor command of the same cycle brought goes out before the restart. -/
def State.restart (s : State) (l : LaneId) : State :=
  let t := s.monFirst l
  let came := s.pending.any fun i => match i with
    | .monLock m | .monSeal m _ | .monRestart m => m == l
    | _ => false
  if came then (t.warmReset l 1).reply l (t.lane l).mon.reply else t.warmReset l 1

/-- The service core is reset, and nothing beside it (R401): its watchdog starts anew, and the monitor, an interpreter in it,
holds no nonce (R416). -/
def Lane.coreReset (L : Lane) (now : Nat) : Lane :=
  (L.pwrUpd fun p => { p with coreAt := now }).monUpd fun m => { m with nonce := none }

/-- A write to CLK_RST (R401): lane restart or service-core reset. -/
def State.writeClkRst (s : State) (l : LaneId) (v : Word) : State :=
  match bits v 16 16 with
  | 0xC3A5 => s.restart l
  | 0x3C5A => s.upd l fun L => L.coreReset s.now
  | _ => s

/-- The service-core watchdog expires (R401). -/
def State.coreWdog (s : State) (l : LaneId) : State :=
  let L := s.lane l
  let t := max 1 (L.fld Reg.clkCoreWdog 0 16) * 400000
  if s.now < L.power.coreAt + t then s
  else s.upd l fun L => (L.event Reg.clkEvent 8).coreReset s.now

/-- A write to CLK_CORE_WDOG (R401). -/
def State.writeCoreWdog (s : State) (l : LaneId) (v : Word) : State :=
  s.upd l fun L => (L.applyCodes Reg.clkCoreWdog v).pwrUpd fun p => { p with coreAt := s.now }

/-! ### Clock monitoring (R399) -/

/-- The message that the always-on part records with the clocks stopped (R399), with the time, angle word and cycle
counter held at the stop. -/
def Lane.stopMsg (L : Lane) (k : Kind) (inst : Nat) : FaultMsg :=
  { w0 := faultWord k inst, w1 := 0
    time := BitVec.ofNat 64 L.time, angle := BitVec.ofNat 24 L.odo.word, avalid := L.odo.valid, cycle := L.odo.cycle }

/-- The always-on part finds a condition (R398, R399): the lane raises its kind while its clocks run; with the clocks stopped
the always-on part records it. -/
def Lane.alwaysRaise (L : Lane) (k : Kind) (inst : Nat) : Lane :=
  if L.on then L.raise k inst else L.record (L.stopMsg k inst)

/-- The clock monitor or the lock detector finds a fault of the clocks (R399); a lane held in reset does not wait anew for its
fault to be recorded. -/
def Lane.clockBad (L : Lane) (now flag : Nat) (k : Kind) (inst : Nat) : Lane :=
  let was := L.power.clockFault
  let L := (L.event Reg.clkEvent flag).alwaysRaise k inst
  L.pwrUpd fun p => { p with devAt := some now, clockFault := if L.on then p.clockFault else was }

/-- A monitor window's deviation, in 0.01 % (R399). -/
def Lane.clockDev (L : Lane) (now : Nat) (dev : BitVec 16) : Lane :=
  let L := L.setFld Reg.clkStat 0 16 dev.toNat
  if 1000 < dev.toInt.natAbs then L.clockBad now 4 .selfClock 0x20 else L

/-- The root PLL loses lock (R399). -/
def Lane.pllLost (L : Lane) (now : Nat) : Lane := (L.clockBad now 3 .clkPllUnlock 0).pwrUpd fun p => { p with pll := false }

/-- The monitor and the lock detector run in the always-on part (R399), but not while the clocks are stopped by intent, in
STANDBY, or VSUP is absent. -/
def State.clockRow (s : State) (l : LaneId) (f : Lane → Lane) : State :=
  s.upd l fun L => match L.run with
    | .standby | .off => L
    | _ => f L

/-- With the lane's clocks stopped the always-on part records the clock fault (R399). -/
def State.clockStop (s : State) (l : LaneId) (pll : Bool) : State :=
  let s := s.stopLane l .stopped
  s.upd l fun L => (L.record (if pll then L.stopMsg .clkPllUnlock 0 else L.stopMsg .selfClock 0x20)).pwrUpd fun p =>
    { p with pll := false, ref := false, devAt := some s.now }

/-- The warm reset of R399 and R401: after a recorded clock fault with AUTO_RST = 1, or a rail fault. -/
def State.autoReset (s : State) (l : LaneId) (rail : Bool) : State :=
  let L := s.lane l
  if rail then s.warmReset l 3
  else if L.power.clockFault && L.bit Reg.clkMon 0 then s.warmReset l 2
  else s

/-! ### Supply and temperature (R398, R410, R428) -/

/-- VSUP in mV as the comparators measure it (R410): each crossing of a limit of CLK_SUPWARN, either way, sets SUP_LO or SUP_HI
and raises SUPPLY. -/
def Lane.supply (L : Lane) (mv : Nat) : Lane :=
  let lo := decide (mv < L.fld Reg.clkSupwarn 0 8 * 500)
  let hi := decide (L.fld Reg.clkSupwarn 16 8 * 500 < mv)
  let L' := L.pwrUpd fun p => { p with supLo := lo, supHi := hi }
  let L' := if lo != L.power.supLo then (L'.event Reg.clkEvent 5).alwaysRaise .clkSupply 0 else L'
  if hi != L.power.supHi then (L'.event Reg.clkEvent 6).alwaysRaise .clkSupply 0 else L'

/-- The lane die temperature in 0.125 °C (R410): a rise to TWARN or above sets TEMP_HI and raises LANE_TEMP. -/
def Lane.laneTemp (L : Lane) (t : BitVec 16) : Lane :=
  let lim := (L.fld Reg.clkTemp 0 8 : Int) * 8
  let was := (BitVec.ofNat 16 (L.fld Reg.clkTemp 16 16)).toInt
  let L := L.setFld Reg.clkTemp 16 16 t.toNat
  if lim ≤ t.toInt ∧ was < lim then (L.event Reg.clkEvent 7).alwaysRaise .clkLaneTemp 0 else L

/-- VSUP falls below 7.0 V (R426, R428): every drive die switch turns off and stays off, each coil's current decays through
the clamp path, in a decay already under way too, and a gate in dwell is pulled to 0 V. -/
def State.driveLoss (s : State) : State :=
  let s := { s with vsupLow := true }
  let s := (List.range 192).foldl (fun s n =>
    ((s.cancelWait n).endEvent n true .idle).chanUpd n fun c => { c with decayFast := true }) s
  let g := fun (x : Gate) => { x with
    drive := .low, rsLeft := 0, heldTo := none
    state := match x.state with
      | .dwell | .restrike => .idle
      | .soft => if x.afterSoft == .fault then .fault else if x.ctrl.getLsbD 0 then .idle else .off
      | y => y }
  { s with gates := s.gates.map fun x => x.becomes (g x) s.now, rails := s.rails.map fun r => r.toOff s.now }

/-- VSUP has been below 7.0 V for 50 µs (R410, R428): the drive dies turn off if they have not, and the lane goes OFF, from
any power state. -/
def State.supplyLoss (s : State) (l : LaneId) : State :=
  let s := if s.vsupLow then s else s.driveLoss
  let s := (s.nandTear l).stopLane l .off
  let s := s.upd l fun L => { L with ready := false, mon := { L.mon with nonce := none, reply := .none, wait := none } }
  (lanePorts l).foldl (fun s p => s.portLost p) s

/-! ### Power states (R404 to R409) -/

/-- The conditions of R406 beside the power state. -/
def Lane.standbyOk (L : Lane) (l : LaneId) : Bool := L.odo.state == .stopped && (votedLane L.view != some l)

/-- STANDBY is entered (R338, R356, R406): the lane leaves READY and presents RELEASE, moderation and merge buffer are
flushed. -/
def State.enterStandby (s : State) (l : LaneId) : State :=
  let s := (lanePorts l).foldl (fun s p => (s.modExpire p).portUpd p fun x => x.wdHold s.now true) s
  let s := s.upd l fun L => ({ L.flushAll with run := .standby }).pwrUpd fun p => { p with entry := some s.now, waking := false }
  s

/-- A write to CLK_PWR (R405, R406). -/
def State.writePwr (s : State) (l : LaneId) (v : Word) : State :=
  let L := s.lane l
  let rej := s.upd l fun L => L.event Reg.clkEvent 1
  match bits v 0 2 with
  | 1 => if L.power.idle then s.upd l fun L => (L.pwrUpd fun p => { p with idle := false }).acqResume else s
  | 2 => if !L.power.idle && L.odo.state == .stopped then s.upd l fun L => L.pwrUpd fun p => { p with idle := true } else rej
  | 3 =>
    if bits v 16 16 ≠ 0x57BD then s
    else
      let s := s.upd l fun L => L.readTriple 2
      if (s.lane l).standbyOk l then s.enterStandby l else s.upd l fun L => L.event Reg.clkEvent 1
  | _ => s

/-- The first accepted crank edge in IDLE returns the lane to RUN (R405). -/
def Lane.idleExit (L : Lane) : Lane :=
  if L.power.idle then ((L.pwrUpd fun p => { p with idle := false }).event Reg.clkEvent 9).acqResume else L

/-- Standby entry is complete 5 µs after the request (R406): the wake timer is loaded. -/
def Lane.entryDone (L : Lane) (now : Nat) : Lane :=
  match L.power.entry with
  | some t =>
    if t + 2000 ≤ now then
      let w := (L.reg Reg.clkWaketmr).toNat
      L.pwrUpd fun p => { p with entry := none, wakeAt := if w = 0 then none else some (now + w * 400000), pll := false, ref := false }
    else L
  | none => L

/-- What a lane's ports held through standby goes on (R339, R404, R409). -/
def State.portsOn (s : State) (l : LaneId) : State := (lanePorts l).foldl (fun s p => s.wdDoze p) s

/-- A privileged source arrives in standby or during entry (R355, R407, R409). -/
def State.wakeBy (s : State) (l : LaneId) (i : Nat) : State :=
  let L := s.lane l
  if L.run != .standby then s
  else
    let s := s.upd l fun L => L.srcArrive (8 + i)
    if !L.bit Reg.icuWake i then s
    else if L.power.entry.isSome then
      (s.upd l fun L => ({ L with run := .running }.pwrUpd fun p => { p with entry := none }).event Reg.clkEvent 2).portsOn l
    else s.upd l fun L => (L.event Reg.icuWake (16 + i)).pwrUpd fun p => { p with waking := true }

/-- VSUP is measured (R355, R398, R410), whenever it is present: as it crosses a limit, either way, WAKE_SUPPLY arrives. -/
def State.supplyRow (s : State) (l : LaneId) (mv : Nat) : State :=
  let L := s.lane l
  if L.run == .off then s
  else
    let s := { s with vsupLow := s.vsupLow && decide (mv < 7000) }.upd l fun L => L.supply mv
    let M := s.lane l
    if M.power.supLo == L.power.supLo && M.power.supHi == L.power.supHi then s
    else if L.run == .standby then s.wakeBy l 4
    else s.upd l fun L => L.srcArrive 12

/-- On wake each edge-sensed source compares its saved level with its present signal (R356). -/
def Lane.wakeSense (L : Lane) : Lane :=
  (List.range 192).foldl (fun L k =>
    if srcReserved k || (decide (8 ≤ k) && decide (k ≤ 13)) || L.srcMode k = 0 then
      L.icuUpd fun c => { c with last := putBit c.last k (L.srcSignal k) }
    else L.srcSense k) L

/-- The other lane is in service (R234, R246, R250): it holds authority, or serves alone while none does. -/
def State.otherServes (s : State) (l : LaneId) : Bool :=
  let o := s.lane (otherLane l)
  votedLane s.jct.voted == some (otherLane l) || ((votedLane s.jct.voted).isNone && o.on && o.ready && o.xwk.alone)

/-- A lane becomes READY (R234, R294): fenced REJOIN while the other lane is in service and the mirror is not LINKED. -/
def State.rejoinFence (s : State) (l : LaneId) : State :=
  if s.variantS then s else if s.otherServes l && s.mirror != .linked then s.setFence l fenceRejoin else s

/-- The refills of the main paths go on from where standby held them (R203, R409). -/
def Lane.refillsShift (L : Lane) (slept : Nat) : Lane :=
  L.acqUpd fun q => { q with acs := q.acs.map fun c => { c with refill := c.refill.map (· + slept) } }

/-- The lane has woken (R338, R339, R356, R409); `slept` is the standby time as the always-on oscillator measured it. The
always-on part kept the keep-alive toggling (R227, R408), and its watchdog runs on (R398). -/
def State.wakeDone (s : State) (l : LaneId) (slept : Nat) : State :=
  let L := s.lane l
  if L.run != .standby || !L.power.waking then s
  else
    let wasIdle := L.power.idle
    let s := s.upd l fun L =>
      let L := ({ L with run := .running, time := L.time + slept }.refillsShift slept).pwrUpd fun p =>
        { p with waking := false, entry := none, wakeAt := none, idle := false, pll := true, ref := true }
      let L := L.setView s.jct.voted (s.claim l)
      let L := (L.setReg Reg.clkStbyt (BitVec.ofNat 32 (satNat (slept / 400000) 32))).event Reg.clkEvent 0
      let L := if wasIdle then L.acqResume else L
      L.wakeSense
    let s := s.jlUpd l fun j => { j with kaAt := s.now }
    let s := (lanePorts l).foldl (fun s p => s.portUpd p fun x => { x with wakeTo := some (s.now + 2000) }) (s.portsOn l)
    if (s.lane l).ready then s.rejoinFence l else s

/-- The wake timer expires (R355, R406). -/
def State.wakeTimer (s : State) (l : LaneId) : State :=
  match (s.lane l).power.wakeAt with
  | some t =>
    if s.now < t then s
    else (s.upd l fun L => L.pwrUpd fun p => { p with wakeAt := none }).wakeBy l 3
  | none => s

/-- CLK_STAT as it reads (R411). -/
def Lane.clkStatWord (L : Lane) : Word :=
  let ps := if L.power.entry.isSome then 2 else if L.power.idle then 1 else 0
  BitVec.ofNat 32 (ps * 2 ^ 30 + (if L.power.pll then 2 ^ 29 else 0) + (if L.power.ref then 2 ^ 28 else 0)) ||| (L.reg Reg.clkStat &&& 0xFFFF)

end Sys2Proof.Machine
end

