-- ==== Sys2Proof/Machine/OdoStep.lean ====
section
/-! DEFINITION. What follows a change of the Odometer's state: the entry to a valid angle word and its loss, milestones,
micro-ticks and marks as the other blocks see them (03_odometer_angle.md R65 to R74, 04_waypoints_routes.md R98, R107,
R108, 09_acquisition.md R203, 11_lanes_junction.md R247). -/

namespace Sys2Proof.Machine

/-- The other lane holds a cycle counter that an entry to FULL_SYNC takes over (R43, R247). -/
def Lane.sharesCycle (L : Lane) (up : Bool) : Bool :=
  match L.xwk.hb with
  | some h => up && (h.odo == .fullSync || h.odo == .hold) && h.dir == L.odo.dir
  | none => false

/-- The cycle counter starts anew: decisions and verdicts kept for cycles of the old count belong to none of the new one (R43,
R95, R223). -/
def Lane.forgetCycles (L : Lane) : Lane :=
  let L := L.schedUpd fun c => { c with decisions := [] }
  { L with acq := { L.acq with cyls := L.acq.cyls.map fun y => { y with early := [] } } }

/-- entry_cycle (R247): the cycle counter at an entry to FULL_SYNC at angle a. -/
def Lane.entryCycle (L : Lane) (up : Bool) (a : Nat) : BitVec 32 :=
  let q := L.cycleLen / 4
  match L.xwk.hb with
  | some h =>
    if !L.sharesCycle up then 0
    else if a < q && decide (3 * q ≤ h.angle) then h.cycle + 1
    else if 3 * q ≤ a && decide (h.angle < q) then h.cycle - 1
    else h.cycle
  | none => 0

/-- Period and length in positions of the span that holds the angle word (R69, R196). -/
def Lane.spanNow (L : Lane) : Nat × Nat :=
  match L.odo.spans.find? fun s => decide (s.base ≤ L.odo.ang) && decide (L.odo.ang < s.base + s.len) with
  | some s => (s.pm, s.len / L.odoM)
  | none => (L.odo.pp, L.odo.sp)

/-- The marks that stand at the angle word fire, in generator order (R74), and their consumers act. -/
def Lane.fireMarks (L : Lane) : Lane :=
  let d := L.due L.odo.ang
  let (p, sp) := L.spanNow
  (List.range 8).foldl (fun L g =>
    match L.markAt g L.odo.word with
    | none => L
    | some i => ((L.markFired g i).acqMark g i d p sp).bywAngle g) L

/-- A milestone is raised (R66): WPT_CTRL is taken (R113), armed waypoints are recomputed (R98), and the byway engines see
it. -/
def Lane.milestoneActs (L : Lane) : Lane :=
  let L := L.schedUpd fun c => { c with gov := L.reg Reg.wptCtrl }
  (L.eachRoute fun L r => if (L.route r).phase == RoutePhase.running then L.leadRecompute r else L).bywAngle 8

/-- A swap decision, a guard verdict or the end of the wait for one stands in the queue of this cycle: the crossings of the
TCLK come after it, so that all of them are issued in route order (R95, R101, R223). -/
def State.decisionSoon (s : State) (l : LaneId) : Bool :=
  s.pending.any fun i => match i with
    | .swapDecision m | .swapDecisionTimeout m _ | .guardVerdict m | .guardVerdictTimeout m _ => m == l
    | _ => false

/-- MICRO_TICK (R65 to R71, R74, R100, R101): a micro-tick that is due is emitted and its milestone, wrap and marks act;
then every route takes its turn of the TCLK: one whose commit angle the word has reached begins a route cycle first. The
turn comes at the end of the TCLK where a decision of this cycle is still awaited. -/
def State.microTick (s : State) (l : LaneId) : State :=
  let L := s.lane l
  let role := s.role l
  let now := s.now
  let due := L.tickDue
  let L := if due then L.emit else L
  let L := if due && L.odo.ang % L.odoM == 0 then L.milestoneActs else L
  let L := if due && L.odo.word == 0 then L.bywAngle 9 else L
  let waits := s.decisionSoon l
  let taken := L.sched.turnAt == some L.time
  let L := if waits then L else L.schedUpd fun c => { c with turnAt := some L.time }
  let L := L.eachRoute fun L r =>
    let starts := due && (L.route r).phase != RoutePhase.idle && L.odo.word == L.liveCommit r
    let L := if starts then L.routeStart now role r else L
    if waits || (taken && !starts) then L else L.routeTick now r
  let L := if due then L.fireMarks.emitDone else L
  s.setLane l L

/-- The crossings of a TCLK precede the cancellation that falls in it (R108): the micro-tick that is still to be taken in it,
and the turn of every route. -/
def State.lastTick (s : State) (l : LaneId) : State :=
  let waits := (s.lane l).odo.owed == some (s.lane l).time || s.pending.any fun i => match i with
    | .microTick m => m == l
    | _ => false
  (if waits then s.microTick l else s).upd l fun L => L.routesTurn s.now

/-- The Odometer of lane l changes by f. When the angle word becomes invalid the crossings of the TCLK are made, then the
scheduler stops (R107, R108) and open frames abort (R203); when it becomes valid the cycle counter is set (R247), the entry
milestone is raised (R72), the routes start (R108) and the marks at the entry angle fire (R75). -/
def State.odoStep (s : State) (l : LaneId) (f : Lane → Lane) : State :=
  let L0 := s.lane l
  let L1 := f L0
  if L0.odo.valid == L1.odo.valid then s.setLane l L1
  else if L0.odo.valid then
    let s := s.lastTick l
    let L0 := s.lane l
    let L1 := f L0
    if L1.odo.valid then s.setLane l L1
    else
      let rev := (L1.freshMask Reg.odoEvent).getLsbD 7 && !(L0.freshMask Reg.odoEvent).getLsbD 7
      s.setLane l ((L1.schedStop s.now rev).acAbortAll none)
  else
    let up := s.link == .up
    let L := L1.odoUpd fun o => { o with cycle := L1.entryCycle up o.word }
    let L := if L1.sharesCycle up then L else L.forgetCycles
    s.setLane l ((L.milestoneActs.routesStart s.now).fireMarks)

/-- A virtual span end of HOLD (R58, R68, R69, R73): the span that ends is kept for its due times, and a word that has not
reached its last micro-tick catches up; the next position's span begins, with the same period. -/
def Lane.holdSpan (L : Lane) : Lane :=
  let o := L.odo
  if o.state == .hold && decide (o.t0 + o.pp ≤ L.time) then
    (L.realign (o.t0 + o.pp) (o.base + L.odoM) ((o.pos + 1) % L.cyclePos) 1 o.pp).setReg Reg.odoPeriod (BitVec.ofNat 32 o.pp)
  else L

/-- HOLD_LIMIT milestones have been raised in HOLD (R41), and no condition of this TCLK comes before (R42). -/
def Lane.holdLimit (L : Lane) : Lane :=
  if L.odo.state == .hold && decide (max 1 (L.fld Reg.odoTimeout 16 6) ≤ L.odo.holdCount) && L.mayAct 5 then L.toLost false
  else L

end Sys2Proof.Machine
end

