-- ==== Sys2Proof/Machine/RegRead.lean ====
section
/-! DEFINITION. Reading a lane's registers: status registers that show typed state are computed here, so that every bit
has one home; other registers read from the register file (R7, R8, R15 and the register tables). -/

namespace Sys2Proof.Machine

/-- Bit i of a computed word. -/
def flagBit (b : Bool) (i : Nat) : Nat := if b then 2 ^ i else 0

/-- A computed word. -/
def word (n : Nat) : Word := BitVec.ofNat 32 n

/-! ### Codes of states -/

/-- ODO_STATE.STATE (R57). -/
def odoCode : OdoState → Nat
  | .stopped => 0 | .seek => 1 | .crankSync => 2 | .fullSync => 3 | .hold => 4 | .lost => 5
/-- CHNn_STATUS.STATE (R146). -/
def chanCode : ChanState → Nat
  | .off => 0 | .idle => 1 | .wait => 2 | .run => 3 | .decay => 4 | .fault => 5 | .slave => 6
/-- IGNg_STATUS.STATE (R185). -/
def gateCode : GateState → Nat
  | .off => 0 | .idle => 1 | .dwell => 2 | .restrike => 3 | .soft => 4 | .fault => 5
/-- BSTk_STATUS.STATE (R168). -/
def railCode : RailState → Nat
  | .off => 0 | .ramp => 1 | .reg => 2 | .stopped => 3
/-- ADCa_STAT.STATE (R215). -/
def capCode : CapState → Nat
  | .idle => 0 | .armed => 1 | .capture => 2 | .cal => 3
/-- ADC_SCm_STAT.STATE (R215). -/
def scanCode : ScanState → Nat
  | .off => 0 | .seq => 1 | .inj => 2 | .calWait => 3 | .cal => 4 | .idle => 5
/-- DMAc_STAT.STATE (R370). -/
def dmaCode : DmaState → Nat
  | .idle => 0 | .fetch => 1 | .waitReq => 2 | .move => 3 | .waitFlow => 4
/-- XWK_STATE.LINK (R254). -/
def linkCode : LinkState → Nat
  | .down => 0 | .train => 1 | .up => 2
/-- XWK_STATE.MIRROR (R254). -/
def mirrorCode : MirrorState → Nat
  | .solo => 0 | .rejoin => 1 | .linked => 2
/-- MON_LOCK.STATE (R422). -/
def lockCode : LockState → Nat
  | .opened => 0 | .locked => 1 | .sealed => 2 | .erasing => 3

/-! ### One function per block -/

/-- Computed registers of the Odometer (R57, R80, R81). -/
def Lane.readOdo (L : Lane) (a : Nat) : Option Word :=
  let o := L.odo
  if a = Reg.odoState then
    some (word (odoCode o.state * 2 ^ 29 + flagBit o.valid 28 + flagBit o.dir 27 + flagBit o.routeSet 26 + flagBit o.actSec 25
      + flagBit (L.fourStroke && o.valid && decide (L.odoN ≤ o.milestone)) 24 + o.milestone))
  else if a = Reg.odoHealth then
    some (word (flagBit o.camLock 5 + flagBit o.sec.agree 4 + flagBit o.sec.lock 3 + flagBit o.pri.lock 2
      + flagBit o.sec.silent 1 + flagBit o.pri.silent 0))
  else if a = Reg.odoSecOfs then
    match o.secOfs with
    | some f => some (word (2 ^ 31 + f / 256 * 2 ^ 16 + f % 256))
    | none => some 0
  else if a = Reg.odoSpeed then
    let r := L.fld Reg.odoSpeed 0 24
    some (word (flagBit L.schedOk 31 + flagBit (decide (L.schedLim.2 * 64 < r)) 30 + r))
  else if a = Reg.odoAngle then
    let held := o.valid && o.ang == o.base + (o.sp * L.odoM - 1) && decide (o.t0 + o.pp ≤ L.time)
    some (word (flagBit o.valid 31 + flagBit (o.valid && decide (o.ang < L.target L.time)) 30 + flagBit held 29 + o.word))
  else if a = Reg.odoLag then
    some (setBits (L.reg a) 0 16 (if o.valid then satNat (L.target L.time - o.ang) 16 else 0))
  else if a = Reg.odoVrpeak then
    some (setBits (setBits (L.reg a) 0 12 (if L.hallIn false then 0 else L.fld a 0 12)) 16 12
      (if L.hallIn true then 0 else L.fld a 16 12))
  else if a = Reg.odoDirpw then some (if L.pulseWidth then L.reg a else 0)
  else if a = Reg.odoGeostat then some (setBits (L.reg a) 0 1 (if o.dir then 1 else 0))
  else none

/-- Computed registers of the scheduler (R113): the 256-bit vectors in eight words each. -/
def Lane.readWpt (L : Lane) (a : Nat) : Option Word :=
  let vec := fun (v : BitVec 256) (base : Nat) => some (v.extractLsb' (32 * ((a - base) / 4)) 32)
  let c := L.sched
  if Reg.wptPendAh 0 ≤ a ∧ a < Reg.wptPendAh 8 then vec c.pendAh (Reg.wptPendAh 0)
  else if Reg.wptPendAs 0 ≤ a ∧ a < Reg.wptPendAs 8 then vec c.pendAs (Reg.wptPendAs 0)
  else if Reg.wptBankAh 0 ≤ a ∧ a < Reg.wptBankAh 8 then vec c.bankAh (Reg.wptBankAh 0)
  else if Reg.wptBankAs 0 ≤ a ∧ a < Reg.wptBankAs 8 then vec c.bankAs (Reg.wptBankAs 0)
  else if Reg.wptDet 0 ≤ a ∧ a < Reg.wptDet 8 then vec c.det (Reg.wptDet 0)
  else none

/-- The lane has seen what a die reported at time t of the function whose first register is `a`: its registers have not gone
back to their reset values since (R144, R402). -/
def Lane.sees (L : Lane) (a t : Nat) : Bool :=
  match L.viewAt.lookup a with
  | some r => decide (r < t)
  | none => true

/-- Computed registers of channels and dies (R146): a per-function reset of the channel in the lane leaves only what the die
reports after it (R144). -/
def State.readChn (s : State) (l : LaneId) (a : Nat) : Option Word :=
  let o := a - 0x10020000
  if o < 0x3000 then
    let n := o / 64
    let c := s.chan n
    let L := s.lane l
    if o % 64 = 0x1C then
      some (word (chanCode c.state * 2 ^ 28
        + (if L.sees (Reg.chnCtrl n) c.startAt then
            flagBit c.starved 27 + flagBit c.late 26 + c.slot * 2 ^ 23 + c.cyc * 2 ^ 18 + c.idx * 2 ^ 15 + laneNum c.lane * 2 ^ 14
          else 0)
        + (if L.sees (Reg.chnCtrl n) ((vget s.quads (n / 4) {}).osdAt.getD 0) then c.osd * 2 ^ 12 else 0)))
    else if o % 64 = 0x28 then
      some (word (if L.sees (Reg.chnCtrl n) c.startAt then satNat (c.windowSum s.now / 4000) 14 else 0))
    else none
  else if 0x3400 ≤ o ∧ o < 0x3580 ∧ o % 32 = 0 then
    let d := s.die ((o - 0x3400) / 32)
    some (word (d.temp.toNat * 2 ^ 20 + d.power.toNat * 2 ^ 8 + flagBit d.fenced 1 + flagBit d.hot 0))
  else if a = Reg.chnPdstat then
    some ((s.lane l).reg a ||| word (flagBit ((s.lane l).pdQ.toList.any fun q => !q.isEmpty) 31))
  else none

/-- Computed registers of the gates (R185). -/
def State.readIgn (s : State) (l : LaneId) (a : Nat) : Option Word :=
  let o := a - 0x10030000
  if o < 0x600 ∧ o % 32 = 4 then
    let g := s.gate (o / 32)
    some (word (gateCode g.state * 2 ^ 29
      + (if (s.lane l).sees (Reg.ignCtrl (o / 32)) g.td then laneNum g.lane * 2 ^ 28 + g.set * 2 ^ 25 + g.cyc * 2 ^ 20 else 0)
      + (s.gateSense (o / 32)).toNat * 2 ^ 10))
  else none

/-- Computed registers of the rails (R168). -/
def State.readBst (s : State) (a : Nat) : Option Word :=
  let o := a - 0x10040000
  if o < 0x80 ∧ o % 32 = 0xC then
    let r := s.rail (o / 32)
    some (word (railCode r.state * 2 ^ 29 + flagBit (r.charging && !r.ov) 28 + r.v))
  else none

/-- Computed registers of the acquisition (R215). -/
def Lane.readAdc (L : Lane) (l : LaneId) (a : Nat) : Option Word :=
  let o := a - 0x10060000
  if a = Reg.adcStat then some (L.reg a ||| word (flagBit (L.acq.calRun != 0) 31))
  else if 0x400 ≤ o ∧ o < 0xA00 then
    let n := (o - 0x400) / 64
    let c := L.ac n
    match o % 64 with
    | 0x1C => some (word (capCode c.state * 2 ^ 29 + c.slot * 2 ^ 25 + c.count))
    | 0x38 => some (((L.acCoef l n).1).setWidth 32)
    | 0x3C => some (((L.acCoef l n).2).setWidth 32)
    | _ => none
  else if 0x1000 ≤ o ∧ o < 0x1800 then
    let m := (o - 0x1000) / 256
    let c := L.sc m
    match o % 256 with
    | 0x04 => some (word (scanCode c.state * 2 ^ 29 + c.entry * 2 ^ 24 + c.pend.toNat * 2 ^ 20))
    | 0x30 => some (((L.scCoef l m).1).setWidth 32)
    | 0x34 => some (((L.scCoef l m).2).setWidth 32)
    | _ => none
  else none

/-- Computed registers of the combustion unit (R226). -/
def Lane.readCmb (L : Lane) (a : Nat) : Option Word :=
  let o := a - 0x10070100
  if 0x10070100 ≤ a ∧ o < 0x300 ∧ o % 32 = 0x18 then some (L.reg a ||| word (flagBit (L.cutOn (o / 32)) 31)) else none

/-- Code of a voter's output (R254); the spec gives none for an invalid one (log entry 35). -/
def voterCode (i : Nat) : VoterOut → Nat
  | .level v => votedCode v
  | .invalid => (Config.invalidVote i).toNat

/-- Computed registers of the Junction view and the Crosswalk (R254). -/
def State.readJct (s : State) (l : LaneId) (a : Nat) : Option Word :=
  let L := s.lane l
  let o := otherLane l
  let j := s.jct
  if a = Reg.jctState then
    some (word (votedCode L.view * 2 ^ 30 + flagBit (j.state == .coast) 29 + L.ownClaim * 2 ^ 27 + s.claim o * 2 ^ 25
      + flagBit (s.fence l != 0) 24 + flagBit (s.fence o != 0 || s.variantS) 23 + laneNum l * 2 ^ 22
      + laneNum (L.pref s.variantS) * 2 ^ 21
      + flagBit s.variantS 20 + flagBit (j.cmpOn && !s.variantS) 19))
  else if a = Reg.jctVote then
    some (word (voterCode 2 j.v2 * 2 ^ 30 + voterCode 1 j.v1 * 2 ^ 28 + voterCode 0 j.v0 * 2 ^ 26 + j.split * 2 ^ 24 + j.odd * 2 ^ 22))
  else if a = Reg.jctFence then some (word ((s.fence o).toNat * 2 ^ 8 + (s.fence l).toNat))
  else if a = Reg.xwkState then
    let h := L.xwk.hb
    some (word (linkCode s.link * 2 ^ 30 + mirrorCode s.mirror * 2 ^ 28
      + (match h with | some h => odoCode h.odo * 2 ^ 25 + flagBit h.dir 24 | none => 0) + satNat (L.xwk.progress / 256) 14))
  else if a = Reg.xwkHb then some (setBits (L.reg a) 29 3 (min L.xwk.missed 4))
  else none

/-- Computed registers of the host ports (R345); a lane decodes its own two ports only. -/
def State.readHst (s : State) (l : LaneId) (a : Nat) : Option Word :=
  let o := a - 0x100B0000
  let p := o / 0x100
  if 4 ≤ p || laneOfPort p != l then some 0
  else
    let x := s.port p
    let tags := x.tags
    match o % 0x100 with
    | 0x00 => some (word (flagBit x.doze 31 + flagBit x.respSig 30 + flagBit x.modEnd.isSome 29 + flagBit x.quad 28
        + tags.length * 2 ^ 16 + x.queue.length * 2 ^ 8 + (x.queue.filter (!·.sent)).length))
    | 0x08 => some ((s.lane l).reg a ||| word (flagBit x.expired 29))
    | 0x14 => some (tags.foldl (fun (w : Word) t => if t < 32 then w ||| word (2 ^ t) else w) 0)
    | 0x18 => some (tags.foldl (fun (w : Word) t => if 32 ≤ t ∧ t < 64 then w ||| word (2 ^ (t - 32)) else w) 0)
    | 0x20 => some (strm x 0)
    | 0x24 => some (strm x 1)
    | 0x28 => some (strm x 2)
    | 0x2C => some (strm x 3)
    | _ => none
where
  strm (x : Port) (q : Nat) : Word :=
    word (flagBit (match x.streamHead q with | some (_, _, w) => w | none => false) 31 + 4 * (vget x.streams q []).length)

/-- Computed registers of the interrupt controller that a read leaves as they are (R357). -/
def Lane.readIcu (L : Lane) (l : LaneId) (a : Nat) : Option Word :=
  let o := a - 0x100C0000
  if 0x200 ≤ o ∧ o < 0x220 then some (L.icuPendWord ((o - 0x200) / 4))
  else if 0x1000 ≤ o ∧ o < 0x1500 ∧ o % 256 = 0x28 then some (L.icuStat l ((o - 0x1000) / 256))
  else none

/-- Computed registers of the DMA engine (R370). -/
def Lane.readDma (L : Lane) (a : Nat) : Option Word :=
  let o := a - 0x100D0000
  if o < 0x400 ∧ o % 64 = 0x0C then
    let d := L.dch (o / 64)
    some (word (dmaCode d.state * 2 ^ 29 + d.cause * 2 ^ 25 + (d.total - d.moved)))
  else if o < 0x400 ∧ o % 64 = 8 ∧ (L.dch (o / 64)).state ≠ .idle then some (word (L.dch (o / 64)).cur)
  else none

/-- Computed registers of the byway engines that a read leaves as they are (R385). -/
def Lane.readByw (L : Lane) (a : Nat) : Option Word :=
  let o := a - 0x100F0000
  if o < 0x200 then
    let e := o / 64
    let b := L.eng e
    match o % 64 with
    | 0x10 => some (L.bywStat e)
    | 0x14 => some (b.latch.setWidth 32)
    | 0x24 => some (b.gr 0)
    | 0x28 => some (b.gr 1)
    | 0x2C => some (b.gr 2)
    | 0x30 => some (b.gr 3)
    | 0x34 => some b.lt
    | 0x38 => some (L.reg a ||| word (flagBit (L.bywRxLvl e) 1 + flagBit (L.bywTxLvl e) 0))
    | _ => none
  else if a = Reg.bywPinin then some (L.pins.setWidth 32)
  else none

/-- Computed registers of the monitor block (R422). -/
def State.readMon (s : State) (l : LaneId) (a : Nat) : Option Word :=
  let m := (s.lane l).mon
  if a = Reg.monLock then
    some (word (lockCode m.lock * 2 ^ 30 + m.fails * 2 ^ 8 + flagBit m.hold 3 + flagBit (!m.ka.isEmpty) 2 + flagBit (!m.ke.isEmpty) 1
      + flagBit (!m.kc.isEmpty) 0))
  else if a = Reg.monOpt then some (s.lane l).options
  else if a = Reg.monId0 then some (((s.lane l).item 1 >>> 32).setWidth 32)
  else if a = Reg.monId1 then some (((s.lane l).item 1).setWidth 32)
  else none

/-- The computed register at an address, if one lies there. -/
def State.computed (s : State) (l : LaneId) (a : Nat) : Option Word :=
  let L := s.lane l
  match a / 0x10000 with
  | 0x1000 => L.readOdo a
  | 0x1001 => L.readWpt a
  | 0x1002 => s.readChn l a
  | 0x1003 => s.readIgn l a
  | 0x1004 => s.readBst a
  | 0x1006 => L.readAdc l a
  | 0x1007 => L.readCmb a
  | 0x1008 =>
    if a = Reg.xwkOwnSeq then some L.ownSeq
    else if Reg.xwkOwnDig 0 ≤ a ∧ a < Reg.xwkOwnDig 8 then some ((L.ownDigest >>> (8 * (a - Reg.xwkOwnDig 0))).setWidth 32)
    else s.readJct l a
  | 0x1009 => if a = Reg.fltSafe then some L.safeReg else none
  | 0x100A => if a = Reg.memStat then some L.memStat else if a = Reg.memScrubCtrl then some L.scrubCtrl else none
  | 0x100B => s.readHst l a
  | 0x100C => L.readIcu l a
  | 0x100D => L.readDma a
  | 0x100F => L.readByw a
  | 0x1010 => if a = Reg.twiCstat then some L.twiCstat else if a = Reg.twiTstat then some L.twiTstat else none
  | 0x1011 => if a = Reg.clkStat then some L.clkStatWord else none
  | 0x1012 => s.readMon l a
  | _ => none

/-- Registers of a modulator that a reset does not set to a value of the register tables: ADCa_SEQ keeps counting, and CALOFS
and CALGAIN show the factory trim (R214, R215). -/
def showsHeld (a : Nat) : Bool :=
  a / 0x10000 == 0x1006
    && (let o := a % 0x10000
        if o < 0xA00 then decide (0x400 ≤ o) && [0x20, 0x38, 0x3C].contains (o % 64)
        else decide (0x1000 ≤ o) && decide (o < 0x1800) && [0x30, 0x34].contains (o % 256))

/-- What a read of a register address shows: a computed register, the reset value of a function held in reset (R214, R402), or
the register file; a reserved offset reads 0 (R15). -/
def State.regWord (s : State) (l : LaneId) (a : Nat) : Word :=
  if (s.lane l).held l a && !showsHeld a then regReset a else (s.computed l a).getD ((s.lane l).reg a)

/-- Engine whose receive queue a read of this address pops (R380, R385). -/
def rxqOf (a : Nat) : Option Nat :=
  let o := a - 0x100F0000
  if a < 0x100F0000 then none
  else if o < 0x200 ∧ o % 64 = 0x20 then some (o / 64)
  else if 0x800 ≤ o ∧ o < 0x900 then some ((o - 0x800) / 32)
  else none

/-- Target that a read of this address claims for (R351). -/
def claimOf (a : Nat) : Option Nat :=
  if 0x100C1000 ≤ a ∧ a < 0x100C1500 ∧ a % 256 = 0x20 then some ((a - 0x100C1000) / 256) else none

/-- The triplicated words that a register shows (R289). -/
def triplesOf (a : Nat) : List Nat :=
  if a = Reg.monOpt then [0]
  else if a = Reg.monId0 ∨ a = Reg.monId1 then [1]
  else if a = Reg.xwkOwnSeq ∨ (Reg.xwkOwnDig 0 ≤ a ∧ a < Reg.xwkOwnDig 8) then [3]
  else if a = Reg.jctState then [0, 2]
  else if a = Reg.fltSafe then [2]
  else []

/-- Targets whose CLAIM register lies in n bytes at a. -/
def claimsIn (a n : Nat) : List Nat := (List.range 5).filter fun t => decide (a ≤ Reg.tgtClaim t) && decide (Reg.tgtClaim t < a + n)

/-- A READ frame that waits in the cycle will be served in the lane of its port at once (R321, R328, R331). -/
def State.readLands (s : State) (q : Fin 4) (f : Frame) : Bool :=
  let L := s.lane (laneOfPort q)
  let x := s.port q
  L.on && x.awake s.now && !L.held (laneOfPort q) (Reg.hstStat q) && frameGood 2 f && frameFields 2 f
    && !x.tags.contains (frameTag f) && !x.reqs.any Req.isHeld && !f.addr.getLsbD 31

/-- The targets of lane l that the commands waiting in the cycle will claim at (R351). -/
def State.claimsSoon (s : State) (l : LaneId) : List Nat :=
  (s.pending.map fun i => match i with
    | .claim m t => if m = l then [t.val] else []
    | .read q f => if laneOfPort q = l && s.readLands q f then claimsIn f.addr.toNat f.len.toNat else []
    | .remoteAccess m =>
      match takeMsg (fun x => match x with | .remote r => some r | _ => none) (s.lane l).xwk.rx with
      | some (r, _) => if m = l && !r.isWrite then claimsIn r.addr r.len else []
      | none => []
    | _ => []).flatten

/-- Read a register, with what the read does: ODO_ANGLE latches (R80), a claim (R351), a queue pops (R380), a triplicated
word is voted (R289). -/
def State.readReg (s : State) (l : LaneId) (a : Nat) : State × Word :=
  let L := s.lane l
  if a = Reg.odoAngle then
    ((s.upd l fun L => (L.setReg Reg.odoCycle L.odo.cycle).setReg Reg.odoAtime (BitVec.ofNat 32 L.time)), s.regWord l a)
  else if L.held l a then (s, s.regWord l a)
  else match claimOf a, rxqOf a with
    | some t, _ => let (L, w) := L.icuClaim t (s.claimsSoon l); (s.setLane l L, w)
    | _, some e => let (L, w) := L.readRxq e; (s.setLane l L, w)
    | _, _ => (s.upd l fun L => (triplesOf a).foldl Lane.readTriple L, s.regWord l a)

/-- Read one word at a lane-local address for a master (R15, R18, R91, R280): the word, and the status. -/
def State.readWord (s : State) (l : LaneId) (a mid : Nat) : State × Word × Status :=
  let mem := fun (a : Nat) =>
    let (L, bs, p) := (s.lane l).readBytes a 4 mid 1
    (s.setLane l L, BitVec.ofNat 32 (leNat bs), if p then Status.poison else .ok)
  if (arrayOf a).isSome then mem a
  else if !mapped a then (s, 0, .decode)
  else if (shadowOf a).isSome then mem ((s.lane l).shadowAddr a)
  else
    let (s, w) := s.readReg l a
    (s, w, .ok)

end Sys2Proof.Machine
end

