-- ==== Sys2Proof/Machine/RegWrite.lean ====
section
/-! DEFINITION. Writing a lane's registers: each register with an effect beside its field access codes is sent to the
block that gives it; any other is applied by its codes (R7, R8, R15, R91, R110, R402). -/

namespace Sys2Proof.Machine

/-- Master ID of a writer in fault records (R260): host port 1 to 4, the service core 0. -/
def writerMid : Writer → Nat
  | .host p => 1 + p.val
  | _ => 0

/-- The writer is the service core or the loader. -/
def writerCore : Writer → Bool
  | .host _ => false
  | _ => true

/-- A write to WPT_CTRL (R107, R108, R113): EN written 0 stops the scheduler, EN written 1 with a valid angle word starts
the routes. -/
def Lane.writeWptCtrl (L : Lane) (now : Nat) (v : Word) : Lane :=
  let was := L.bit Reg.wptCtrl 0
  let L := L.applyCodes Reg.wptCtrl v
  if was && !v.getLsbD 0 then L.schedStop now false
  else if !was && v.getLsbD 0 && L.odo.valid then L.routesStart now
  else L

/-- The same write in lane l: the crossings of its TCLK precede a stop (R108). -/
def State.writeWptCtrl (s : State) (l : LaneId) (v : Word) : State :=
  let stops := (s.lane l).bit Reg.wptCtrl 0 && !v.getLsbD 0 && (s.lane l).odo.valid
  (if stops then s.lastTick l else s).upd l fun L => L.writeWptCtrl s.now v

/-- A write to a mark generator's register (R75); a generator that it disables aborts its open frames (R203). -/
def Lane.markWrite (L : Lane) (g which : Nat) (v : Word) : Lane :=
  let was := L.bit (Reg.markCtrl g) 31
  let L := L.writeMark g which v
  if was && !L.bit (Reg.markCtrl g) 31 then L.acAbortAll (some g) else L

/-- A write in the ODO_ block. -/
def State.writeOdo (s : State) (l : LaneId) (a : Nat) (v : Word) : State :=
  if a = Reg.odoCtrl then s.odoStep l fun L => L.writeOdoCtrl v
  else if a = Reg.odoSrc then s.odoStep l fun L => L.writeOdoSrc s.variantS v
  else s.upd l fun L =>
    if [Reg.odoWheel, Reg.odoCamwin, Reg.odoGapratio, Reg.odoTimeout, Reg.odoSensor, Reg.odoDir, Reg.odoInterp, Reg.odoSpdwin].contains a
    then L.writeOdoConfig a v
    else if a = Reg.odoGeoctrl then L.writeGeoctrl v
    else if Reg.odoGeoa 0 ≤ a then L.writeGeometry a v
    else if Reg.markStart 0 ≤ a && decide (a < Reg.markStart 8) && decide (a % 16 < 12) then
      L.markWrite ((a - Reg.markStart 0) / 16) (a % 16 / 4) v
    else L.applyCodes a v

/-- A write in the CHN_ block. -/
def State.writeChn (s : State) (l : LaneId) (a : Nat) (v : Word) : State :=
  let o := a - 0x10020000
  match dieOfSetting a with
  | some d => s.writeSetting l a d v
  | none =>
    s.upd l fun L =>
      if o < 0x3000 ∧ o % 64 = 4 then L.profileSelect (o / 64) false v
      else if o < 0x3000 ∧ o % 64 = 8 then L.profileSelect (o / 64) true v
      else if a = Reg.chnPdist then L.pdist v
      else L.applyCodes a v

/-- A write in the IGN_ block. -/
def State.writeIgn (s : State) (l : LaneId) (a : Nat) (v : Word) : State :=
  let o := a - 0x10030000
  if o < 0x600 ∧ o % 32 = 0 then s.writeGateCtrl l (o / 32) v else s.upd l fun L => L.applyCodes a v

/-- A write in the BST_ block (R159): BSTk_CTRL is marked for its controller. -/
def Lane.writeBst (L : Lane) (a : Nat) (v : Word) : Lane :=
  let o := a - 0x10040000
  let L := L.applyCodes a v
  if o < 0x80 ∧ o % 32 = 0 then { L with railSent := putBit L.railSent (o / 32) true } else L

/-- A write in the LND_ block; the status of an odd pair member stays at its reset values (R157). -/
def Lane.writeLnd (L : Lane) (a : Nat) (v : Word) : Lane :=
  let o := a - 0x10050000
  if o < 0xC00 ∧ o % 16 = 0 then L.writeLndCtrl (o / 16) v
  else if o < 0xC00 ∧ o % 16 = 12 then L.writeLndEst (o / 16) v
  else if 0x1000 ≤ o ∧ o < 0x1C00 ∧ L.oddMember ((o - 0x1000) / 16) = true then L
  else L.applyCodes a v

/-- A write to an ADCa_ register. -/
def Lane.writeAc (L : Lane) (n a : Nat) (v : Word) : Lane :=
  match a % 64 with
  | 0x00 => L.writeAcCtrl n v
  | 0x04 | 0x10 | 0x14 | 0x18 => L.writeProt (L.bit (Reg.acCtrl n) 31) a (Reg.acEvent n) 7 v
  | _ => L.applyCodes a v

/-- A write to an ADC_SCm_ register. -/
def State.writeSc (s : State) (l : LaneId) (m a : Nat) (v : Word) : State :=
  s.upd l fun L => match a % 256 with
    | 0x00 => L.writeScCtrl m v
    | 0x08 => (L.applyCodes a v).scThrAgain m
    | 0x0C => L.writeProt (L.bit (Reg.scCtrl m) 31) a (Reg.scEvent m) 7 v
    | 0x10 => (L.writeProt (L.bit (Reg.scCtrl m) 31) a (Reg.scEvent m) 7 v).scThrAgain m
    | 0x18 => (L.scWriteQrd m v).scThrAgain m
    | 0x1C => L.writeScInj m v
    | _ => L.applyCodes a v

/-- A write in the ADC_ block. -/
def State.writeAdc (s : State) (l : LaneId) (a : Nat) (v : Word) : State :=
  let o := a - 0x10060000
  if a = Reg.adcCtrl then s.upd l fun L => L.writeAdcCtrl v
  else if 0x400 ≤ o ∧ o < 0xA00 then s.upd l fun L => L.writeAc ((o - 0x400) / 64) a v
  else if 0x1000 ≤ o ∧ o < 0x1800 then s.writeSc l ((o - 0x1000) / 256) a v
  else s.upd l fun L => L.applyCodes a v

/-- A write in the CMB_ block. -/
def Lane.writeCmbReg (L : Lane) (a : Nat) (v : Word) : Lane :=
  if Reg.cylCtrl 0 ≤ a ∧ a < Reg.cylCtrl 24 ∧ a % 32 = 0 then L.writeCylCtrl ((a - Reg.cylCtrl 0) / 32) v else L.writeCmb a v

/-- A write to JCT_FENCE (R234, R252): the release key in the authority lane clears SILENT and DISPUTE of the other lane,
which may take part again. -/
def State.writeRelease (s : State) (l : LaneId) (v : Word) : State :=
  if bits v 16 16 ≠ 0xA5F0 || s.variantS || votedLane s.jct.voted != some l then s
  else
    let o := otherLane l
    ((s.clearFence o fenceSilent).clearFence o fenceDispute).upd o fun L => { L with silenced := false }

/-- A write to JCT_HANDOVER (R235, R252): the key requests a planned handover, or sets HAND_REJ. -/
def State.writeHandover (s : State) (l : LaneId) (v : Word) : State :=
  if bits v 16 16 ≠ 0x5A0F || s.variantS then s
  else
    let j := s.jct
    let ok := votedLane j.voted == some l && s.eligible (otherLane l) && s.mirror == .linked && j.cmpOn
    if ok then s.jctDecide .handover else s.upd l fun L => L.event Reg.jctEvent 10

/-- A write in the ICU_ block. -/
def Lane.writeIcu (L : Lane) (a : Nat) (v : Word) : Lane :=
  let o := a - 0x100C0000
  if a = Reg.icuSw then L.icuSwWrite v
  else if 0x100 ≤ o ∧ o < 0x140 then L.icuMode ((o - 0x100) / 4) v
  else if 0x200 ≤ o ∧ o < 0x220 then L.icuPendClear ((o - 0x200) / 4) v
  else if 0x300 ≤ o ∧ o < 0x380 then L.icuCntWrite ((o - 0x300) / 4) v
  else if 0x1000 ≤ o ∧ o < 0x1500 then
    let t := (o - 0x1000) / 256
    if o % 256 < 0x20 then L.icuMask t (o % 256 / 4) v
    else if o % 256 = 0x24 then L.icuComplete t v
    else if o % 256 = 0x2C then L.icuCtrl t v
    else L
  else L.applyCodes a v

/-- A write in the BYW_ block. -/
def Lane.writeByw (L : Lane) (mid a : Nat) (v : Word) : Lane :=
  let o := a - 0x100F0000
  if o < 0x200 then
    let e := o / 64
    match o % 64 with
    | 0x00 => L.writeBywCtrl e v
    | 0x04 | 0x08 | 0x0C | 0x3C => L.writeBywCfg e a v
    | 0x18 => L.bywInject e v
    | 0x1C => L.writeTxq e mid v
    | _ => L.applyCodes a v
  else if a = Reg.bywFlags then L.writeFlags v
  else if a = Reg.bywPinout ∨ a = Reg.bywPindir then L.writePins a v
  else if a = Reg.bywSync then L.writeBywSync v
  else if 0x1000 ≤ o ∧ o < 0x1400 then L.writeImem a v
  else L.applyCodes a v

/-- A write in the TWI_ block. -/
def Lane.writeTwi (L : Lane) (a : Nat) (v : Word) : Lane :=
  if a = Reg.twiCtrl then L.writeTwiCtrl v
  else if a = Reg.twiCcmd then L.writeCcmd v
  else if [Reg.twiTim0, Reg.twiTim1, Reg.twiTout, Reg.twiTaddr, Reg.twiTwin].contains a then L.writeTwiCfg a v
  else L.applyCodes a v

/-- A write in the MEM_ block. -/
def Lane.writeMemReg (L : Lane) (w : Writer) (a : Nat) (v : Word) : Lane :=
  if a = Reg.memMerge then L.writeMerge v
  else if a = Reg.memErase then L.writeErase w v
  else if a = Reg.memScrubCtrl then L.scrubWrite v
  else if Reg.memMacroCnt 0 ≤ a ∧ a < Reg.memMacroCnt 19 then L.writeMacroCnt ((a - Reg.memMacroCnt 0) / 4) v
  else if Reg.memRemap 0 ≤ a ∧ a < Reg.memRemap 16 then L.writeRemap w ((a - Reg.memRemap 0) / 4) v
  else L.applyCodes a v

/-- A write in the CLK_ block. -/
def State.writeClk (s : State) (l : LaneId) (a : Nat) (v : Word) : State :=
  if a = Reg.clkPwr then s.writePwr l v
  else if a = Reg.clkRst then s.writeClkRst l v
  else if a = Reg.clkCoreWdog then s.writeCoreWdog l v
  else if frstReg 0 ≤ a ∧ a < frstReg 10 then s.writeFrst l ((a - frstReg 0) / 4) v
  else s.upd l fun L => L.applyCodes a v

/-- A write in the HST_ block (R345): a lane decodes its own two ports only. -/
def State.writeHst (s : State) (l : LaneId) (a : Nat) (v : Word) : State :=
  let p := (a - 0x100B0000) / 0x100
  if 4 ≤ p || laneOfPort p != l then s
  else if a = Reg.hstWdog p then s.writeWdog p v
  else s.upd l fun L => L.applyCodes a v

/-- A write in the DMA_ block. -/
def Lane.writeDma (L : Lane) (w : Writer) (a : Nat) (v : Word) : Lane :=
  let o := a - 0x100D0000
  if o < 0x400 ∧ o % 64 = 4 then L.writeDmaStart (o / 64) (writerCore w) v
  else if o < 0x400 ∧ o % 64 = 8 then L.writeDmaDesc (o / 64) v
  else L.applyCodes a v

/-- A write of a word to a register address of lane l by writer w (R7, R15, R110, R402): nothing changes in a function held
in reset. -/
def State.writeReg (s : State) (l : LaneId) (w : Writer) (a : Nat) (v : Word) : State × Status :=
  let on := fun (f : Lane → Lane) => (s.upd l f, Status.ok)
  if (s.lane l).held l a then (s, .ok)
  else match a / 0x10000 with
    | 0x1000 => (s.writeOdo l a v, .ok)
    | 0x1001 =>
      if a = Reg.wptCommit then let (L, st) := (s.lane l).writeCommit w v; (s.setLane l L, st)
      else if a = Reg.wptCtrl then (s.writeWptCtrl l v, .ok)
      else on fun L => L.applyCodes a v
    | 0x1002 => (s.writeChn l a v, .ok)
    | 0x1003 => (s.writeIgn l a v, .ok)
    | 0x1004 => on fun L => L.writeBst a v
    | 0x1005 => on fun L => L.writeLnd a v
    | 0x1006 => (s.writeAdc l a v, .ok)
    | 0x1007 => on fun L => L.writeCmbReg a v
    | 0x1008 =>
      (if a = Reg.jctFence then s.writeRelease l v else if a = Reg.jctHandover then s.writeHandover l v
       else s.upd l fun L => L.applyCodes a v, .ok)
    | 0x1009 =>
      if a = Reg.fltSafe then (s.writeSafe l v, .ok)
      else on fun L =>
        if a = Reg.fltPend then L.pendClear v (s.classesSoon l) else if a = Reg.fltBist then L.writeBist v else L.applyCodes a v
    | 0x100A => on fun L => L.writeMemReg w a v
    | 0x100B => (s.writeHst l a v, .ok)
    | 0x100C => on fun L => L.writeIcu a v
    | 0x100D => on fun L => L.writeDma w a v
    | 0x100E => on fun L => if a = Reg.cfgInstall then L.writeInstall v else L.applyCodes a v
    | 0x100F => on fun L => L.writeByw (writerMid w) a v
    | 0x1010 => on fun L => L.writeTwi a v
    | 0x1011 => (s.writeClk l a v, .ok)
    | _ => on fun L => L.applyCodes a v

/-- A word written to a register of lane l, where the writer makes no difference (R7). -/
def State.regWrite (s : State) (l : LaneId) (a : Nat) (v : Word) : State := (s.writeReg l .core a v).1

/-- A word written to a register of lane l by a writer that the register tells apart (R92, R110, R283, R285, R361). -/
def State.regWriteBy (s : State) (l : LaneId) (w : Writer) (a : Nat) (v : Word) : State := (s.writeReg l w a v).1

/-- The array bytes that a write of bytes reaches in lane l (R91, R110): main SRAM, profile RAM, route RAM by its rules. -/
def Lane.writeArray (L : Lane) (w : Writer) (a : Nat) (bs : List Byte) : Lane × Status :=
  match arrayOf a with
  | some 1 => L.writeRouteRam w a bs (writerMid w)
  | _ => (L.writeBytes a bs (writerMid w), .ok)

/-- Write one word at a lane-local address (R15, R18, R91). -/
def State.writeWord (s : State) (l : LaneId) (w : Writer) (a : Nat) (v : Word) : State × Status :=
  let bs := leBytes v.toNat 4
  if (arrayOf a).isSome then let (L, st) := (s.lane l).writeArray w a bs; (s.setLane l L, st)
  else if !mapped a then (s, .decode)
  else if (shadowOf a).isSome then let (L, st) := (s.lane l).writeShadow w a bs (writerMid w); (s.setLane l L, st)
  else s.writeReg l w a v

/-- The pieces of a block write: each lies within one 16-byte word, and is no longer than a word outside the arrays (R15,
R84, R110). -/
def writePieces (a : Nat) (bs : List Byte) : Nat → List (Nat × List Byte)
  | 0 => []
  | fuel + 1 =>
    if bs.isEmpty then []
    else
      let n := if (arrayOf a).isSome || (shadowOf a).isSome then 16 - a % 16 else 4
      (a, bs.take n) :: writePieces (a + n) (bs.drop n) fuel

/-- Write one piece. -/
def State.writePiece (s : State) (l : LaneId) (w : Writer) (x : Nat × List Byte) : State × Status :=
  if (arrayOf x.1).isSome then let (L, st) := (s.lane l).writeArray w x.1 x.2; (s.setLane l L, st)
  else if (shadowOf x.1).isSome then let (L, st) := (s.lane l).writeShadow w x.1 x.2 (writerMid w); (s.setLane l L, st)
  else s.writeWord l w x.1 (BitVec.ofNat 32 (leNat x.2))

/-- Write a block of bytes within one 256-byte block (R323, R326): with a status other than OK nothing changes. -/
def State.writeBlock (s : State) (l : LaneId) (w : Writer) (a : Nat) (bs : List Byte) : State × Status :=
  let r := (writePieces a bs (bs.length + 1)).foldl (fun (q : State × Status) x =>
    if q.2 == Status.ok then q.1.writePiece l w x else q) (s, .ok)
  if r.2 == Status.ok then r else (s, r.2)

/-- Read a block of bytes within one 256-byte block (R323, R326): the bytes, the status, and the offset of the first
poisoned word. -/
def State.readBlock (s : State) (l : LaneId) (a n mid : Nat) : State × List Byte × Status × Nat :=
  (List.range (n / 4)).foldl (fun (q : State × List Byte × Status × Nat) i =>
    let (s, w, st) := q.1.readWord l (a + 4 * i) mid
    if q.2.2.1 == Status.ok then (s, q.2.1 ++ leBytes w.toNat 4, st, if st == Status.ok then 0 else 4 * i) else (s, q.2)) (s, [], .ok, 0)

end Sys2Proof.Machine
end

