-- ==== Sys2Proof/Machine/BootCore.lean ====
section
/-! DEFINITION. The start-up sequence of a lane from the PLL lock to READY (14_start_up.md R294 to R297, R306, R309). -/

namespace Sys2Proof.Machine

/-- CFG_BOOT.PHASE and RESULT (R318). -/
def Lane.bootAt (L : Lane) (phase result : Nat) : Lane := (L.setFld Reg.cfgBoot 28 4 phase).setFld Reg.cfgBoot 24 4 result

/-- Digest words in the order of XWK_OWN_DIGj (R254). -/
def digestWords (d : BitVec 256) : List Word := (List.range 8).map fun j => d.extractLsb' (32 * j) 32

/-- The lane's report of R250 reaches the other lane if the link is UP and that lane runs. -/
def State.sendReport (s : State) (l : LaneId) : State :=
  let s := s.upd l fun L => L.readTriple 3
  let L := s.lane l
  if s.link == LinkState.up && L.reported.isSome && !s.variantS then
    s.upd (otherLane l) fun M =>
      if M.on then { M with xwk := { M.xwk with digestIn := some (L.ownSeq, L.ownDigest) } } else M
  else s

/-- Captures that the always-on part recorded before the start are journaled (R262). -/
def Lane.journalKept (L : Lane) : Lane :=
  (List.range 3).foldl (fun L c => if L.bit (Reg.capInfo c) 31 && !L.store.capSeen.getLsbD c then L.journalCapture c else L) L

/-- Step 7 (R294): the lane becomes READY; it presents STANDBY as R250 states, and is fenced REJOIN while the other lane is
in service (R234). -/
def State.becomeReady (s : State) (l : LaneId) : State :=
  let L := s.lane l
  if L.ready || L.mon.hold then s
  else
    let alone := s.variantS || !L.xwk.exchanged
    let s := s.upd l fun L =>
      let L := L.readTriple 0
      let t := satNat ((s.now - L.power.startAt) / 40000) 12
      let L := (L.bootAt 9 0).setFld Reg.cfgBoot 0 12 t
      let L := { L with ready := true, standby := s.variantS || s.link == LinkState.up || L.pref s.variantS == l, xwk := { L.xwk with alone := alone } }
      let slot := L.fld Reg.cfgBoot 15 1
      let L := L.jrnAdd 4 [1, BitVec.ofNat 32 (slot * 16 + L.fld Reg.cfgBoot 13 2), L.reg Reg.cfgImageSeq]
      (L.storeUpd fun c => { c with snapDue := true }).journalKept
    s.rejoinFence l

/-- The settings that software has written from lo to before hi go back to their reset values. -/
def Lane.resetSettings (L : Lane) (lo hi : Nat) : Lane :=
  ((L.regs.map (·.1)).filter fun a => decide (lo ≤ a) && decide (a < hi)).foldl (fun L a =>
    match regDesc a with
    | some d => L.setReg a ((L.reg a &&& ~~~d.rw) ||| (regReset a &&& d.rw))
    | none => L) L

/-- The start ends short of READY: the host ports and the monitor run at reset settings (R296). -/
def Lane.bootStops (L : Lane) (result : Nat) : Lane :=
  ((L.bootAt 0xF result).resetSettings 0x100B0000 0x100C0000).resetSettings 0x10120000 0x10130000

/-- The start of lane l ends short of READY (R296): the watchdogs of its ports, off at reset settings, stop too. -/
def State.bootStops (s : State) (l : LaneId) (result : Nat) : State :=
  (lanePorts l).foldl (fun s p => s.portUpd p fun x => { x with wdEnd := none, wdLeft := none, expired := false })
    (s.upd l fun L => L.bootStops result)

/-- The start stops at step 4 (R296, R297): NO_IMAGE, and the lane reports sequence number 0 and a zero digest. -/
def State.noImage (s : State) (l : LaneId) (result : Nat) : State :=
  ((s.bootStops l result).upd l fun L =>
    let L := (((L.loadTriple 3 0).setReg Reg.cfgImageSeq 0).storeUpd fun c => { c with image := none }).event Reg.cfgEvent 3
    { L.raise .cfgNoImage 0 with reported := some L.time }).sendReport l

/-- Apply one record of the image (R306); false when a write is refused. -/
def State.applyRecord (s : State) (l : LaneId) (r : ImgRec) : State × Bool :=
  match r with
  | .write _ a ws => ws.zipIdx.foldl (fun (q : State × Bool) x =>
      let (s, st) := q.1.writeWord l .image (a + 4 * x.2) x.1
      (s, q.2 && st == Status.ok)) (s, true)
  | .load a bs => (writePieces a bs (bs.length + 1)).foldl (fun (q : State × Bool) x =>
      let (s, st) := q.1.writePiece l .image x
      (s, q.2 && st == Status.ok)) (s, true)
  | .preset => (s.upd l fun L => (L.writeOdoConfig Reg.odoWheel 0x005200F0).writeOdoConfig Reg.odoGapratio 0x40094824, true)
  | .shared as => (s.upd l fun L => L.storeUpd fun c => { c with shared := as }, true)

/-- Apply records in order. -/
def State.applyRecords (s : State) (l : LaneId) (rs : List ImgRec) : State × Bool :=
  rs.foldl (fun (q : State × Bool) r => let (s, ok) := q.1.applyRecord l r; (s, q.2 && ok)) (s, true)

/-- A LATE_WRITE record. -/
def ImgRec.isLate : ImgRec → Bool
  | .write late _ _ => late
  | _ => false

/-- The first distribution of every profile (R123 to R125, R294 step 4e), to its end (log entry 36). Beside a READY lane
the dies hold the copies already, and only the checks are made. -/
def State.bootDistribute (s : State) (l : LaneId) : State :=
  let s := s.upd l fun L => L.pdist 0x80000000
  let o := s.lane (otherLane l)
  let quiet := o.on && o.ready && !s.variantS
  (List.range 12).foldl (fun s d => (vget (s.lane l).pdQ d []).foldl (fun s c =>
    if quiet then s.upd l fun L =>
      { (L.readProfile c.prof (s.paired c.ch && c.ch % 2 == 0)).1 with pdQ := vmod L.pdQ d List.tail }
    else s.slotArrive d l) s) s

/-- A word of array k at A reads CLEAN. -/
def Lane.readsClean (L : Lane) (k A : Nat) : Bool :=
  let w := L.rawWord A
  decodeWord (if (L.remapOf A).isSome then none else L.erased k) w.1 w.2 == .clean

/-- What the self-test's read of the word at A counts and reports (R277, R280, R282), with the word left as it is (R294). -/
def Lane.testRead (L : Lane) (A : Nat) : Lane :=
  let f := if (L.remapOf A).isSome then none else L.erased ((arrayOf A).getD 0)
  let w := L.rawWord A
  let r := decodeWord f w.1 w.2
  ((L.trackOnly A f r).outcomeBy (fun L k m => (L.bumpMacro k m).1) A f w.1 r 0 1).1

/-- Step 5 (R294): the decoder is exercised and the spare words are marched over, with the outcome `memOk`; route RAM and
profile RAM are read, behind the writes that the buffer holds (R279), and the triplicated words (R289), and all must read CLEAN.
No stored word is changed. The failing item of R270 otherwise. -/
def Lane.selfTest (L : Lane) (memOk : Bool) : Lane × Option Nat :=
  let held := (L.mem.merge.map (·.addr)).filter fun A => arrayOf A != some 0
  let L := held.foldl (fun L A => L.flushWord A) L
  let dirty := fun (k : Nat) => ((List.range (arraySize k / 16)).map (arrayBase k + 16 * ·)).filter fun A => !L.readsClean k A
  let bad := dirty 1 ++ dirty 2
  let unclean := (List.range 4).any fun i => !L.tripleClean i
  let L := bad.foldl (fun L A => L.testRead A) L
  let L := (List.range 4).foldl (fun L i => L.tripleReport i) L
  (L, if !memOk || !bad.isEmpty then some 4 else if unclean then some 5 else none)

/-- The image that was selected is loaded: triplicated word 3, its number and digest (R289, R294 step 4d). -/
def Lane.imageIn (L : Lane) (c : Copy) (i : Image) : Lane :=
  let d := BitVec.ofNat 256 (leNat i.digest)
  let q := BitVec.ofNat 32 i.head.seq
  let L := L.loadTriple 3 (d.setWidth 288 ||| (q.setWidth 288 <<< 256))
  let L := L.setReg Reg.cfgImageSeq q
  let L := (L.setFld Reg.cfgBoot 15 1 c.slot).setFld Reg.cfgBoot 13 2 c.copy
  let L := L.storeUpd fun s => { s with image := some c.block }
  { L with mon := { L.mon with hold := false } }

/-- Steps 4 and 5 of a start (R294, R296, R306, R309), and step 6 begins: the lane reports; on the S variant it becomes
READY at once (R297). `memOk` is the outcome of the decoder exercise and the spare-word march of step 5. -/
def State.boot (s : State) (l : LaneId) (memOk : Bool) : State :=
  let (L, r) := ((s.lane l).bootAt 3 0).discover
  let s := s.setLane l { L with regs := (L.setBit Reg.cfgBoot 23 L.power.cold).regs }
  if r ≠ 0 then s.noImage l r
  else
    let (L, cs) := ((s.lane l).openJournal).scanCopies s.variantS
    let (L, sel) := L.selectImage cs
    let s := s.setLane l L
    match sel with
    | none => s.noImage l 4
    | some (c, i) =>
      let s := s.upd l fun L => L.imageIn c i
      let (s, ok) := s.applyRecords l (i.recs.filter fun r => !r.isLate)
      let s := s.bootDistribute l
      let (s, late) := s.applyRecords l (i.recs.filter ImgRec.isLate)
      if !ok || !late then s.noImage l 5
      else match (s.lane l).selfTest memOk with
        | (L, some k) => ((s.setLane l L).bootStops l 6).upd l fun L => L.raise .selfBist (0x30 + k)
        | (L, none) =>
          let s := s.setLane l L
          let s := (s.upd l fun L => { L.bootAt 8 0 with reported := some L.time }).sendReport l
          if s.variantS then s.becomeReady l else s

/-- A lock of the PLL is taken (R399, R400): within the 10 ms of an attempt; of a lane that a clock fault has reset, once the
monitor has found no deviation for 1 ms. -/
def Power.lockTaken (p : Power) (now : Nat) : Bool :=
  decide (p.pllAt ≤ now) && decide (now ≤ p.pllAt + 4000000)
    && (!p.byClock || (match p.devAt with | some t => decide (t + 400000 ≤ now) | none => true))

/-- PLL_LOCK (R294, R400): the clocks of a lane that waits for them run; a warm start goes on to step 4 at once, a cold one
after the memory initialisation. A lane that halted at its fuse load goes no further, with its host ports and monitor
running (R293, R296). -/
def State.pllLock (s : State) (l : LaneId) (memOk : Bool) : State :=
  let L := s.lane l
  let waits := match L.run with | .init => true | .stopped => true | _ => false
  if !waits || L.power.clockFault || !L.power.lockTaken s.now then s
  else
    let s := s.pllLocked l
    if L.mon.fuseBad then s
    else
      let s := s.upd l fun L => L.bootAt 2 0
      if (s.lane l).power.cold then s else (s.upd l fun L => { L with mem := { L.mem with initDone := true } }).boot l memOk

/-- PLL_LOCK_TIMEOUT (R296, R400): the lane is held in reset, and the next attempt begins 100 ms after this one did. -/
def State.pllTimeout (s : State) (l : LaneId) : State :=
  let L := s.lane l
  let waits := match L.run with | .init => true | .stopped => true | _ => false
  let soon := s.pending.any fun i => match i with | .pllLock b => b.lane == l | _ => false
  if !waits || soon || decide (s.now < L.power.pllAt + 4000000) then s
  else s.upd l fun L => (L.bootAt 1 0).pwrUpd fun p => { p with pllAt := p.pllAt + 40000000 }

/-- The cold initialisation of the arrays is complete (R290). -/
def State.initEnd (s : State) (l : LaneId) : State := s.upd l fun L => { L with mem := { L.mem with initDone := true } }

/-- PARTNER_REPORT_TIMEOUT (R297): 150 ms after its own report, with the link UP, a lane whose partner has not reported
presents STANDBY. -/
def State.partnerTimeout (s : State) (l : LaneId) : State :=
  let L := s.lane l
  match L.reported with
  | none => s
  | some t =>
    if L.store.image.isNone || L.fld Reg.cfgBoot 28 4 != 8 || L.xwk.digestIn.isSome || decide (L.time < t + 60000000) then s
    else s.becomeReady l

end Sys2Proof.Machine
end

