-- ==== Sys2Proof/Machine/MonCore.lean ====
section
/-! DEFINITION. The monitor of a lane: its commands, lock states and challenge (21_monitor.md). -/

namespace Sys2Proof.Machine

/-- A line reaches the monitor (R412, R413, R415): SEALED reads nothing; a line with a framing error sets FRAME_ERR and is
discarded, as one that is empty or too long is; an unknown command replies ER 01 and bad syntax ER 02. -/
def State.monLine (s : State) (l : LaneId) (line : MonLine) (f : State → State) : State :=
  if (s.lane l).mon.lock == .sealed then s
  else match line with
    | .good => f s
    | .framing => s.upd l fun L => L.event Reg.monEvent 4
    | .discarded => s
    | .unknown => s.reply l (.er 1)
    | .misspelt => s.reply l (.er 2)

/-- ID (R414). -/
def State.monId (s : State) (l : LaneId) : State :=
  let s := s.upd l fun L => L.readTriple 1
  s.reply l (.ok [s.regWord l Reg.monId0, BitVec.ofNat 32 (laneLetter l), s.regWord l Reg.monLock])

/-- The service core's access to an unmapped address is refused with a fault (R18, R260). -/
def Lane.coreDecode (L : Lane) (a acc : Nat) : Lane := L.raiseBy .busDecode 0 a 0 acc

/-- RD (R414): n words from address a on, up to the first that fails. A read of an array during its initialisation waits
(R290). -/
def State.monRead (s : State) (l : LaneId) (a n : Nat) : State :=
  if n = 0 ∨ 8 < n then s.reply l (.er 2)
  else if (s.lane l).waitsInit a (4 * n) then s.upd l fun L => L.monUpd fun m => { m with wait := some ⟨a, n, none⟩, reply := .none }
  else
    let (s, ws, st) := (List.range n).foldl (fun (q : State × List Word × Status) i =>
      if q.2.2 == Status.ok then
        let (s, w, st) := q.1.readWord l (a + 4 * i) 0
        (if st == Status.decode then s.upd l fun L => L.coreDecode (a + 4 * i) 1
          else if st == Status.poison then s.upd l fun L => L.corePoison (a + 4 * i) else s, q.2.1 ++ [w], st)
      else q) (s, [], Status.ok)
    s.reply l (if st == Status.ok then .ok ws else .er 5)

/-- An address of a range that host writes mirror (R15). -/
def mirrored (a : Nat) : Bool := mapped a && decide (a < 0x10080000)

/-- A write by the service core, with the fault of an unmapped address (R18). -/
def State.coreWrite (s : State) (l : LaneId) (a : Nat) (v : Word) : State × Status :=
  let (s, st) := s.writeWord l .core a v
  (if st == Status.decode then s.upd l fun L => L.coreDecode a 2 else s, st)

/-- WR (R414). A write to an array during its initialisation waits (R290). -/
def State.monWrite (s : State) (l : LaneId) (a : Nat) (v : Word) : State :=
  if mirrored a && (s.lane l).ready && !s.variantS then s.reply l (.er 4)
  else if (s.lane l).waitsInit a 4 then s.upd l fun L => L.monUpd fun m => { m with wait := some ⟨a, 1, some v⟩, reply := .none }
  else
    let (s, st) := s.coreWrite l a v
    s.reply l (match st with
      | .ok => .ok []
      | .busy => .er 4
      | .notOwner => .er 4
      | _ => .er 5)

/-- The access that waited for the end of the initialisation is done (R290). -/
def State.monResume (s : State) (l : LaneId) : State :=
  match (s.lane l).mon.wait with
  | none => s
  | some w =>
    let s := s.upd l fun L => L.monUpd fun m => { m with wait := none }
    match w.wr with
    | some v => s.monWrite l w.addr v
    | none => s.monRead l w.addr w.count

/-- BAUD (R412, R414). -/
def State.monBaud (s : State) (l : LaneId) (d : Word) : State := (s.upd l fun L => L.applyCodes Reg.monUart d).reply l (.ok [])

/-- KEY (R414): a key of the wrong length is bad syntax. -/
def State.monKey (s : State) (l : LaneId) (k : KeyName) (bs : List Byte) : State :=
  let m := (s.lane l).mon
  let n := match k with | .e => 16 | _ => 32
  let old := match k with | .a => m.ka | .e => m.ke | .c => m.kc
  if bs.length ≠ n then s.reply l (.er 2)
  else if !old.isEmpty then s.reply l (.er 4)
  else
    let bs' := if bs.all (· == 0) then [] else bs
    let s := s.upd l fun L => L.monUpd fun m => match k with
      | .a => { m with ka := bs' }
      | .e => { m with ke := bs' }
      | .c => { m with kc := bs' }
    s.reply l (.ok [crc32c bs])

/-- OPT (R414): the fuses are programmed, and loaded into item 0 at the next start (R292, log entry 99). What TMODE_MAX has once
been programmed to stays (log entry 109). -/
def State.monOpt (s : State) (l : LaneId) (o : OptArg) : State :=
  let s := s.upd l fun L => L.monUpd fun m => match o with
    | .p => m.burn fun c => { c with opt := setBits c.opt 7 1 1 }
    | .e => m.burn fun c => { c with opt := setBits c.opt 5 1 1 }
    | .t k => m.burn fun c => if c.tmodeSet then c else { c with opt := setBits c.opt 0 3 k.val, tmodeSet := true }
  s.reply l (.ok [])

/-- Bytes of words, most significant byte first (R413). -/
def groupBytes (ws : List Word) : List Byte := (ws.map fun w => (leBytes w.toNat 4).reverse).flatten

/-- The challenge delay runs (R416). -/
def Mon.delayed (m : Mon) (now : Nat) : Bool :=
  match m.delay with
  | some t => decide (now < t)
  | none => false

/-- CHAL (R416): four fresh words. -/
def State.monChal (s : State) (l : LaneId) : State :=
  if (s.lane l).mon.delayed s.now then s.reply l (.er 6)
  else
    let (w0, s) := s.free
    let (w1, s) := s.free
    let (w2, s) := s.free
    let (w3, s) := s.free
    let ws := [w0, w1, w2, w3]
    (s.upd l fun L => L.monUpd fun m => { m with nonce := some (groupBytes ws, s.now) }).reply l (.ok ws)

/-- The response that R416 calls correct. -/
def State.monAnswer (s : State) (l : LaneId) (nonce : List Byte) : List Byte :=
  (hmac (s.lane l).mon.kc (nonce ++ leBytes (s.regWord l Reg.monId0).toNat 4 ++ leBytes (laneLetter l) 1)).take 16

/-- 60 s in TCLK (R416). -/
def nonceLife : Nat := 24000000000

/-- The delay after the failure numbered n, in TCLK (R416). -/
def challengeDelay (n : Nat) : Nat := 4000000000 * 2 ^ (n - 1)

/-- A wrong response (R416). -/
def Lane.challengeFailed (L : Lane) (now : Nat) : Lane :=
  let n := min (L.mon.fails + 1) 8
  ((L.event Reg.monEvent 1).raise .monChallenge 0).monUpd fun m => { m with fails := n, delay := some (now + challengeDelay n) }

/-- The lane opens (R417, R418): the keys are erased, and the lane leaves READY under HOLD. -/
def Lane.opened (L : Lane) : Lane :=
  let L := { L with ready := false, mon := { L.mon.erase with delay := none } }
  ((L.event Reg.monEvent 2).event Reg.monEvent 0).raise .monKeyErased 0

/-- The erasure of a lane that opens is cut short by a reset or a loss of supply (R417): the lane stays ERASING, out of READY
under HOLD (R418), until its next start. -/
def Lane.erasing (L : Lane) : Lane := { L with ready := false, mon := { L.mon with lock := .erasing, hold := true } }

/-- RESP (R416, R417); `done`: the erasure of a correct one comes to its end. -/
def State.monResp (s : State) (l : LaneId) (r : List Byte) (done : Bool) : State :=
  match (s.lane l).mon.nonce with
  | none => s.reply l (.er 2)
  | some (n, t) =>
    if t + nonceLife < s.now ∨ r.length ≠ 16 then s.reply l (.er 2)
    else
      let s := s.upd l fun L => L.readTriple 1
      let right := r == s.monAnswer l n
      let s := s.upd l fun L => L.monUpd fun m => { m with nonce := none }
      if !right then (s.upd l fun L => L.challengeFailed s.now).reply l (.er 3)
      else if (s.lane l).odo.state != .stopped then s.reply l (.er 4)
      else if !done then (s.upd l Lane.erasing).upd l fun L => L.dropLinks s.now
      else ((s.upd l Lane.opened).upd l fun L => L.dropLinks s.now).reply l (.ok [])

/-- RESTART (R414): the reply, then a lane restart. -/
def State.monRestart (s : State) (l : LaneId) : State := (s.warmReset l 1).reply l (.ok [])

/-- CHALLENGE_DELAY_END (R416). -/
def State.delayEnd (s : State) (l : LaneId) : State :=
  s.upd l fun L => if L.mon.delayed s.now then L else L.monUpd fun m => { m with delay := none }

/-- NONCE_EXPIRY (R416): a response of the same cycle is in time (R20). -/
def State.nonceEnd (s : State) (l : LaneId) : State :=
  let soon := s.pending.any fun i => match i with | .monResp m _ => m == l | _ => false
  match (s.lane l).mon.nonce with
  | some (_, t) => if soon || decide (s.now < t + nonceLife) then s else s.upd l fun L => L.monUpd fun m => { m with nonce := none }
  | none => s

end Sys2Proof.Machine
end

