-- ==== Sys2Proof/Machine/HostExec.lean ====
section
/-! DEFINITION. Host frames: checks, tags, requests, action writes, mirrored and remote accesses, FENCE
(15_host_ports.md R321 to R333, R339, R341; 01_architecture.md R16, R17; 11_lanes_junction.md R248). -/

namespace Sys2Proof.Machine

/-! ### Frames (R321 to R323, R341) -/

/-- A fall of Hn_WAKE_N or Hn_CS_N (R339, R355): a lane in standby sees WAKE_HOST, and the port leaves DOZE. -/
def State.portFall (s : State) (p : Nat) : State :=
  let l := laneOfPort p
  let s := if (s.lane l).run == .standby then s.wakeBy l 2 else s
  s.dozeOut p

/-- A frame that R322 or R323 forbids (R341). -/
def State.badFrame (s : State) (p : Nat) (op : Byte) (f : Frame) : State :=
  let s := s.portReg p fun L => L.event (Reg.hstEvent p) 1
  let info := if op = 6 ∧ f.addr.toNat < 4 then s.streamInfo p f.addr.toNat else 0
  if usesTag op && !(s.port p).tags.contains (frameTag f) then s.complete p (frameTag f) 7 [] info false else s

/-- A frame is checked (R321, R327, R339 to R341); `act` is what its opcode does once every check has passed. -/
def State.hostFrame (s : State) (p : Nat) (op : Byte) (f : Frame) (act : State → State) : State :=
  let l := laneOfPort p
  let L := s.lane l
  if L.run == .standby || (L.on && !(s.port p).awake s.now) then
    (s.portFall p).portReg p fun L => L.event (Reg.hstEvent p) 7
  else if !L.on || L.held l (Reg.hstStat p) then s
  else
    let s := s.portUpd p fun x => { x with quad := f.quad, wakeTo := none }
    if !frameGood op f then
      s.portReg p fun L => ((L.event (Reg.hstEvent p) 0).count (Reg.hstCnt p) 0 16).raise .hstHostCrc p
    else
      let s := (s.wdFrame p).portReg p fun L => L.count (Reg.hstCnt p) 16 16
      if !frameFields op f then s.badFrame p op f
      else if usesTag op && (s.port p).tags.contains (frameTag f) then s.portReg p fun L => L.event (Reg.hstEvent p) 2
      else act s

/-! ### Requests (R17, R248, R328, R330, R334) -/

/-- A request that stands without a completion completes (R328); one that a reset has completed or lost does not. -/
def State.finish (s : State) (p tag status : Nat) (data : List Byte) (info : BitVec 32) (solo : Bool) : State :=
  if (s.port p).reqs.any (·.tag == tag) then s.complete p tag status data info solo else s

/-- The lane in service (R246, R248): the authority lane; while none holds authority, the preferred lane, or the other one
where only that one can serve. -/
def State.serving (s : State) : LaneId :=
  match votedLane s.jct.voted with
  | some x => x
  | none =>
    let ok := fun (l : LaneId) => (s.lane l).on && (s.lane l).ready && s.fence l == 0
    if !ok s.pref && ok (otherLane s.pref) then otherLane s.pref else s.pref

/-- How lane l takes a host write to a mirrored range (R248, R330). -/
inductive MirrorWay where
  | busy | alone | marked | forward
deriving DecidableEq, Repr

/-- The way of R248 and R330 for a write to address a of lane l. -/
def State.mirrorWay (s : State) (l : LaneId) (a : Nat) : MirrorWay :=
  if !mirrored a then .alone
  else if !(s.lane l).ready then .busy
  else if s.variantS then .alone
  else match s.mirror with
    | .linked => .forward
    | .rejoin => if s.serving = l then .forward else .busy
    | .solo => if s.serving = l then .marked else .busy

/-- Lane l forwards a write that it has applied (R248). -/
def Lane.forward (L : Lane) (port tag a : Nat) (bs : List Byte) (viaRemote : Bool) : Lane :=
  { L with xwk := { L.xwk with
      unacked := L.xwk.unacked ++ [⟨L.xwk.nextNum, port, tag, L.time, viaRemote, a, bs.length⟩], nextNum := L.xwk.nextNum + 1
      tx := L.xwk.tx ++ [XMsg.fwdWrite L.xwk.nextNum port a bs] } }

/-- The host port of a number. -/
def portFin (p : Nat) : Fin 4 := ⟨p % 4, Nat.mod_lt _ (by decide)⟩

/-- A WRITE to the port's own lane starts (R16, R248, R326, R330). -/
def State.startWrite (s : State) (p tag a : Nat) (bs : List Byte) : State :=
  let l := laneOfPort p
  let s := s.putReq p ⟨tag, .mirrored a bs.length⟩
  match s.mirrorWay l a with
  | .busy => s.finish p tag 2 [] 0 false
  | .alone => let (s, st) := s.writeBlock l (.host (portFin p)) a bs; s.finish p tag st.code [] 0 false
  | .marked => let (s, st) := s.writeBlock l (.host (portFin p)) a bs; s.finish p tag st.code [] 0 (st == .ok)
  | .forward =>
    let (s, st) := s.writeBlock l (.host (portFin p)) a bs
    if st != .ok then s.finish p tag st.code [] 0 false
    else if (s.port p).reqs.any (·.tag == tag) then s.upd l fun L => L.forward p tag a bs false
    else s

/-- The completion of a READ: status, data and INFO (R324, R326). -/
def readAnswer (st : Status) (bs : List Byte) (off : Nat) : Nat × List Byte × BitVec 32 :=
  match st with
  | .ok => (0, bs, 0)
  | .poison => (4, [], BitVec.ofNat 32 off)
  | x => (x.code, [], 0)

/-- The request reads or writes an array of its lane while that is initialised, and waits (R290). -/
def Lane.reqWaits (L : Lane) (op : Nat) (f : Frame) : Bool :=
  (op == 1 || op == 2) && !f.addr.getLsbD 31 && L.waitsInit f.addr.toNat f.len.toNat

/-- A WRITE frame that waits in the cycle will be applied to the arrays of its lane (R321, R328, R331). -/
def State.writeLands (s : State) (q : Fin 4) (f : Frame) : Bool :=
  let L := s.lane (laneOfPort q)
  let x := s.port q
  L.on && x.awake s.now && !L.held (laneOfPort q) (Reg.hstStat q) && frameGood 1 f && frameFields 1 f
    && !x.tags.contains (frameTag f) && !x.reqs.any Req.isHeld && !f.addr.getLsbD 31
    && !L.reqWaits 1 f && s.mirrorWay (laneOfPort q) f.addr.toNat != .busy

/-- Two byte ranges of the arrays share a word. -/
def shareWord (a n b m : Nat) : Bool :=
  (arrayOf b).isSome && decide (wordAddr a < b + m) && decide (wordAddr b < a + n)

/-- The bytes that a write to address a reaches lie where the shadow window stands for them (R91). -/
def Lane.realAddr (L : Lane) (a : Nat) : Nat := if (shadowOf a).isSome then L.shadowAddr a else a

/-- The writes of other masters that wait in the cycle, to words of the arrays that a read of lane l takes: they are applied
first, and the read sees them (R279). Applied again by their own commands, they change nothing more. -/
def State.writesFirst (s : State) (l : LaneId) (a n : Nat) : State :=
  let meets := fun (s : State) (b m : Nat) => shareWord a n ((s.lane l).realAddr b) m && !(s.lane l).waitsInit b m
  s.pending.foldl (fun s i => match i with
    | .write q f =>
      if laneOfPort q = l && meets s f.addr.toNat f.payload.length && s.writeLands q f then
        (s.writeBlock l (.host q) f.addr.toNat f.payload).1
      else s
    | .monWr m b v =>
      let M := (s.lane l).mon
      if m = l && meets s b.toNat 4 && M.lock == .opened && !(mirrored b.toNat && (s.lane l).ready && !s.variantS) then
        (s.writeWord l .core b.toNat v).1
      else s
    | .registerWrite m w b v | .routeRamWrite m w b v | .shadowWrite m w b v =>
      if m = l && b.toNat % 4 = 0 && meets s b.toNat 4 then (s.writeWord l w b.toNat v).1 else s
    | .forwardedWrite m =>
      match takeMsg (fun x => match x with | .fwdWrite _ p b bs => some (p, b, bs) | _ => none) (s.lane l).xwk.rx with
      | some ((p, b, bs), _) => if m = l && meets s b bs.length then (s.writeBlock l (.host (portFin p)) b bs).1 else s
      | none => s
    | .remoteAccess m =>
      match takeMsg (fun x => match x with | .remote r => some r | _ => none) (s.lane l).xwk.rx with
      | some (r, _) =>
        if m = l && r.isWrite && meets s r.addr r.payload.length && s.mirrorWay l r.addr != .busy then
          (s.writeBlock l (.host (portFin r.port)) r.addr r.payload).1
        else s
      | none => s
    | .dmaBurst m c =>
      let d := (s.lane l).dch c
      if m = l && d.dstT = 0 && meets s ((d.word 3).toNat + d.moved) 64 then s.upd l fun L => L.dmaAhead c else s
    | _ => s) s

/-- A READ of the port's own lane (R279, R328). -/
def State.startRead (s : State) (p tag a n : Nat) : State :=
  let s := s.writesFirst (laneOfPort p) a n
  let (s, bs, st, off) := s.readBlock (laneOfPort p) a n (1 + p)
  let (c, d, i) := readAnswer st bs off
  s.complete p tag c d i false

/-- An access through the remote-lane window (R17, R246, R326). -/
def State.startRemote (s : State) (p tag : Nat) (isWrite : Bool) (a n : Nat) (bs : List Byte) : State :=
  if s.variantS || s.link != LinkState.up then s.complete p tag 5 [] 0 false
  else
    (s.putReq p ⟨tag, .remote isWrite a⟩).upd (laneOfPort p) fun L =>
      { L with xwk := { L.xwk with tx := L.xwk.tx ++ [XMsg.remote ⟨p, tag, isWrite, a, n, bs⟩] } }

/-- A STREAM request (R334). -/
def State.startStream (s : State) (p tag q n : Nat) (wait : Bool) : State :=
  (s.putReq p ⟨tag, .stream q n wait⟩).streamServe p q 65

/-- A request whose completion a FENCE waits for: an earlier WRITE (R331, R333). -/
def Req.isWrite (r : Req) : Bool :=
  match r.kind with
  | .mirrored _ _ => true
  | .remote w _ => w
  | _ => false

/-- A request that a later READ of the port's own lane waits for (R328): a remote-window WRITE that is mirrored to it. -/
def Req.comesBack (r : Req) : Bool :=
  match r.kind with
  | .remote w a => w && mirrored a
  | _ => false

/-- A request with its tag starts (R328). -/
def State.startReq (s : State) (p tag : Nat) (op : Nat) (f : Frame) : State :=
  let a := f.addr.toNat % 2 ^ 31
  let far := f.addr.getLsbD 31
  let n := f.len.toNat
  match op with
  | 1 => if far then s.startRemote p tag true a n f.payload else s.startWrite p tag a f.payload
  | 2 => if far then s.startRemote p tag false a n [] else s.startRead p tag a n
  | 3 => s.putReq p ⟨tag, .fence (((s.port p).reqs.filter Req.isWrite).map (·.tag)) false⟩
  | _ => s.startStream p tag (f.addr.toNat % 4) n (f.arg.getLsbD 0)

/-! ### Action writes (R331) -/

/-- An action register (R331). -/
def isAction (a : Nat) : Bool :=
  a == Reg.wptCommit || a == Reg.chnPdist || a == Reg.adcCtrl || a == Reg.jctHandover || a == Reg.cfgInstall
    || (decide (0x10020000 ≤ a) && decide (a < 0x10023000) && (a % 64 == 4 || a % 64 == 8))
    || (decide (0x100D0000 ≤ a) && decide (a < 0x100D0400) && a % 64 == 4)

/-- The frame writes an action register (R331). -/
def isActionWrite (op : Nat) (f : Frame) : Bool :=
  op == 1 && (List.range (f.len.toNat / 4)).any fun i => isAction (f.addr.toNat % 2 ^ 31 + 4 * i)

/-- A request has to wait (R290, R328, R331), with the requests of its port in flight: an action write for every earlier WRITE, a
READ of the own lane for the WRITEs that are mirrored back to it, an access to an array for its initialisation. -/
def State.waitsFor (s : State) (p : Nat) (op : Nat) (f : Frame) : Bool :=
  let rs := (s.port p).reqs
  (isActionWrite op f && rs.any Req.isWrite) || (op == 2 && !f.addr.getLsbD 31 && rs.any Req.comesBack)
    || (s.lane (laneOfPort p)).reqWaits op f

/-- The first request held back is released (R331) once it has to wait no longer, and each later one behind it. -/
def State.release (s : State) (p : Nat) : Nat → State
  | 0 => s
  | fuel + 1 =>
    match (s.port p).reqs.find? Req.isHeld with
    | some ⟨tag, .held op f⟩ =>
      if s.waitsFor p op f then s
      else
        let s := s.portUpd p fun x => { x with reqs := x.reqs.filter fun r => !(r.isHeld && r.tag == tag) }
        (s.startReq p tag op f).release p fuel
    | _ => s

/-- What held requests of a lane's ports can now start (R331). -/
def State.releaseAll (s : State) : State := (List.range 4).foldl (fun s p => s.release p 65) s

/-- A tagged request arrives (R290, R328, R331): it starts, or is held back. -/
def State.takeReq (s : State) (p : Nat) (op : Nat) (f : Frame) : State :=
  if (s.port p).reqs.any Req.isHeld || s.waitsFor p op f then
    s.portUpd p fun x => { x with reqs := x.reqs ++ [⟨frameTag f, .held op f⟩] }
  else (s.startReq p (frameTag f) op f).releaseAll

/-! ### FENCE and remote accesses -/

/-- A FENCE completes once no write that it covers is left (R333): the merge buffers of the lanes are flushed, and the
single-lane mark is set in SOLO or where a covered write carried it. -/
def State.fenceComplete (s : State) (p tag : Nat) : State :=
  match (s.port p).reqs.find? fun r => r.tag == tag with
  | some ⟨_, .fence [] m⟩ =>
    let s := s.both Lane.flushAll
    (s.complete p tag 0 [] 0 (m || (s.mirror == MirrorState.solo && !s.variantS))).releaseAll
  | _ => s

/-- Lane l takes the first frame of a kind; its arrival was acknowledged, so the sender's count of failures starts anew
(R244). -/
def State.takeX {α : Type} (s : State) (l : LaneId) (f : XMsg → Option α) (act : State → α → State) : State :=
  match takeMsg f (s.lane l).xwk.rx with
  | none => s
  | some (x, r) =>
    let s := s.upd l fun L => { L with xwk := { L.xwk with rx := r } }
    act (s.acked l) x

/-- A response of lane l to a remote access. -/
def State.respond (s : State) (l : LaneId) (r : RemoteReq) (st : Nat) (info : BitVec 32) (data : List Byte) : State :=
  s.upd l fun L => if L.on then { L with xwk := { L.xwk with tx := L.xwk.tx ++ [XMsg.response r.port r.tag st info data] } } else L

/-- A remote-window access is served in lane l (R17): a write to a mirrored range is mirrored as a local one is. -/
def State.remoteServe (s : State) (l : LaneId) (r : RemoteReq) : State :=
  if !r.isWrite then
    let s := s.writesFirst l r.addr r.len
    let (s, bs, st, off) := s.readBlock l r.addr r.len (1 + r.port)
    let (c, d, i) := readAnswer st bs off
    s.respond l r c i d
  else
    let w := s.mirrorWay l r.addr
    if w = .busy then s.respond l r 2 0 []
    else
      let (s, st) := s.writeBlock l (.host (portFin r.port)) r.addr r.payload
      if st != .ok || w == .alone then s.respond l r st.code 0 []
      else if w = .marked then s.respond l r 0 1 []
      else s.upd l fun L => if L.on then L.forward r.port r.tag r.addr r.payload true else L

/-- REMOTE_ACCESS (R17): an access to an array of a lane that initialises it waits (R290). -/
def State.remoteAccess (s : State) (l : LaneId) : State :=
  let waits := (s.lane l).xwk.rx.findSome? fun m => match m with
    | .remote r => some ((s.lane l).waitsInit r.addr r.len)
    | _ => none
  if waits == some true then s else s.takeX l (fun m => match m with | .remote r => some r | _ => none) fun s r => (s.remoteServe l r).releaseAll

/-- REMOTE_RESPONSE (R17). -/
def State.remoteResponse (s : State) (l : LaneId) : State :=
  s.takeX l (fun m => match m with | .response p t st i d => some (p, t, st, i, d) | _ => none) fun s x =>
    match x with
    | (p, t, st, i, d) =>
      let s := if st = 6 then s.portReg p fun L => L.event (Reg.hstEvent p) 3 else s
      match (s.port p).reqs.findSome? fun r => match r.kind with
          | .remote w _ => if r.tag = t then some w else none
          | _ => none with
      | some true => (s.complete p t st d 0 (i.getLsbD 0)).releaseAll
      | some false => (s.complete p t st d i false).releaseAll
      | none => s

/-- FORWARDED_WRITE (R248, R330): the write is applied in lane l with its port's number, and acknowledged; one to an array of a
lane that initialises it waits (R290). -/
def State.forwardedWrite (s : State) (l : LaneId) : State :=
  let waits := (s.lane l).xwk.rx.findSome? fun m => match m with
    | .fwdWrite _ _ a bs => some ((s.lane l).waitsInit a bs.length)
    | _ => none
  if waits == some true then s else s.takeX l (fun m => match m with | .fwdWrite n p a bs => some (n, p, a, bs) | _ => none) fun s x =>
    match x with
    | (n, p, a, bs) =>
      let s := (s.writeBlock l (.host (portFin p)) a bs).1
      s.upd l fun L => if L.on then { L with xwk := { L.xwk with tx := L.xwk.tx ++ [XMsg.fwdAck n] } } else L

/-- A mirrored write's round trip of t TCLK is shown in XWK_LAT (R254). -/
def Lane.roundTrip (L : Lane) (t : Nat) : Lane :=
  let n := satNat (t / 4) 16
  (L.setFld Reg.xwkLat 0 16 n).setFld Reg.xwkLat 16 16 (max n (L.fld Reg.xwkLat 16 16))

/-- FORWARD_ACK (R248): the host write completes, or the remote access that brought it is answered. -/
def State.forwardAck (s : State) (l : LaneId) : State :=
  s.takeX l (fun m => match m with | .fwdAck n => some n | _ => none) fun s n =>
    match (s.lane l).xwk.unacked.find? fun w => w.num == n with
    | none => s
    | some w =>
      let s := s.upd l fun L =>
        { L with xwk := { L.xwk with unacked := L.xwk.unacked.filter fun x => x.num != n } }.roundTrip (L.time - w.sentAt)
      if w.viaRemote then s.respond l ⟨w.port, w.tag, true, 0, 0, []⟩ 0 0 []
      else (s.finish w.port w.tag 0 [] 0 false).releaseAll

end Sys2Proof.Machine
end

