-- ==== Sys2Proof/Machine/XwkCore.lean ====
section
/-! DEFINITION. The Crosswalk: heartbeats, link states, the digest exchange, mirror states and rejoin, decisions of the
authority lane, and the keep-alives (11_lanes_junction.md R227, R244 to R251, 04_waypoints_routes.md R95). -/

namespace Sys2Proof.Machine

/-- Change a lane's side of the Crosswalk. -/
def Lane.xwkUpd (L : Lane) (f : Xwk → Xwk) : Lane := { L with xwk := f L.xwk }

/-! ### Keep-alives (R227) -/

/-- KEEPALIVE_TOGGLE (R227): every 0.5 µs, by the lane or, in standby, by its always-on part. -/
def State.keepToggle (s : State) (l : LaneId) : State :=
  let up := match (s.lane l).run with | .running => true | .standby => true | _ => false
  let j := s.jl l
  if up && (j.kaLost || decide (j.kaAt + 200 ≤ s.now)) then s.jlUpd l fun j => { j with kaAt := s.now, kaLost := false } else s

/-- KEEPALIVE_LOSS (R227, R234): 2 µs without a toggle; a toggle of the same cycle is in time (R20). In STANDBY the always-on
part keeps it toggling (R408). -/
def State.keepLoss (s : State) (l : LaneId) : State :=
  let j := s.jl l
  let soon := s.pending.any fun i => match i with | .keepaliveToggle m => m == l | _ => false
  if soon || j.kaLost || (s.lane l).run == .standby || decide (s.now < j.kaAt + 800) then s
  else (s.jlUpd l fun j => { j with kaLost := true }).setFence l fenceSilent

/-! ### Mirror states (R246, R248, R251) -/

/-- The mirror state becomes SOLO (R246, R250). -/
def State.toSolo (s : State) : State :=
  let s := if s.mirror == MirrorState.solo then s else s.both fun L => L.event Reg.xwkEvent 3
  let f := fun (L : Lane) => L.xwkUpd fun x => { x with copyNext := none }
  { s with mirror := .solo, laneA := f s.laneA, laneB := f s.laneB }

/-- The mirror state becomes LINKED (R251). -/
def State.toLinked (s : State) : State :=
  let f := fun (L : Lane) => L.xwkUpd fun x => { x with copyNext := none, alone := false }
  { s with mirror := .linked, laneA := f s.laneA, laneB := f s.laneB }.both fun L => L.event Reg.xwkEvent 5

/-! ### The rejoin copy leaves (R251) -/

/-- A piece of the rejoin copy: bytes of an array, the RW fields of the registers of an address range, the state of the
routes, or the cuts. -/
inductive CopyPiece where
  | mem (a n : Nat)
  | regs (lo hi : Nat)
  | routes
  | cuts
deriving DecidableEq, Repr

/-- An area in pieces of 256 bytes. -/
def areaPieces (x : Nat × Nat) : List CopyPiece :=
  (List.range ((x.2 + 255) / 256)).map fun i => .mem (x.1 + 256 * i) (min 256 (x.2 - 256 * i))

/-- The register pieces in ascending address order: the state of the routes stands where WPT_BANK_AHn show it, the cuts
after the registers of the CMB_ block, to which they belong (log entry 98). -/
def regPieces : List CopyPiece :=
  [.regs 0x10000000 0x10010000, .regs 0x10010000 (Reg.wptBankAh 0), .routes, .regs (Reg.wptBankAh 0) 0x10020000,
   .regs 0x10020000 0x10030000, .regs 0x10030000 0x10040000, .regs 0x10040000 0x10050000, .regs 0x10050000 0x10060000,
   .regs 0x10060000 0x10070000, .regs 0x10070000 0x10080000, .cuts]

/-- The pieces in ascending address order (R251). -/
def Lane.copyPlan (L : Lane) : List CopyPiece :=
  let areas := L.store.shared.foldr (insertAt (·.1)) [] ++ [(arrayBase 1, arraySize 1), (arrayBase 2, arraySize 2)]
  (areas.map areaPieces).flatten ++ regPieces

/-- A counter, or an entry of the geometry tables (R251). -/
def copyExempt (a : Nat) : Bool :=
  a == Reg.odoSynccnt || a == Reg.wptCnt || (decide (Reg.odoGeoa 0 ≤ a) && decide (a < 0x10010000))
    || (decide (0x10020000 ≤ a) && decide (a < 0x10023000) && a % 64 == 0x30)
    || (decide (0x10030000 ≤ a) && decide (a < 0x10030600) && a % 32 == 0x10)
    || (decide (0x10051000 ≤ a) && decide (a < 0x10052000) && a % 16 == 4)
    || (decide (0x10061000 ≤ a) && decide (a < 0x10061800) && a % 256 == 0x18)
    || (decide (0x10070100 ≤ a) && decide (a < 0x10070400) && a % 32 == 0x18)

/-- The RW fields that the copy carries (R251). -/
def copyMask (a : Nat) : Word :=
  if copyExempt a then 0
  else match regDesc a with
    | some d => if decide (0x10040000 ≤ a) && decide (a < 0x10040080) && a % 32 == 0x14 then d.rw &&& 0xFFFF else d.rw
    | none => 0

/-- Bytes of the arrays as the lane in service reads them, poison included. -/
def Lane.copyBytes (L : Lane) (a n : Nat) : Lane × List (Nat × List Byte × Bool) :=
  (wordsOf a n).foldl (fun r A =>
    let c := chunkOf A a n
    let (L, bs, bad) := r.1.readBytes (A + c.1) c.2 0x31 1
    (L, r.2 ++ [(A + c.1, bs, bad)])) (L, [])

/-- The lane in service reads a piece of the copy. -/
def Lane.copyRead (L : Lane) (c : CopyPiece) : Lane × CopyFrame :=
  match c with
  | .mem a n => let (L, ws) := L.copyBytes a n; (L, .mem ws)
  | .regs lo hi =>
    (L, .regs lo hi (L.regs.filter fun r => decide (lo ≤ r.1) && decide (r.1 < hi)))
  | .routes =>
    let c := L.sched
    (L, .routes c.bankAh c.bankAs c.pendAh c.pendAs c.det c.detReq)
  | .cuts => (L, .cuts L.cuts)

/-- Piece i of the copy for lane y leaves the lane in service (R251): a write that it forwards from now on comes after it. -/
def State.sendCopy (s : State) (y : LaneId) (i : Nat) : State :=
  let o := otherLane y
  let s := match (s.lane o).copyPlan[i]? with
    | some (.mem a n) => s.writesFirst o a n
    | _ => s
  s.upd o fun L =>
    match L.copyPlan[i]? with
    | none => L
    | some c =>
      let (L, f) := L.copyRead c
      L.xwkUpd fun x => { x with tx := x.tx ++ [.copy f] }

/-- The rejoin copy towards lane y begins (R234, R251). -/
def State.startRejoin (s : State) (y : LaneId) : State :=
  let s := s.setFence y fenceRejoin
  let s := { s with mirror := .rejoin }.both fun L => (L.event Reg.xwkEvent 4).xwkUpd fun x => { x with progress := 0 }
  (s.upd y fun L => L.xwkUpd fun x => { x with copyNext := some 0 }).sendCopy y 0

/-- With the link UP, equal digests and both lanes READY (R250, R251): the lane in service begins the rejoin copy to the
other; with neither in service the mirror is LINKED at once (log entry 37). -/
def State.resolveMirror (s : State) : State :=
  let a := s.laneA
  let b := s.laneB
  let ok := s.link == LinkState.up && s.mirror == MirrorState.solo && a.on && b.on && a.ready && b.ready && a.xwk.exchanged
    && b.xwk.exchanged && a.ownDigest == b.ownDigest
  if !ok then s
  else match votedLane s.jct.voted with
    | some x => s.startRejoin (otherLane x)
    | none =>
      if a.xwk.alone && b.xwk.alone then s.startRejoin (otherLane s.pref)
      else if a.xwk.alone then s.startRejoin .b
      else if b.xwk.alone then s.startRejoin .a
      else s.toLinked

/-! ### Link states (R245, R246, R249) -/

/-- The lane that stays in service when the link goes DOWN (R246). -/
def State.stays (s : State) : LaneId :=
  let x := (votedLane s.jct.voted).getD s.pref
  if !(s.lane x).on || (s.fence x).getLsbD fenceSilent then otherLane x else x

/-- A port's requests as the link goes DOWN (R246, R249): remote accesses end ABSENT, also those of a lane in standby; forwarded
writes complete with the single-lane mark in the lane in service; in the other, which has applied them and is fenced, with ABORTED
(log entry 68). A lane that has stopped completes none. -/
def State.portDown (s : State) (stay : LaneId) (p : Nat) : State :=
  let L := s.lane (laneOfPort p)
  if !L.on && L.run != .standby then s else
  let fwd := (s.lane (laneOfPort p)).xwk.unacked.filter fun w => w.port == p && !w.viaRemote
  let s := (s.port p).reqs.foldl (fun s r => match r.kind with
    | .remote _ _ => s.complete p r.tag 5 [] 0 false
    | _ => s) s
  fwd.foldl (fun s w => if laneOfPort p = stay then s.finish p w.tag 0 [] 0 true else s.finish p w.tag 6 [] 0 false) s

/-- One lane as the link goes DOWN: event, count, fault, the remote lines and the frames under way lost (R246, R253,
R354). A lane in standby counts no heartbeats and raises nothing (R408), but its remote lines are lost all the same. -/
def Lane.linkLost (L : Lane) : Lane :=
  let L := if L.on then ((L.event Reg.xwkEvent 0).count Reg.xwkHb 0 16).raise .xwkXwkDown 0 else L
  let L := (L.event Reg.icuEvent 1).icuUpd fun c => { c with remote := 0, sent := 0 }
  L.xwkUpd fun x => { x with
    rx := x.rx.filter XMsg.isHb, tx := x.tx.filter XMsg.isHb, unacked := [], good := 0, retries := 0, exchanged := false
    digestIn := none }

/-- The link goes DOWN (R246, R249). -/
def State.linkDown (s : State) : State :=
  let stay := s.stays
  let s := (List.range 4).foldl (fun s p => s.portDown stay p) s
  let f := fun (s : State) (l : LaneId) => s.upd l fun L => if L.on || L.run == .standby then L.linkLost else L
  let s := f (f { s with link := .down } .a) .b
  let s := (s.toSolo.upd stay fun L => L.xwkUpd fun x => { x with alone := true }).setFence (otherLane stay) fenceXwk
  s.releaseAll

/-- The link returns to UP (R245, R250, R354): each lane that has reported reports again, and the present state of each remote
line is sent again. -/
def State.linkUp (s : State) : State :=
  let g := fun (s : State) (l : LaneId) => s.upd l fun L =>
    if L.on then ((L.event Reg.xwkEvent 1).sendLines l true true).xwkUpd fun x => { x with exchanged := false } else L
  let s := g (g { s with link := .up } .a) .b
  (s.sendReport .a).sendReport .b

/-- HEARTBEAT_SEND (R245). -/
def State.beatSend (s : State) (l : LaneId) : State :=
  let L := s.lane l
  if s.variantS || decide (L.time < L.xwk.sentAt + 400) then s
  else
    let s := s.upd l fun L => L.readTriple 3
    let h : Heartbeat :=
      { claim := BitVec.ofNat 2 (s.claim l), ready := L.ready, odo := L.odo.state, dir := L.odo.dir, angle := L.odo.word
        cycle := L.odo.cycle, seq := L.ownSeq, mirror := mirrorCode s.mirror, fatal := L.bit Reg.fltPend 2 }
    s.upd l fun L => L.xwkUpd fun x => { x with tx := XMsg.heartbeat h :: x.tx, sentAt := L.time }

/-- HEARTBEAT (R245): the missed count clears; 16 consecutive good ones in both lanes bring the link UP. -/
def State.beat (s : State) (l : LaneId) : State :=
  match takeMsg (fun m => match m with | .heartbeat h => some h | _ => none) (s.lane l).xwk.rx with
  | none => s
  | some (h, r) =>
    let s := s.upd l fun L => L.xwkUpd fun x => { x with
      rx := r, hb := some h, missed := 0, slotAt := L.time, good := if s.link == LinkState.up then 0 else x.good + 1 }
    match s.link with
    | .down => { s with link := .train }
    | .train => if 16 ≤ s.laneA.xwk.good ∧ 16 ≤ s.laneB.xwk.good then s.linkUp else s
    | .up => s

/-- A running lane receives a frame with a bad CRC (R244, R254). -/
def State.xwkBad (s : State) (l : LaneId) (bad : Bool) : State :=
  if bad && (s.lane l).on then s.upd l fun L => L.count Reg.xwkCnt 0 16 else s

/-- A heartbeat that comes with a bad CRC is lost, for heartbeats are never sent again (R244). -/
def Lane.beatLost (L : Lane) : Lane := L.xwkUpd fun x => { x with rx := x.rx.eraseP XMsg.isHb }

/-- HEARTBEAT_MISSED (R245): a slot without a good heartbeat; one that arrives in the same cycle is in time (R20). -/
def State.beatMissed (s : State) (l : LaneId) (bad : Bool) : State :=
  let s := if bad && (s.lane l).on && !decide ((s.lane l).time < (s.lane l).xwk.slotAt + 400) then s.upd l Lane.beatLost else s
  let L := s.lane l
  let soon := s.pending.any fun i => match i with | .heartbeat m => m == l | _ => false
  if soon || L.xwk.rx.any XMsg.isHb || s.variantS || decide (L.time < L.xwk.slotAt + 400) then s
  else
    let n := min (L.xwk.missed + 1) 4
    let s := (s.xwkBad l bad).upd l fun L => L.xwkUpd fun x => { x with missed := n, slotAt := L.time, good := 0 }
    if n < 4 then s
    else match s.link with
      | .up => s.linkDown
      | .train => { s with link := .down }
      | .down => s

/-- The arrival of a frame of lane l at the other stands in the queue of this cycle: it is in time (R20). -/
def State.frameSoon (s : State) (l : LaneId) : Bool :=
  s.pending.any fun i => match i with
    | .swapDecision m | .guardVerdict m | .remoteLine m | .hostSilenceNotice m | .rejoinCopy m | .digestExchange m
    | .forwardedWrite m | .forwardAck m | .remoteAccess m | .remoteResponse m => m == otherLane l
    | _ => false

/-- RETRY (R244): a frame of lane l, not acknowledged within 1 µs, is sent again; the fourth failure takes the link DOWN. -/
def State.retry (s : State) (l : LaneId) (bad : Bool) : State :=
  if s.link != LinkState.up || !s.outstanding l || s.frameSoon l || decide (s.now < (s.lane l).xwk.frameAt + 400) then s
  else
    let s := s.xwkBad (otherLane l) bad
    let n := (s.lane l).xwk.retries + 1
    if 4 ≤ n then s.linkDown
    else s.upd l fun L => ((L.event Reg.xwkEvent 2).count Reg.xwkCnt 16 16).xwkUpd fun x => { x with retries := n, frameAt := s.now }

/-! ### Digest exchange (R250, R297) -/

/-- The other lane's report is shown in XWK_OTHER_SEQ and XWK_OTHER_DIGj (R254). -/
def Lane.otherReport (L : Lane) (seq : BitVec 32) (dig : BitVec 256) : Lane :=
  let L := (digestWords dig).zipIdx.foldl (fun L x => L.setReg (Reg.xwkOtherDig x.2) x.1) (L.setReg Reg.xwkOtherSeq seq)
  L.xwkUpd fun x => { x with exchanged := true, digestIn := none }

/-- The fences that different digests leave (R234, R250): the lane with the higher number, the preferred lane for equal
ones, serves alone. -/
def State.digestDiffers (s : State) (l : LaneId) (win : LaneId) : State :=
  let lose := otherLane win
  let s := (((s.setFence lose fenceDigest).clearFence win fenceDigest).clearFence win fenceXwk).clearFence win fenceRejoin
  let s := (s.toSolo.upd win fun L => L.xwkUpd fun x => { x with alone := true }).upd lose fun L => L.xwkUpd fun x => { x with alone := false }
  s.upd l fun L => (L.event Reg.jctEvent 8).raise .xwkDigest 0

/-- The preferred lane decides the exchange: equal sequence numbers with different digests (R250). -/
def ownSeqOnly (seq : BitVec 32) (dig : BitVec 256) (L : Lane) : Bool := L.ownSeq == seq && L.ownDigest != dig

/-- DIGEST_EXCHANGE (R250). -/
def State.digestExchange (s : State) (l : LaneId) : State :=
  let L := s.lane l
  match L.xwk.digestIn with
  | none => s
  | some (seq, dig) =>
    if s.link != LinkState.up || L.reported.isNone then s
    else
      let s := s.upd l fun L => if ownSeqOnly seq dig L then (L.readTriple 3).readTriple 0 else L.readTriple 3
      let own := L.ownDigest
      let ownSeq := L.ownSeq
      let s := (s.upd l fun L => L.otherReport seq dig).acked l
      let s := if L.ready then s.upd l fun L => { L with standby := true }
        else if L.store.image.isSome && L.fld Reg.cfgBoot 28 4 == 8 then s.becomeReady l
        else s
      let s := if own = dig then (s.clearFence l fenceDigest).clearFence (otherLane l) fenceDigest
        else s.digestDiffers l (if ownSeq = seq then (s.lane l).pref s.variantS else if seq.toNat < ownSeq.toNat then l else otherLane l)
      s.resolveMirror

/-! ### Arrival of the rejoin copy (R251) -/

/-- ADCa_CTRL: a copy that changes it stops a channel that is enabled, for its other fields are protected until then (R213, R251;
log entry 98). -/
def capCtrl (a : Nat) : Bool := decide (0x10060400 ≤ a) && decide (a < 0x10060A00) && a % 64 == 0

/-- A function that the copy starts takes its EN once the frame's other fields are in place (log entry 98). -/
def startsFunction (a : Nat) : Bool :=
  a == Reg.odoCtrl || a == Reg.wptCtrl || capCtrl a
    || (decide (0x10061000 ≤ a) && decide (a < 0x10061800) && a % 256 == 0)

/-- The RW fields of one register, with the value v, arrive at lane l. -/
def State.copyReg (s : State) (l : LaneId) (a : Nat) (v : Word) : State :=
  let m := copyMask a
  let v := v &&& m
  let w := (s.lane l).reg a
  if w &&& m = v then s
  else if startsFunction a then
    let s := if capCtrl a && w.getLsbD 31 then (s.writeReg l .core a (setBits w 31 1 0)).1 else s
    (s.writeReg l .core a v).1
  else s.upd l fun L =>
    let L := L.setReg a ((w &&& ~~~m) ||| v)
    if decide (Reg.quadCtrl 0 ≤ a) && decide (a < Reg.quadCtrl 48) && a % 16 == 0 then L.clearOdd ((a - Reg.quadCtrl 0) / 16) else L

/-- A frame of the copy is stored in lane l. -/
def State.copyStore (s : State) (l : LaneId) (c : CopyFrame) : State :=
  match c with
  | .mem ws => s.upd l fun L => ws.foldl (fun L w => if w.2.2 then L.poisonBytes w.1 w.2.1 0x31 else L.writeBytes w.1 w.2.1 0x31) L
  | .regs lo hi rs =>
    let as_ := (rs ++ (s.lane l).regs).map (·.1) |>.filter fun a => decide (lo ≤ a) && decide (a < hi)
    let put := fun (s : State) (a : Nat) => s.copyReg l a ((rs.lookup a).getD (regReset a))
    let s := (as_.filter fun a => !startsFunction a).foldl put s
    (as_.filter startsFunction).foldl put s
  | .routes bh ba ph pa d q => s.upd l fun L => L.schedUpd fun c => { c with
      bankAh := bh, bankAs := ba, pendAh := ph, pendAs := pa, det := d, detReq := q }
  | .cuts cs => s.upd l fun L => { L with cuts := cs }

/-- Bytes that a frame of the copy counts for in XWK_STAT. -/
def CopyFrame.size : CopyFrame → Nat
  | .mem ws => (ws.map fun w => w.2.1.length).sum
  | _ => 256

/-- REJOIN_COPY (R251): a frame of the copy arrives at the rejoining lane, and the next one leaves. -/
def State.rejoinCopy (s : State) (l : LaneId) : State :=
  s.takeX l (fun m => match m with | .copy c => some c | _ => none) fun s c =>
    match (s.lane l).xwk.copyNext with
    | none => s
    | some i =>
      let s := (s.copyStore l c).both fun L => L.xwkUpd fun x => { x with progress := x.progress + c.size }
      (s.upd l fun L => L.xwkUpd fun x => { x with copyNext := some (i + 1) }).sendCopy l (i + 1)

/-- REJOIN_DONE (R251): once every piece has arrived. -/
def State.rejoinDone (s : State) (l : LaneId) : State :=
  match (s.lane l).xwk.copyNext with
  | none => s
  | some i =>
    if i < (s.lane (otherLane l)).copyPlan.length then s
    else ((s.toLinked).clearFence l fenceXwk).clearFence l fenceRejoin

/-! ### Decisions, lines and notices that arrive -/

/-- SWAP_DECISION (R95): acted on by the route that waits for it, kept until the route's own start of that route cycle, and
discarded once that route cycle has been decided. -/
def State.swapDecision (s : State) (l : LaneId) : State :=
  s.takeX l (fun m => match m with | .decision d => some d | _ => none) fun s d =>
    s.upd l fun L =>
      let t := L.route d.route
      if t.decWait.isSome && t.rcn == d.rcn then (L.estSync d).decideSwap s.now d.route d.swapAh d.swapAs
      else if t.decMissed == some d.rcn then L.routeUpd d.route fun t => { t with decMissed := none }
      else if t.phase == .running && !t.isPartial && t.decWait.isNone && decide ((t.rcn - d.rcn).toNat < 2 ^ 31) then L
      else L.keepDecision d

/-- SWAP_DECISION_TIMEOUT (R95): 4 µs without a decision; one that arrives in the same cycle is in time (R20). -/
def State.swapTimeout (s : State) (l : LaneId) (r : Nat) : State :=
  let L := s.lane l
  let soon := s.pending.any fun i => match i with | .swapDecision m => m == l | _ => false
  match (L.route r).decWait with
  | some t =>
    if soon || decide (L.time < t + 1600) then s
    else s.upd l fun L =>
      (((L.event Reg.wptEvent 0).raise .wptDecMiss r).routeUpd r fun t => { t with decMissed := t.missed }).decideSwap s.now r
        (L.sched.pendAh.getLsbD r) (L.sched.pendAs.getLsbD r)
  | none => s

/-- GUARD_VERDICT (R223). -/
def State.verdict (s : State) (l : LaneId) : State :=
  (s.upd l Lane.verdictArrive).acked l

/-- REMOTE_LINE (R354): the line of a target of the other lane, for a port of this one. -/
def State.remoteLine (s : State) (l : LaneId) : State :=
  s.takeX l (fun m => match m with | .line t on => some (t, on) | _ => none) fun s x =>
    s.upd l fun L => L.icuUpd fun c => { c with
      remote := putBit c.remote (if x.1 = remoteTarget (otherLane l) 0 then 0 else 1) x.2 }

/-- HOST_SILENCE_NOTICE (R340). -/
def State.silenceNotice (s : State) (l : LaneId) : State :=
  s.takeX l (fun m => match m with | .silence p => some p | _ => none) fun s p => s.upd l fun L => L.hostSilence p

end Sys2Proof.Machine
end

