-- ==== Sys2Proof/Machine/Acquisition.lean ====
section
/-! DEFINITION. The commands of the acquisition and of the combustion unit (09_acquisition.md, 10_combustion.md). -/

namespace Sys2Proof.Machine

/-- MAIN_OUTPUT (R196). A main-path output completes, and the waiting marks are placed as samples into frames. -/
def execMainOutput (l : LaneId) (a : Fin 24) (x : Int) (overload : Bool) (s : State) : Host.Outcome State Fault Refusal :=
  laneCmd l s fun s => s.upd l fun L => L.mainOutput l a x overload

/-- FAST_OUTPUT (R200). A fast-path output is compared with the window comparator and may open a window or request an injected conversion. -/
def execFastOutput (l : LaneId) (a : Fin 24) (x : BitVec 12) (s : State) : Host.Outcome State Fault Refusal :=
  laneCmd l s fun s => s.upd l fun L => L.fastOutput a x

/-- SCAN_CONVERSION_DONE (R191). A scan or injected conversion completes, its result enters the queue and the next entry starts. -/
def execScanConversionDone (l : LaneId) (m : Fin 8) (x : Int) (overload : Bool) (s : State) : Host.Outcome State Fault Refusal :=
  laneCmd l s fun s => s.scanRow l m x overload

/-- GO (R204). A write of GO triggers a scan pass. -/
def execGo (l : LaneId) (m : Fin 8) (v : Word) (s : State) : Host.Outcome State Fault Refusal :=
  laneCmd l s fun s => s.regWrite l (Reg.scCtrl m) v

/-- INJ (R205). A software request sets an injected slot pending, which preempts the sequence. -/
def execInj (l : LaneId) (m : Fin 8) (v : Word) (s : State) : Host.Outcome State Fault Refusal :=
  laneCmd l s fun s => s.regWrite l (Reg.scInj m) v

/-- SCAN_ENABLE (R204). EN written 1 to ADC_SCm_CTRL starts the scan modulator converting its sequence, or awaiting a trigger with PASS = 1. -/
def execScanEnable (l : LaneId) (m : Fin 8) (v : Word) (s : State) : Host.Outcome State Fault Refusal :=
  laneCmd l s fun s => s.regWrite l (Reg.scCtrl m) v

/-- CAL (R209). A write of CAL = 1 starts self-calibration of every enabled modulator. -/
def execCal (l : LaneId) (v : Word) (s : State) : Host.Outcome State Fault Refusal :=
  laneCmd l s fun s => s.regWrite l Reg.adcCtrl v

/-- CALIBRATION_DONE (R210). A modulator's calibration completes and its coefficients are accepted or rejected. -/
def execCalibrationDone (l : LaneId) (u : Modulator) (ofs : Int) (gain : BitVec 24) (s : State) : Host.Outcome State Fault Refusal :=
  laneCmd l s fun s => s.upd l fun L => L.calDone (modulatorNum u) ofs gain

/-- REFILL_DONE (R203). An angle channel's main path is refilled after calibration or IDLE, and capture re-arms. -/
def execRefillDone (l : LaneId) (a : Fin 24) (s : State) : Host.Outcome State Fault Refusal :=
  laneCmd l s fun s => s.upd l fun L => L.refillDone a

/-- ANGLE_CHANNEL_ENABLE (R213). EN written 1 arms an angle channel, or the enable is refused. -/
def execAngleChannelEnable (l : LaneId) (a : Fin 24) (v : Word) (s : State) : Host.Outcome State Fault Refusal :=
  laneCmd l s fun s => s.regWrite l (Reg.acCtrl a) v

/-- ANGLE_CHANNEL_DISABLE (R203). EN written 0 stops the modulator and closes an open frame as ABORTED. -/
def execAngleChannelDisable (l : LaneId) (a : Fin 24) (v : Word) (s : State) : Host.Outcome State Fault Refusal :=
  laneCmd l s fun s => s.regWrite l (Reg.acCtrl a) v

/-- ADC_PROTECTED_WRITE (R213). A write to a protected acquisition field while enabled is ignored and sets CFG_REJ. -/
def execAdcProtectedWrite (l : LaneId) (reg : AdcProtReg) (v : Word) (s : State) : Host.Outcome State Fault Refusal :=
  laneCmd l s fun s => s.regWrite l (adcProtAddr reg) v

/-- QRD_WRITE (R208). A host write to QRD consumes result-queue entries. -/
def execQrdWrite (l : LaneId) (m : Fin 8) (v : Word) (s : State) : Host.Outcome State Fault Refusal :=
  laneCmd l s fun s => s.regWrite l (Reg.scQrd m) v

/-- SUMMARY_WRITTEN (R219). A combustion summary record is written after a frame closes, and the guard is evaluated. -/
def execSummaryWritten (l : LaneId) (c : Fin 24) (s : State) : Host.Outcome State Fault Refusal :=
  laneCmd l s fun s => s.summary l c

/-- GUARD_VERDICT (R223). The authority lane's guard verdict arrives at the standby lane and is acted on. -/
def execGuardVerdict (l : LaneId) (s : State) : Host.Outcome State Fault Refusal := laneCmd l s fun s => s.verdict l

/-- GUARD_VERDICT_TIMEOUT (R223). No verdict has arrived within 4 µs, so the standby lane acts on its own verdict and sets DEC_MISS. -/
def execGuardVerdictTimeout (l : LaneId) (c : Fin 24) (s : State) : Host.Outcome State Fault Refusal :=
  laneCmd l s fun s => s.verdictTimeoutRow l c

/-- CUT_CLR (R222). A write of 1 to CUT_CLR ends the cylinder's cut at once. -/
def execCutClr (l : LaneId) (c : Fin 24) (v : Word) (s : State) : Host.Outcome State Fault Refusal :=
  laneCmd l s fun s => s.regWrite l (Reg.cylCtrl c) v

/-- COMBUSTION_CONFIG_WRITE (R225). A write to a protected combustion field while the unit is enabled is ignored and sets CFG_REJ. -/
def execCombustionConfigWrite (l : LaneId) (addr : BitVec 32) (v : Word) (s : State) : Host.Outcome State Fault Refusal :=
  laneCmd l s fun s => if addr.toNat / 0x10000 == 0x1007 && addr.toNat % 4 == 0 then s.regWrite l addr.toNat v else s

end Sys2Proof.Machine
end

