-- ==== Sys2Proof/Machine/PortRows.lean ====
section
/-! DEFINITION. Conditions of rows that time or the outside brings: the host ports' timers, bus and clock-stretch
timeouts, the always-on part, and plain register writes (01_architecture.md R7, R18, R20, 15_host_ports.md R336 to R340,
17_dma.md R365, 19_two_wire.md R394, R395, 20_clocks_power.md R398 to R401). -/

namespace Sys2Proof.Machine

/-- REGISTER_WRITE (R7, R18): a word written at an aligned lane-local address; an unmapped address that the service core
names raises DECODE, and a host only sees its status. A write that reaches an array during its initialisation waits (R290). -/
def State.registerWrite (s : State) (l : LaneId) (w : Writer) (a : Nat) (v : Word) : State :=
  if a % 4 ≠ 0 then s
  else if (s.lane l).waitsInit a 4 then s.upd l fun L => L.waitWrite w a (leBytes v.toNat 4)
  else
    let (s, st) := s.writeWord l w a v
    if st == Status.decode && writerCore w then s.upd l fun L => L.coreDecode a 2 else s

/-! ### Host ports -/

/-- MODERATION_TIMEOUT (R336). -/
def State.modTimeout (s : State) (p : Nat) : State :=
  match (s.port p).modEnd with
  | some t => if t ≤ s.now then s.modExpire p else s
  | none => s

/-- PORT_READY (R339): 5 µs after the wake. -/
def State.portReady (s : State) (p : Nat) : State :=
  s.portUpd p fun x => match x.wakeTo with
    | some t => if t ≤ s.now then { x with wakeTo := none } else x
    | none => x

/-- The port, opcode and frame of a command that brings one. -/
def frameOf : Instr → Option (Nat × Byte × Frame)
  | .nop p f => some (p.val, 0, f)
  | .write p f => some (p.val, 1, f)
  | .read p f => some (p.val, 2, f)
  | .fence p f => some (p.val, 3, f)
  | .readResp p f _ => some (p.val, 4, f)
  | .doze p f => some (p.val, 5, f)
  | .stream p f => some (p.val, 6, f)
  | .badReq p op f => some (p.val, op, f)
  | _ => none

/-- HOST_WDOG (R340): the watchdog has run out, and no frame with a valid CRC arrives in the same cycle (R20). -/
def State.wdogTimeout (s : State) (p : Nat) : State :=
  let soon := s.pending.any fun i => match frameOf i with
    | some (p', op, f) =>
      p' == p && (s.port p).awake s.now && !(s.lane (laneOfPort p)).held (laneOfPort p) (Reg.hstStat p) && frameGood op f
    | none => false
  match (s.port p).wdEnd with
  | some t => if (s.lane (laneOfPort p)).on && !soon && decide (t ≤ s.now) then s.wdExpire p else s
  | none => s

/-! ### Byway queues (R380) -/

/-- An access that the commands waiting in the cycle will make to a lane's registers: the words written from an address on, or
how many are read. -/
inductive RegAccess where
  | wr (a : Nat) (bs : List Byte)
  | rd (a n : Nat)
deriving DecidableEq, Repr

/-- The access that a waiting command makes to the registers of lane l (R7, R17, R328, R414). -/
def State.accessSoon (s : State) (l : LaneId) (i : Instr) : Option RegAccess :=
  let open_ := (s.lane l).mon.lock == .opened
  match i with
  | .txqWrite m _ e v => if m = l then some (.wr (Reg.bywTxq e.val) (leBytes v.toNat 4)) else none
  | .rxqRead m e => if m = l then some (.rd (Reg.bywRxq e.val) 4) else none
  | .registerWrite m _ a v => if m = l then some (.wr a.toNat (leBytes v.toNat 4)) else none
  | .monWr m a v => if m = l && open_ then some (.wr a.toNat (leBytes v.toNat 4)) else none
  | .monRd m a n => if m = l && open_ && decide (n ≤ 8) then some (.rd a.toNat (4 * n)) else none
  | .write q f => if laneOfPort q = l && s.writeLands q f then some (.wr f.addr.toNat f.payload) else none
  | .read q f => if laneOfPort q = l && s.readLands q f then some (.rd f.addr.toNat f.len.toNat) else none
  | .remoteAccess m =>
    match takeMsg (fun x => match x with | .remote r => some r | _ => none) (s.lane l).xwk.rx with
    | some (r, _) => if m != l then none else some (if r.isWrite then .wr r.addr r.payload else .rd r.addr r.len)
    | none => none
  | _ => none

/-- The words that an access puts into TX of engine e (R380). -/
def RegAccess.txWords (e : Nat) : RegAccess → List Word
  | .wr a bs => (wordsLe bs).zipIdx.filterMap fun w => if a + 4 * w.2 = Reg.bywTxq e then some w.1 else none
  | .rd _ _ => []

/-- How many entries an access takes from RX of engine e (R380, R385). -/
def RegAccess.rxReads (e : Nat) : RegAccess → Nat
  | .rd a n => ((List.range (n / 4)).filter fun k => rxqOf (a + 4 * k) == some e).length
  | .wr _ _ => 0

/-- The host's accesses to the queues of engine e that wait in the cycle come before the engine's own (R380). -/
def State.hostAhead (s : State) (l : LaneId) (e : Nat) : State :=
  let xs := s.pending.filterMap (s.accessSoon l)
  let ws := (xs.map (RegAccess.txWords e)).flatten
  let n := (xs.map (RegAccess.rxReads e)).foldl (· + ·) 0
  if ws.isEmpty && n = 0 then s
  else s.upd l fun L =>
    (L.txAhead e (ws.drop (L.eng e).txEarly)).engUpd e fun b => { b with rxEarly := min n (b.rx.length - b.pushed) }

/-- A command of engine e's cycle. -/
def State.bywTurn (s : State) (l : LaneId) (e : Nat) (f : Lane → Lane) : State := (s.hostAhead l e).upd l f

/-! ### DMA and two-wire bus -/

/-- DMA_TIMEOUT (R365): the response that a waiting DMA_BURST, DESCRIPTOR_FETCH or DESCRIPTOR_DONE brings wins (R20). -/
def State.dmaTimeoutRow (s : State) (l : LaneId) (c addr : Nat) : State :=
  let soon := s.pending.any fun i => match i with
    | .dmaBurst m d | .descriptorFetch m d | .descriptorDone m d => m == l && d.val == c
    | _ => false
  if soon then s else s.upd l fun L => L.dmaTimeout c addr

/-- The end of the controller's command waits in the same cycle, so SCL was released in time (R20). -/
def State.twiSoon (s : State) (l : LaneId) : Bool :=
  s.pending.any fun i => match i with | .twiCommandEnd m _ => m == l | _ => false

/-- BUS_STUCK (R394). -/
def State.busStuckRow (s : State) (l : LaneId) (sda : Bool) : State :=
  if s.twiSoon l then s else s.upd l fun L => L.twiStuck sda

/-- A transfer to the target waits in the same cycle, so SCL was released in time (R20). -/
def State.targetSoon (s : State) (l : LaneId) : Bool :=
  s.pending.any fun i => match i with | .targetWrite m _ _ | .targetRead m _ _ => m == l | _ => false

/-- TWI_TIMEOUT (R395): of the controller's command, and of a transfer to the target. -/
def State.twiTimeoutRow (s : State) (l : LaneId) : State := s.twiTimeout l (!s.twiSoon l) (!s.targetSoon l)

/-- A transfer addresses a lane's target (R390, R393): in standby the always-on part compares the address, and a match wakes the
lane and is not acknowledged. -/
def State.targetRow (s : State) (l : LaneId) (addr : Nat) (f : Lane → Lane) : State :=
  let L := s.lane l
  if L.run == .standby then (if (L.twiMatch addr).isSome then s.wakeBy l 5 else s)
  else if L.on then s.upd l f else s

/-- PRIVILEGED_WAKE (R355, R393, R409): WAKE_TWI arrives only where the target's settings match some address. -/
def State.wakeRow (s : State) (l : LaneId) (i : Nat) : State :=
  if i = 5 ∧ (List.range 128).all (fun a => ((s.lane l).twiMatch a).isNone) = true then s else s.wakeBy l i

/-! ### Power -/

/-- LANE_RESTART (R399, R401): the key in CLK_RST, taken also by a lane that a clock fault has stopped. -/
def State.restartRow (s : State) (l : LaneId) (v : Word) : State :=
  let L := s.lane l
  if L.on then s.regWrite l Reg.clkRst v
  else if L.run == .stopped && L.power.clockFault && bits v 16 16 == 0xC3A5 then s.warmReset l 1
  else s

/-- CORE_WDOG (R401): a kick in the same cycle wins (R20). The watchdog lies in the always-on part and runs whenever VSUP is
present (R398). -/
def State.coreWdogRow (s : State) (l : LaneId) : State :=
  let soon := (s.lane l).on && s.pending.any fun i => match i with | .coreWdogKick m _ => m == l | _ => false
  if soon || (s.lane l).run == .off then s else s.coreWdog l

/-- What the always-on part does whenever VSUP is present (R398). -/
def State.alwaysOn (s : State) (l : LaneId) (f : Lane → Lane) : State :=
  s.upd l fun L => if L.run == .off then L else f L

end Sys2Proof.Machine
end

