-- ==== Sys2Proof/Machine/Byways.lean ====
section
/-! DEFINITION. The commands of the byway engines (18_byways.md). -/

namespace Sys2Proof.Machine

/-- BRANCH (R374). The byway engine executes BRANCH. -/
def execBranch (l : LaneId) (e : Fin 8) (s : State) : Host.Outcome State Fault Refusal :=
  laneCmd l s fun s => s.bywTurn l e fun L => L.bywFetch e [1]

/-- WAIT (R378). The byway engine executes WAIT and stalls until its condition holds. -/
def execWaitInstr (l : LaneId) (e : Fin 8) (s : State) : Host.Outcome State Fault Refusal :=
  laneCmd l s fun s => s.bywTurn l e fun L => L.bywFetch e [2]

/-- SHIFT (R376). The byway engine executes SHIFT with its queue links. -/
def execShift (l : LaneId) (e : Fin 8) (s : State) : Host.Outcome State Fault Refusal :=
  laneCmd l s fun s => s.bywTurn l e fun L => L.bywFetch e [3]

/-- MOVE (R374). The byway engine executes MOVE, including pushes and pulls. -/
def execMove (l : LaneId) (e : Fin 8) (s : State) : Host.Outcome State Fault Refusal :=
  laneCmd l s fun s => s.bywTurn l e fun L => L.bywFetch e [4]

/-- COUNT (R374). The byway engine executes COUNT. -/
def execCount (l : LaneId) (e : Fin 8) (s : State) : Host.Outcome State Fault Refusal :=
  laneCmd l s fun s => s.bywTurn l e fun L => L.bywFetch e [5]

/-- TIME (R374). The byway engine executes TIME on the local timer. -/
def execTime (l : LaneId) (e : Fin 8) (s : State) : Host.Outcome State Fault Refusal :=
  laneCmd l s fun s => s.bywTurn l e fun L => L.bywFetch e [6]

/-- MARK_INSTRUCTION (R374). The byway engine executes MARK on a flag or on BYW_PIRQ. -/
def execMarkInstr (l : LaneId) (e : Fin 8) (s : State) : Host.Outcome State Fault Refusal :=
  laneCmd l s fun s => s.bywTurn l e fun L => L.bywFetch e [7]

/-- CAPTURE (R374). The byway engine executes CAPTURE of a pin edge stamp. -/
def execCapture (l : LaneId) (e : Fin 8) (s : State) : Host.Outcome State Fault Refusal :=
  laneCmd l s fun s => s.bywTurn l e fun L => L.bywFetch e [8]

/-- ANGLE (R374). The byway engine executes ANGLE, storing an angle record. -/
def execAngle (l : LaneId) (e : Fin 8) (s : State) : Host.Outcome State Fault Refusal :=
  laneCmd l s fun s => s.bywTurn l e fun L => L.bywFetch e [9]

/-- STALL_RELEASE (R375). A stalled instruction's condition holds at an engine cycle, so it completes. -/
def execStallRelease (l : LaneId) (e : Fin 8) (s : State) : Host.Outcome State Fault Refusal :=
  laneCmd l s fun s => s.bywTurn l e fun L => L.bywRelease e

/-- ENGINE_CYCLE (R375). A byway engine cycle in which the engine idles for DELAY or re-evaluates a stall that does not complete: LT decrements and the idle count falls. -/
def execEngineCycle (l : LaneId) (e : Fin 8) (s : State) : Host.Outcome State Fault Refusal :=
  laneCmd l s fun s => s.bywTurn l e fun L => L.bywIdle e

/-- BYWAY_INJECT (R382). A write to BYWe_INJ executes one instruction on the next PCLK, or sets INJ_FAIL. -/
def execBywayInject (l : LaneId) (e : Fin 8) (v : Word) (s : State) : Host.Outcome State Fault Refusal :=
  laneCmd l s fun s => s.regWrite l (Reg.bywInj e) v

/-- ENGINE_ENABLE (R384). EN written 1 starts the engine at its PC. -/
def execEngineEnable (l : LaneId) (e : Fin 8) (v : Word) (s : State) : Host.Outcome State Fault Refusal :=
  laneCmd l s fun s => s.regWrite l (Reg.bywCtrl e) v

/-- ENGINE_DISABLE (R384). EN written 0 stops the engine, keeping all its state. -/
def execEngineDisable (l : LaneId) (e : Fin 8) (v : Word) (s : State) : Host.Outcome State Fault Refusal :=
  laneCmd l s fun s => s.regWrite l (Reg.bywCtrl e) v

/-- ENGINE_CLR (R384). CLR written 1 clears the PC, the registers, the timer and the accumulator. -/
def execEngineClr (l : LaneId) (e : Fin 8) (v : Word) (s : State) : Host.Outcome State Fault Refusal :=
  laneCmd l s fun s => s.regWrite l (Reg.bywCtrl e) v

/-- ENGINE_CONFIG_WRITE (R384). A rate, pin or queue configuration write is ignored while EN = 1, and a QPOOL write empties the queues. -/
def execEngineConfigWrite (l : LaneId) (e : Fin 8) (reg : BywCfgReg) (v : Word) (s : State) : Host.Outcome State Fault Refusal :=
  laneCmd l s fun s => s.regWrite l (bywCfgAddr e reg) v

/-- TXQ_WRITE (R380). A host write to BYWe_TXQ pushes a word, or discards it with TX_OVR. -/
def execTxqWrite (l : LaneId) (w : Writer) (e : Fin 8) (v : Word) (s : State) : Host.Outcome State Fault Refusal :=
  laneCmd l s fun s => s.regWriteBy l w (Reg.bywTxq e) v

/-- RXQ_READ (R380). A host read of BYWe_RXQ or the receive window pops RX entries. -/
def execRxqRead (l : LaneId) (e : Fin 8) (s : State) : Host.Outcome State Fault Refusal :=
  laneCmd l s fun s => (s.readReg l (Reg.bywRxq e)).1

/-- IMEM_WRITE (R383). A write to instruction memory lands at the end of its PCLK. -/
def execImemWrite (l : LaneId) (e : Fin 8) (i : Fin 32) (v : Word) (s : State) : Host.Outcome State Fault Refusal :=
  laneCmd l s fun s => s.regWrite l (Reg.bywImem e i) v

/-- BYW_SYNC (R385). A write to BYW_SYNC clears the named engines' rate accumulators. -/
def execBywSync (l : LaneId) (v : Word) (s : State) : Host.Outcome State Fault Refusal :=
  laneCmd l s fun s => s.regWrite l Reg.bywSync v

/-- FLAG_SET (R381). A host write sets byway flags. -/
def execFlagSet (l : LaneId) (v : Word) (s : State) : Host.Outcome State Fault Refusal :=
  laneCmd l s fun s => s.regWrite l Reg.bywFlags v

/-- FLAG_CLEAR (R381). A host write clears byway flags. -/
def execFlagClear (l : LaneId) (v : Word) (s : State) : Host.Outcome State Fault Refusal :=
  laneCmd l s fun s => s.regWrite l Reg.bywFlags v

/-- PIN_WRITE (R379). A host write to BYW_PINOUT or BYW_PINDIR sets the shared pin latches. -/
def execPinWrite (l : LaneId) (dir : Bool) (v : Word) (s : State) : Host.Outcome State Fault Refusal :=
  laneCmd l s fun s => s.regWrite l (pinLatchAddr dir) v

/-- BYWAY_PIN_EDGE (R377). A filtered transition of a byway pin is stamped. -/
def execBywayPinEdge (l : LaneId) (p : Fin 16) (level : Bool) (held : Nat) (s : State) : Host.Outcome State Fault Refusal :=
  laneCmd l s fun s => s.upd l fun L => L.pinEdge p level held

end Sys2Proof.Machine
end

