-- ==== Sys2Proof/Machine/DieRows.lean ====
section
/-! DEFINITION. Conditions and effects at the drive dies that end a wait: timeouts of channels, gates and rails, hardware
trips and diagnoses (05_actuator_channels.md R122 to R137, 06_armature_landing.md R149, 07_boost_rails.md R161 to R163,
08_ignition.md R177 to R182). Where an arrival that the timeout awaits waits in the same cycle, the arrival wins (R20). -/

namespace Sys2Proof.Machine

/-! ### Channels -/

/-- EVENT_TIME_END (R122): the DUR of a time-ended event has elapsed. -/
def State.timeEnd (s : State) (n : Nat) : State :=
  match (s.chan n).ev with
  | some e => match e.stop with
    | some t => if !e.angle && decide (t ≤ s.now) then s.endEvent n false .idle else s
    | none => s
  | none => s

/-- MAX_DURATION (R87): an angle-ended event has reached its maximum duration; an END that arrives in the same cycle and is
executed wins. -/
def State.durationEnd (s : State) (n : Nat) : State :=
  let ends := s.linkSoon (n / 16) fun l c =>
    (c.kind == .endA || c.kind == .endFast) && c.ch == n % 16 && s.executesEnd (n / 16) l c
  match (s.chan n).ev with
  | some e => match e.stop with
    | some t => if e.angle && decide (t ≤ s.now) && !ends then s.endEvent n true .idle else s
    | none => s
  | none => s

/-- PHASE_TIME_END (R122, R129): the TIME of the present phase has elapsed, or the phase that it was kept for is free. -/
def State.phaseEnd (s : State) (n : Nat) : State :=
  match (s.chan n).ev with
  | some e =>
    let ph := profPhase e.prof e.phase
    if e.blocked.isSome then (if s.boostBusy n then s else s.nextPhase n)
    else if (phExit ph == 0 || phExit ph == 2) && decide (e.phaseAt + phTime ph ≤ s.now) then s.nextPhase n
    else s
  | none => s

/-- OPEN (R133): T_MAX has elapsed before the peak. -/
def State.openCheck (s : State) (n : Nat) : State :=
  match (s.chan n).ev with
  | some e =>
    let tmax := ((s.chan n).peakWin e).2
    match peakLevel e.prof with
    | some h =>
      let soon := match s.sampleSoon n with | some i => decide (h ≤ i) && !s.blanked n | none => false
      if tmax ≠ 0 && !e.peaked && !soon && decide (e.start + tmax * 40 ≤ s.now) then s.openEvent n else s
    | none => s
  | none => s

/-- DECAY_STUCK (R140): 500 µs of decay have not brought the current below 0.25 A. -/
def State.decayStuck (s : State) (n : Nat) : State :=
  let c := s.chan n
  let soon := match s.sampleSoon n with | some i => decide (i * 16 < 250) && !s.blanked n | none => false
  if c.decaying && !soon && decide (c.decayAt + 200000 ≤ s.now) then
    ((s.leaveDecay n .fault).chFlag n 15).raiseBoth .chnDecayStuck n (s.chName n)
  else s

/-- BOOST_ABORT (R129): a later boost-using phase has stayed blocked for MAX_DEFER. -/
def State.boostAbort (s : State) (n : Nat) : State :=
  match (s.chan n).ev with
  | some e => match e.blocked with
    | some t =>
      if s.boostBusy n && decide (t + s.maxDefer (n / 4) ≤ s.now) then
        ((s.endEvent n true .idle).chFlag n 3).raiseBoth .chnBoostAbort n (s.chName n)
      else s
    | none => s
  | none => s

/-- OFF_DROP (R131, R139): DEFER_LIM from the arrival has elapsed while the channel is still in DECAY. -/
def State.offDrop (s : State) (n : Nat) : State :=
  let c := s.chan n
  match c.wait with
  | some w =>
    let kept := c.decaying || decide (s.now < w.earliest)
    if kept && w.quadSince.isNone && decide (bits c.offtime 16 16 * 400 < s.now - w.arrived) then s.dropStart n false 0xFFFF w.cmd
    else s
  | none => s

/-- QUAD_DROP (R126): MAX_DEFER has elapsed and the start is still blocked. -/
def State.quadDrop (s : State) (n : Nat) : State :=
  let c := s.chan n
  match c.wait with
  | some w => match w.quadSince with
    | some t =>
      let boost := match vget c.slots w.cmd.slot none with | some p => phBoost (profPhase p 0) | none => false
      if (s.quadBlock n boost w.quadSince).isSome && decide (t + s.maxDefer (n / 4) ≤ s.now) then s.dropStart n true 0xFFFF w.cmd
      else s
    | none => s
  | none => s

/-- HW_TRIP (R134): the events that use the tripped element end. -/
def State.hwTrip (s : State) (t : TripPoint) : State :=
  match t with
  | .channel n | .pair n | .lowSideTemp n => s.tripEvent (s.governs n.val)
  | .quadHigh q => (List.range 4).foldl (fun s i => s.tripEvent (4 * q.val + i)) s

/-- OFF_DIAG (R137): every channel of quad q has been idle for 1 ms, whether enabled or not, and the last diagnosis lies 10 ms
back, an event in between or not (DESIGN CHOICE, log entry 107); `before` and
`after` are the CH pins read before and with the 2 mA source, `node` is QHSq with it. A node held low shows on every enabled
channel of the quad, the pins on those with OSD_EN. -/
def State.offDiag (s : State) (q : Nat) (before : BitVec 4) (node : Bool) (after : BitVec 4) : State :=
  let ctrl := fun (i : Nat) (b : Nat) => (s.chan (s.governs (4 * q + i))).ctrl.getLsbD b
  let quiet := (List.range 4).all fun i => match (s.chan (4 * q + i)).state with
    | .idle | .off | .fault => decide ((s.chan (4 * q + i)).idleAt + 400000 ≤ s.now)
    | .slave => true
    | _ => false
  let due := match (vget s.quads q {}).osdAt with | some t => decide (t + 4000000 ≤ s.now) | none => true
  if !((List.range 4).any fun i => ctrl i 5) || !quiet || !due then s
  else
    let s := { s with quads := vmod s.quads q fun x => { x with osdAt := some s.now } }
    (List.range 4).foldl (fun s i =>
      let n := 4 * q + i
      if !ctrl i 5 && !(ctrl i 0 && !node) then s
      else
        let r := if before.getLsbD i && ctrl i 5 then 3
          else if !node then (if ctrl i 0 then 2 else 0)
          else if after.getLsbD i then 0 else 1
        let s := s.chanUpd n fun c => { c with osd := r }
        if r = 0 then s else (s.chFlag n 14).raiseBoth .chnOffDiag n) s

/-- LANDING_WINDOW_CLOSE (R149): the window has closed with no dip confirmed on the same sample. -/
def State.windowClose (s : State) (n : Nat) : State :=
  let hit := match s.sampleSoon n with
    | some i => match (((s.mixPass (n / 4)).detectSample n i).chan n).ev with
      | some e => e.detect.isNone
      | none => false
    | none => false
  match (s.chan n).ev with
  | some e =>
    if e.detect.isSome && !hit && decide (e.window.2 ≤ s.now) then
      (s.chanUpd n fun c => { c with ev := some { e with detect := none } }).report ⟨n, 2, 0, 0, s.chName n⟩
    else s
  | none => s

/-- The front landing report reaches lane l (R150, R151). -/
def Lane.landingArrive (L : Lane) : Lane :=
  match L.landingQ with
  | [] => L
  | r :: rest => { L with landingQ := rest }.landing r

/-- The front setting write of lane l reaches die d, which takes it from the authority lane only (R442). -/
def State.settingArrive (s : State) (l : LaneId) (d : Nat) : State :=
  match vget (s.lane l).dieWrites d [] with
  | [] => s
  | w :: rest =>
    let s := s.upd l fun L => { L with dieWrites := vmod L.dieWrites d fun _ => rest }
    if s.dieTakes d l then s.dieApply w else s

/-- A setting write of lane l and its arrival at the die (R130, R140, R442), unless the channel is held in reset (R402). -/
def State.settingRow (s : State) (l : LaneId) (a d : Nat) (v : Word) : State :=
  if (s.lane l).held l a then s else s.settingNow l a d v

/-! ### Rails -/

/-- BOOST_CYCLE_START (R161, R164): the off-time has passed while the rail charges. -/
def State.cycleStart (s : State) (k : Nat) : State :=
  let r := s.rail k
  let runs := r.state == .ramp || r.state == .reg
  if runs && r.charging && !r.fet && !r.ov && decide (r.fetAt + r.toffIn ≤ s.now) then
    s.railUpd k fun r => { r with fet := true, fetAt := s.now, toffIn := r.toff }
  else s

/-- BOOST_FET_OFF (R161): ILIM was reached, or the 10 µs have passed. -/
def State.fetOff (s : State) (k : Nat) (byLimit : Bool) : State :=
  let r := s.rail k
  let ilim := s.pending.any fun i => match i with | .boostFetOff k' b => k'.val == k && !b | _ => false
  if !r.fet || (byLimit && (ilim || decide (s.now < r.fetAt + 4000))) then s
  else s.railUpd k fun r => { r with fet := false, fetAt := s.now, limitRun := if byLimit then r.limitRun + 1 else 0 }

/-- A controller stops with a flag and a fault (R163). -/
def State.railStop (s : State) (k flag : Nat) (kind : Kind) : State := ((s.railUpd k fun r => r.stop s.now).rFlag k flag).raiseBoth kind k

/-- SENSE_FAULT (R161, R163). -/
def State.senseFault (s : State) (k : Nat) : State :=
  let r := s.rail k
  if (r.state == .ramp || r.state == .reg) && decide (16 ≤ r.limitRun) then s.railStop k 4 .bstSenseFault else s

/-- CHG_TIMEOUT (R163): the rail has lagged the ramp, or charged without reaching VSET, for 10 ms; a measurement that
ends the condition in the same cycle wins. -/
def State.chgTimeout (s : State) (k : Nat) : State :=
  let r := s.rail k
  let soon := fun (lim : Nat) => s.pending.any fun i => match i with
    | .railMeasurement k' v => k'.val == k && decide (lim ≤ v.toNat)
    | _ => false
  let late := fun (o : Option Nat) => match o with | some t => decide (t + 4000000 ≤ s.now) | none => false
  match r.state with
  | .ramp => if late r.lagAt && !soon (r.rampTarget s.now - 160) then s.railStop k 3 .bstChgTimeout else s
  | .reg => if late r.chargeAt && !soon r.vset then s.railStop k 3 .bstChgTimeout else s
  | _ => s

/-- A write to BSTk_CTRL of lane l that its controller takes at once (R163). -/
def State.boostRow (s : State) (l : LaneId) (k : Nat) (v : Word) : State :=
  if (s.lane l).held l (Reg.bstCtrl k) then s else s.boostWrite l k v

/-! ### Gates -/

/-- LATE_SPARK (R177): the dwell floor of a held spark is reached. -/
def State.lateSpark (s : State) (g : Nat) : State :=
  let x := s.gate g
  match x.heldTo with
  | some t => if x.state == .dwell && decide (t ≤ s.now) then s.doSpark g else s
  | none => s

/-- RESTRIKE_GAP_END (R178). -/
def State.gapEnd (s : State) (g : Nat) : State :=
  let x := s.gate g
  if x.state == .restrike && !x.on && decide (x.rsAt + bits (s.sparkSet g x.set).2.2.2 10 10 * 400 ≤ s.now) then
    s.gateUpd g fun x => { x with drive := .high, rsAt := s.now }
  else s

/-- RESTRIKE_DWELL_END (R178): one further spark. -/
def State.restrikeSpark (s : State) (g : Nat) : State :=
  let x := s.gate g
  if x.state == .restrike && x.on && decide (x.rsAt + bits (s.sparkSet g x.set).2.2.2 0 10 * 400 ≤ s.now) then
    s.gateUpd g fun x => { x with
      drive := .low, rsAt := s.now, rsLeft := x.rsLeft - 1, state := if x.rsLeft ≤ 1 then .idle else .restrike }
  else s

/-- OVERDWELL (R179): DW_MAX has passed with no SPARK command. -/
def State.overdwell (s : State) (g : Nat) : State :=
  let x := s.gate g
  let spark := s.linkSoon (g / 4) fun l c => c.kind == .spark && c.ch == g % 4 && s.executesEnd (g / 4) l c
  if x.state == .dwell && x.heldTo.isNone && !spark && decide (x.td + setMax (s.sparkSet g x.set) ≤ s.now) then
    ((s.softAbort g .idle).gFlag g 5).raiseBoth .ignOverdwell g (s.gName g)
  else s

/-- SOFT_ABORT_END (R180, R184): the 2 ms ramp is complete. -/
def State.softEnd (s : State) (g : Nat) : State :=
  let x := s.gate g
  if x.state == .soft && decide (x.softAt + 800000 ≤ s.now) then
    (s.gateUpd g fun x => { x with state := if x.afterSoft == .fault then .fault else .idle, drive := .low, igs := 0 }).gateRest g
  else s

/-- GATE_OPEN_CHECK (R182): CHK_T of dwell has passed. -/
def State.openCheckGate (s : State) (g : Nat) (igs : BitVec 10) : State :=
  let s := s.senseGate g igs
  let x := s.gate g
  let d := (s.sparkSet g x.set).2.2.1
  if x.state == .dwell && x.ctrl.getLsbD 6 && !x.openDone && decide (x.td + bits d 0 12 * 400 ≤ s.now) then
    let s := s.gateUpd g fun x => { x with openDone := true }
    if igs.toNat < bits d 12 10 then
      ((s.gateUpd g fun x => { x with state := .idle, drive := .low, heldTo := none }).gFlag g 6).raiseBoth .ignOpen g (s.gName g)
    else s
  else s

/-- GATE_SHORT (R182, R184): I_TRIP is reached in DWELL or RESTRIKE, the gap included, or on the ramp of a soft abort, whose
gate then goes to FAULT. -/
def State.shortGate (s : State) (g : Nat) (igs : BitVec 10) : State :=
  let s := s.senseGate g igs
  let x := s.gate g
  let acts := x.state == .dwell || x.state == .restrike || (x.state == .soft && x.afterSoft != .fault)
  if acts && decide (bits (s.sparkSet g x.set).2.2.1 22 10 ≤ igs.toNat) then
    ((s.quietGate g false .fault).gFlag g 7).raiseBoth .ignShort g (s.gName g)
  else s

/-- STUCK_ON (R182, R184): current for 10 µs with IGg low, in any state. -/
def State.stuckOn (s : State) (g : Nat) (igs : BitVec 10) : State :=
  let s := s.senseGate g igs
  let x := s.gate g
  if x.drive == .low && decide (bits x.ctrl 16 10 < igs.toNat) && decide (x.leakAt + 4000 ≤ s.now) then
    ((s.gateUpd g fun x => { x with state := .fault, rsLeft := 0 }).gFlag g 8).raiseBoth .ignStuckOn g (s.gName g)
  else s

/-- The front charge-time report reaches lane l (R175). -/
def Lane.chargeArrive (L : Lane) : Lane :=
  match L.chargeQ with
  | [] => L
  | r :: rest => { L with chargeQ := rest }.chargeReport r

/-! ### Junction -/

/-- The voters' health is taken, and they decide (R230, R232). -/
def State.voterDecision (s : State) (f0 f1 f2 : VoterFault) : State :=
  (s.jctUpd fun j => { j with f0 := f0, f1 := f1, f2 := f2 }).jctDecide .none

/-- START_ELIGIBLE_TIMEOUT (R230, R231): eligible for 500 ms in START. -/
def State.eligTimeout (s : State) (l : LaneId) : State :=
  match (s.jl l).eligAt with
  | some t => if s.jct.state == .start && decide (t + 200000000 ≤ s.now) then s.jctDecide (.eligTime l) else s
  | none => s

/-- COAST_SAFE (R230): the 20 µs of COAST have passed; once no command of the cycle is left, the voters decide. -/
def State.coastSafe (s : State) : State :=
  if s.jct.state == .coast && decide (s.jct.coastAt + 8000 ≤ s.now) then
    (s.jctUpd fun j => { j with coastOwed := true }).coastDecide
  else s

/-- HELD_COMMAND_EXPIRY (R239): held commands older than 20 µs are discarded. -/
def State.heldExpiry (s : State) (d : Nat) : State :=
  s.dieUpd d fun x => { x with store := x.store.filter fun c => !(c.held && decide (c.arrived + 8000 < s.now)) }

/-- A MISSING start of the standby lane is never executed (R238): its held command goes. -/
def State.dropMissing (s : State) : State :=
  { s with dies := s.dies.map fun x => { x with store := x.store.filter fun c =>
      !(c.held && (c.cmd.kind == .startT || c.cmd.kind == .startA) && decide (c.arrived + 4000 ≤ s.now)
        && votedLane x.auth != some c.lane) } }

/-- MISMATCH_JUDGEMENT_TIMEOUT (R238): 2 µs after a mismatch no lane has released, so MIS_POL decides on it. -/
def State.judgeTimeout (s : State) : State :=
  let due := s.jct.judge.filter fun m => decide (m.1 + 800 ≤ s.now)
  if due.isEmpty then s
  else if s.claim .a = 0 || s.claim .b = 0 then s.judgeRelease
  else
    let pol := (s.lane ((votedLane s.jct.voted).getD s.pref)).bit Reg.jctCmp 31
    let raise := fun (s : State) (k : Kind) => due.foldl (fun s m => s.raiseBoth k m.2) s
    let s := s.jctUpd fun j => { j with judge := j.judge.filter fun m => decide (s.now < m.1 + 800) }
    if pol then (raise s .jctMismatchSafe).jctDecide .misSafe else raise s.dropMissing .jctMismatchKept

/-- COMPARISON_ON (R240): two route cycles of every enabled route have begun in both lanes. A route is enabled by the header
latched or by the one in the route RAM, which no route cycle may have latched yet. -/
def State.comparisonOn (s : State) : State :=
  let ok := fun (L : Lane) => (List.range 240).all fun r =>
    decide (2 ≤ (L.route r).cmpCycles) || (!(L.route r).en && !L.liveEn r)
  if s.jct.cmpOk && ok s.laneA && ok s.laneB then s.jctUpd fun j => { j with cmpOn := true } else s

/-! ### Sensor supplies (R429) -/

/-- SENSOR_SUPPLY_SHUTDOWN: the output turns off on overtemperature (`hot`), or because its pin is above 5.5 V. -/
def State.supOff (s : State) (x : Nat) (hot : Bool) : State :=
  { s with sups := vmod s.sups x fun p =>
      { on := false, hotAt := if hot then some s.now else p.hotAt, overV := p.overV || !hot } }

/-- SENSOR_SUPPLY_RETRY: 100 ms after a thermal shutdown the output retries, and stays off while its pin is above 5.5 V;
for one that the voltage at its pin alone keeps off, the row stands for the fall of that voltage (log entry 60). -/
def State.supRetry (s : State) (x : Nat) : State :=
  { s with sups := vmod s.sups x fun p => match p.hotAt with
      | some t => if t + 40000000 ≤ s.now then { p with on := !p.overV, hotAt := none } else p
      | none => { on := true, hotAt := none, overV := false } }

end Sys2Proof.Machine
end

