-- ==== Sys2Proof/Machine/Channels.lean ====
section
/-! DEFINITION. The commands of the actuator channels and of the armature landing (05_actuator_channels.md, 06_armature_landing.md). -/

namespace Sys2Proof.Machine

/-- START (R139). A start command arrives at the drive die and is checked, started, made to wait, refused or dropped. -/
def execStart (l : LaneId) (d : LinkEnd) (s : State) : Host.Outcome State Fault Refusal :=
  anyCmd l s fun s => s.linkArrive l d.die [.startT, .startA] d.bad

/-- START_WAIT_END (R139). A waiting start reaches its earliest time with the quad free, so the duty limit is re-checked and phase 0 starts. -/
def execStartWaitEnd (n : Fin 192) (s : State) : Host.Outcome State Fault Refusal := modCmd s fun s => s.tryStart n

/-- OFF_DROP (R131). DEFER_LIM elapses for a waiting start, so it is dropped as OFF_DROP. -/
def execOffDrop (n : Fin 192) (s : State) : Host.Outcome State Fault Refusal := modCmd s fun s => s.offDrop n

/-- QUAD_DROP (R126). MAX_DEFER elapses for a start waiting on its quad, so it is dropped as QUAD_DROP. -/
def execQuadDrop (n : Fin 192) (s : State) : Host.Outcome State Fault Refusal := modCmd s fun s => s.quadDrop n

/-- END (R87). An END command ends the channel's angle-ended event with its end decay, or is ignored. -/
def execEndCmd (l : LaneId) (d : LinkEnd) (s : State) : Host.Outcome State Fault Refusal :=
  anyCmd l s fun s => s.linkArrive l d.die [.endA, .endFast] d.bad

/-- STOP (R141). A STOP command ends angle-ended events, lets time-ended events run, cancels waiting starts and soft-aborts dwell. -/
def execStop (l : LaneId) (d : LinkEnd) (s : State) : Host.Outcome State Fault Refusal :=
  anyCmd l s fun s => s.linkArrive l d.die [.stop] d.bad

/-- HALT (R141). A HALT command sends every channel into fast decay, cancels waiting starts and soft-aborts dwell. -/
def execHalt (l : LaneId) (d : LinkEnd) (s : State) : Host.Outcome State Fault Refusal :=
  anyCmd l s fun s => s.linkArrive l d.die [.halt] d.bad

/-- EVENT_TIME_END (R122). The DUR of a time-ended event elapses, so END_DECAY begins. -/
def execEventTimeEnd (n : Fin 192) (s : State) : Host.Outcome State Fault Refusal := modCmd s fun s => s.timeEnd n

/-- MAX_DURATION (R87). An angle-ended event reaches its maximum duration and ends with fast decay. -/
def execMaxDuration (n : Fin 192) (s : State) : Host.Outcome State Fault Refusal := modCmd s fun s => s.durationEnd n

/-- PHASE_TIME_END (R122). A phase's TIME elapses and the next phase begins or the profile ends. -/
def execPhaseTimeEnd (n : Fin 192) (s : State) : Host.Outcome State Fault Refusal := modCmd s fun s => s.phaseEnd n

/-- CURRENT_SAMPLE (R118). A low-side current sample drives regulation, current-target phase exits, peak timing, the landing detector and the end of decay. -/
def execCurrentSample (n : Fin 192) (i : BitVec 11) (iOdd : BitVec 11) (s : State) : Host.Outcome State Fault Refusal :=
  modCmd s fun s => s.sample n i.toNat iOdd.toNat

/-- OPEN (R133). T_MAX elapses before the peak current is reached, so OPEN is reported and the event ends. -/
def execOpenPeak (n : Fin 192) (s : State) : Host.Outcome State Fault Refusal := modCmd s fun s => s.openCheck n

/-- DECAY_STUCK (R140). The current does not fall below 0.25 A within 500 µs of decay, so the channel enters FAULT. -/
def execDecayStuck (n : Fin 192) (s : State) : Host.Outcome State Fault Refusal := modCmd s fun s => s.decayStuck n

/-- BOOST_ABORT (R129). A later boost-using phase stays blocked for MAX_DEFER, so the event ends with fast decay. -/
def execBoostAbort (n : Fin 192) (s : State) : Host.Outcome State Fault Refusal := modCmd s fun s => s.boostAbort n

/-- HW_TRIP (R134). A hardware over-current or over-temperature trip ends the affected events and puts their channels in FAULT. -/
def execHwTrip (t : TripPoint) (s : State) : Host.Outcome State Fault Refusal := modCmd s fun s => s.hwTrip t

/-- DIE_HOT (R136). A drive die becomes hot, so starts on SHED channels are refused. -/
def execDieHot (d : Fin 12) (temp : BitVec 12) (power : BitVec 12) (s : State) : Host.Outcome State Fault Refusal :=
  modCmd s fun s => s.dieMeasure d temp power

/-- DIE_FENCED (R136). A drive die reaches 175 °C or 10 W, so all its events end and its channels enter FAULT. -/
def execDieFenced (d : Fin 12) (temp : BitVec 12) (power : BitVec 12) (s : State) : Host.Outcome State Fault Refusal :=
  modCmd s fun s => s.dieMeasure d temp power

/-- DIE_COOL (R136). A drive die is no longer hot, so FENCED clears. -/
def execDieCool (d : Fin 12) (temp : BitVec 12) (power : BitVec 12) (s : State) : Host.Outcome State Fault Refusal :=
  modCmd s fun s => s.dieMeasure d temp power

/-- OFF_DIAG (R137). The off-state diagnosis of an idle quad runs and records its results. -/
def execOffDiag (q : Fin 48) (before : BitVec 4) (node : Bool) (after : BitVec 4) (s : State) : Host.Outcome State Fault Refusal :=
  modCmd s fun s => s.offDiag q before node after

/-- PROFILE_SELECT (R123). A write to CHNn_PROFILE_SEL0 or CHNn_PROFILE_SEL1 queues distribution of the changed slots. -/
def execProfileSelect (l : LaneId) (n : Fin 192) (hi : Bool) (v : Word) (s : State) : Host.Outcome State Fault Refusal :=
  laneCmd l s fun s => s.regWrite l (profileSelAddr n hi) v

/-- PDIST (R123). A write to CHN_PDIST queues distribution of a profile, or of all slots. -/
def execPdist (l : LaneId) (v : Word) (s : State) : Host.Outcome State Fault Refusal :=
  laneCmd l s fun s => s.regWrite l Reg.chnPdist v

/-- PROFILE_COPY_ARRIVAL (R124). A distributed slot copy arrives at the die and is accepted or discarded on its CRC. -/
def execProfileCopyArrival (d : Fin 12) (s : State) : Host.Outcome State Fault Refusal :=
  modCmd s fun s =>
    let l := s.sender d
    if (s.lane l).initing then s else (s.writesFirst l (arrayBase 2) (arraySize 2)).slotArrive d l

/-- QUAD_CTRL_WRITE (R130). A write to CHN_QUADq_CTRL is taken, or its pairing and mode fields are refused while the quad is busy. -/
def execQuadCtrlWrite (l : LaneId) (q : Fin 48) (v : Word) (s : State) : Host.Outcome State Fault Refusal :=
  laneCmd l s fun s => s.settingRow l (Reg.quadCtrl q) (q / 4) v

/-- DIE_SETTING_WRITE (R442). A channel or quad setting write arrives at the die and is applied only from the authority lane. -/
def execDieSettingWrite (l : LaneId) (d : Fin 12) (s : State) : Host.Outcome State Fault Refusal :=
  anyCmd l s fun s => s.settingArrive l d

/-- CHANNEL_ENABLE (R140). EN written 1 takes a channel from OFF to IDLE. -/
def execChannelEnable (l : LaneId) (n : Fin 192) (v : Word) (s : State) : Host.Outcome State Fault Refusal :=
  laneCmd l s fun s => s.settingRow l (Reg.chnCtrl n) (n / 16) v

/-- CHANNEL_DISABLE (R140). EN written 0 ends the channel's event and takes the channel to OFF. -/
def execChannelDisable (l : LaneId) (n : Fin 192) (v : Word) (s : State) : Host.Outcome State Fault Refusal :=
  laneCmd l s fun s => s.settingRow l (Reg.chnCtrl n) (n / 16) v

/-- CLR (R140). CLR written 1 takes a channel out of FAULT when its die is not fenced. -/
def execClr (l : LaneId) (n : Fin 192) (v : Word) (s : State) : Host.Outcome State Fault Refusal :=
  laneCmd l s fun s => s.settingRow l (Reg.chnCtrl n) (n / 16) v

/-- LANDING_REPORT (R151). A landing report arrives at a lane and updates the opening-delay estimate and the miss count. -/
def execLandingReport (l : LaneId) (s : State) : Host.Outcome State Fault Refusal :=
  laneCmd l s fun s => s.upd l fun L => L.landingArrive

/-- LANDING_WINDOW_CLOSE (R149). The landing window closes with no confirmed dip, so the verdict is MISSING and a report is sent. -/
def execLandingWindowClose (n : Fin 192) (s : State) : Host.Outcome State Fault Refusal :=
  modCmd s fun s => s.windowClose n

/-- SEED (R153). A write of 1 to SEED sets the estimate to D_INIT and clears the miss count. -/
def execSeed (l : LaneId) (n : Fin 192) (v : Word) (s : State) : Host.Outcome State Fault Refusal :=
  laneCmd l s fun s => s.regWrite l (Reg.lndCtrl n) v

/-- ESTIMATE_WRITE (R153). A write to LNDn_EST is applied only while EN = 0 or FREEZE = 1, and otherwise sets CFG_REJ. -/
def execEstimateWrite (l : LaneId) (n : Fin 192) (v : Word) (s : State) : Host.Outcome State Fault Refusal :=
  laneCmd l s fun s => s.regWrite l (Reg.lndEst n) v

end Sys2Proof.Machine
end

