-- ==== Sys2Proof/Machine/Dma.lean ====
section
/-! DEFINITION. The commands of the DMA channels (17_dma.md). -/

namespace Sys2Proof.Machine

/-- The writes of the cycle to the words that the turn of channel c reads come first (R279). -/
def State.dmaFirst (s : State) (l : LaneId) (c : Nat) : State :=
  let d := (s.lane l).dch c
  if d.state == .move && d.srcT == 0 then s.writesFirst l ((d.word 2).toNat + d.fetched) ((s.lane l).dmaReads c) else s

/-- The turn of channel c comes round (R358): the channels with data or room that stand before it in the round have theirs
first (log entry 24). -/
def State.dmaRound (s : State) (l : LaneId) (c : Nat) : State :=
  if ((s.lane l).dch c).state != .move then s
  else
    let s := ((s.lane l).dmaBefore c).foldl (fun s e => if s.dmaReady l e then (s.dmaFirst l e).dmaBurst l e else s) s
    (s.dmaFirst l c).dmaBurst l c

/-- DMA_GO (R368). A write of GO to DMAc_START starts the chain at DMAc_DESC, or sets CFG_REJ. -/
def execDmaGo (l : LaneId) (c : Fin 16) (w : Writer) (v : Word) (s : State) : Host.Outcome State Fault Refusal :=
  laneCmd l s fun s => s.regWriteBy l w (Reg.dmaStart c) v

/-- DMA_STOP (R365). A write of STOP to DMAc_START stops the channel after the access in flight. -/
def execDmaStop (l : LaneId) (c : Fin 16) (v : Word) (s : State) : Host.Outcome State Fault Refusal :=
  laneCmd l s fun s => s.regWrite l (Reg.dmaStart c) v

/-- DESCRIPTOR_FETCH (R361). A descriptor fetch completes and is checked, or the channel stops for BAD_DESC or CHAIN. -/
def execDescriptorFetch (l : LaneId) (c : Fin 16) (s : State) : Host.Outcome State Fault Refusal :=
  laneCmd l s fun s =>
    if (s.lane l).initing then s else (s.writesFirst l ((s.lane l).dch c).cur 32).upd l fun L => L.dmaFetch l c

/-- DMA_REQUEST (R363). A waiting descriptor finds its request counter above 0, or Q_THR set, and begins to move data. -/
def execDmaRequest (l : LaneId) (c : Fin 16) (s : State) : Host.Outcome State Fault Refusal :=
  laneCmd l s fun s => s.upd l fun L => L.dmaTakeReq c

/-- DMA_BURST (R358). A channel's round-robin turn moves a burst of up to 64 bytes, and may enter WAIT_FLOW. -/
def execDmaBurst (l : LaneId) (c : Fin 16) (s : State) : Host.Outcome State Fault Refusal :=
  laneCmd l s fun s => if (s.lane l).initing then s else s.dmaRound l c

/-- DMA_FLOW_RESUME (R362). An entry or room becomes available, so the channel leaves WAIT_FLOW. -/
def execDmaFlowResume (l : LaneId) (c : Fin 16) (s : State) : Host.Outcome State Fault Refusal :=
  laneCmd l s fun s => s.dmaResume l c

/-- DESCRIPTOR_DONE (R368). A descriptor's COUNT is moved, so its result, status and sequence words are written and EOC is set. -/
def execDescriptorDone (l : LaneId) (c : Fin 16) (s : State) : Host.Outcome State Fault Refusal :=
  laneCmd l s fun s => s.upd l fun L => L.dmaDone c

/-- DMA_TIMEOUT (R365). An access has no response within 256 PCLK, so the channel stops with TIMEOUT. -/
def execDmaTimeout (l : LaneId) (c : Fin 16) (addr : BitVec 32) (s : State) : Host.Outcome State Fault Refusal :=
  laneCmd l s fun s => s.dmaTimeoutRow l c addr.toNat

/-- DMA_DESC_WRITE (R370). A write to DMAc_DESC is taken only when the channel is IDLE, and otherwise sets CFG_REJ. -/
def execDmaDescWrite (l : LaneId) (c : Fin 16) (v : Word) (s : State) : Host.Outcome State Fault Refusal :=
  laneCmd l s fun s => s.regWrite l (Reg.dmaDesc c) v

end Sys2Proof.Machine
end

