-- ==== Sys2Proof/Machine/Faults.lean ====
section
/-! DEFINITION. The commands of the fault collector and of the memories (12_faults.md, 13_memory.md). -/

namespace Sys2Proof.Machine

/-- FAULT_MESSAGE (R259). The collector processes one fault message: it records, counts and captures it and selects its reaction. -/
def execFaultMessage (l : LaneId) (arrives : Option (Word × Word)) (s : State) : Host.Outcome State Fault Refusal :=
  laneCmd l s fun s => ((s.upd l fun L => L.checkerSends arrives).collect l).releaseAll

/-- FLT_PEND_CLEAR (R261). Writing 1 to a FLT_PEND class bit clears it and re-arms capture. -/
def execFltPendClear (l : LaneId) (v : Word) (s : State) : Host.Outcome State Fault Refusal :=
  laneCmd l s fun s => s.regWrite l Reg.fltPend v

/-- SAFE_ENTER_KEY (R265). The enter key written to FLT_SAFE requests safe state. -/
def execSafeEnterKey (l : LaneId) (v : Word) (s : State) : Host.Outcome State Fault Refusal :=
  laneCmd l s fun s => s.regWrite l Reg.fltSafe v

/-- SAFE_EXIT_KEY (R267). The exit key written to FLT_SAFE leaves safe state, or sets EXIT_REJ. -/
def execSafeExitKey (l : LaneId) (v : Word) (s : State) : Host.Outcome State Fault Refusal :=
  laneCmd l s fun s => s.regWrite l Reg.fltSafe v

/-- BIST (R270). The background self-test tests a checker item. -/
def execBist (l : LaneId) (item : Fin 10) (pass : Bool) (s : State) : Host.Outcome State Fault Refusal :=
  laneCmd l s fun s => s.bist l item pass

/-- CLOCK_FAULT_RECORD (R399). With the lane's clocks stopped, the always-on part records the clock fault. -/
def execClockFaultRecord (l : LaneId) (pll : Bool) (s : State) : Host.Outcome State Fault Refusal :=
  laneCmd l s fun s => s.clockStop l pll

/-- MERGE_IDLE_FLUSH (R278). 64 CCLK pass with no narrow write, so every merge entry is flushed. -/
def execMergeIdleFlush (l : LaneId) (s : State) : Host.Outcome State Fault Refusal :=
  laneCmd l s fun s => s.upd l fun L => L.mergeIdle

/-- MERGE_FLUSH (R278). A write of FLUSH to MEM_MERGE flushes every merge entry. -/
def execMergeFlush (l : LaneId) (v : Word) (s : State) : Host.Outcome State Fault Refusal :=
  laneCmd l s fun s => s.regWrite l Reg.memMerge v

/-- REMAP_WRITE (R283). The service core populates or releases a remap entry, while a host write is ignored with CFG_REJ. -/
def execRemapWrite (l : LaneId) (w : Writer) (i : Fin 16) (v : Word) (s : State) : Host.Outcome State Fault Refusal :=
  laneCmd l s fun s => s.registerWrite l w (Reg.memRemap i) v

/-- ERASE_WRITE (R285). The service core sets or clears macro erasure, while a host write is ignored. -/
def execEraseWrite (l : LaneId) (w : Writer) (v : Word) (s : State) : Host.Outcome State Fault Refusal :=
  laneCmd l s fun s => s.registerWrite l w Reg.memErase v

/-- SCRUB_GO (R286). A write of GO starts a scrub pass, or is refused. -/
def execScrubGo (l : LaneId) (v : Word) (s : State) : Host.Outcome State Fault Refusal :=
  laneCmd l s fun s => s.regWrite l Reg.memScrubCtrl v

/-- SCRUB_ABORT (R288). A write of ABORT ends the scrub pass with its summary so far. -/
def execScrubAbort (l : LaneId) (v : Word) (s : State) : Host.Outcome State Fault Refusal :=
  laneCmd l s fun s => s.regWrite l Reg.memScrubCtrl v

/-- SCRUB_WORD (R287). The scrubber reads one word, writes it back or poisons it, and ends the pass at the end address. -/
def execScrubWord (l : LaneId) (s : State) : Host.Outcome State Fault Refusal :=
  laneCmd l s fun s =>
    match (s.lane l).mem.scrub with
    | some p => if (s.lane l).initing then s else (s.writesFirst l p.next 16).upd l fun L => L.scrubStep
    | none => s

end Sys2Proof.Machine
end

