-- ==== Sys2Proof/Machine/Gates.lean ====
section
/-! DEFINITION. The commands of the ignition gates (08_ignition.md). -/

namespace Sys2Proof.Machine

/-- DWELL (R176). A DWELL command starts the gate's dwell, or is refused. -/
def execDwell (l : LaneId) (d : LinkEnd) (s : State) : Host.Outcome State Fault Refusal :=
  anyCmd l s fun s => s.linkArrive l d.die [.dwell] d.bad

/-- SPARK (R177). A SPARK command ends the dwell with a spark, or holds the spark to the dwell floor. -/
def execSpark (l : LaneId) (d : LinkEnd) (s : State) : Host.Outcome State Fault Refusal :=
  anyCmd l s fun s => s.linkArrive l d.die [.spark] d.bad

/-- LATE_SPARK (R177). The dwell floor is reached for a spark that was held, so the spark occurs. -/
def execLateSpark (g : Fin 48) (s : State) : Host.Outcome State Fault Refusal := modCmd s fun s => s.lateSpark g

/-- RESTRIKE_GAP_END (R178). RS_GAP ends and the restrike dwell begins. -/
def execRestrikeGapEnd (g : Fin 48) (s : State) : Host.Outcome State Fault Refusal := modCmd s fun s => s.gapEnd g

/-- RESTRIKE_DWELL_END (R178). RS_DW ends with a restrike spark. -/
def execRestrikeDwellEnd (g : Fin 48) (s : State) : Host.Outcome State Fault Refusal :=
  modCmd s fun s => s.restrikeSpark g

/-- OVERDWELL (R179). DW_MAX passes with no SPARK command, so the dwell is soft-aborted. -/
def execOverdwell (g : Fin 48) (s : State) : Host.Outcome State Fault Refusal := modCmd s fun s => s.overdwell g

/-- SOFT_ABORT_END (R180). The 2 ms soft-abort ramp completes and the gate takes its recorded state. -/
def execSoftAbortEnd (g : Fin 48) (s : State) : Host.Outcome State Fault Refusal := modCmd s fun s => s.softEnd g

/-- GATE_OPEN_CHECK (R182). CHK_T of dwell passes with the sense current below I_MINCHK, so OPEN is reported. -/
def execGateOpenCheck (g : Fin 48) (igs : BitVec 10) (s : State) : Host.Outcome State Fault Refusal :=
  modCmd s fun s => s.openCheckGate g igs

/-- GATE_SHORT (R182). The sense current reaches I_TRIP, so the gate is soft-aborted into FAULT. -/
def execGateShort (g : Fin 48) (igs : BitVec 10) (s : State) : Host.Outcome State Fault Refusal :=
  modCmd s fun s => s.shortGate g igs

/-- STUCK_ON (R182). Current stays above I_LEAK for 10 µs with IGg low, so the gate enters FAULT. -/
def execStuckOn (g : Fin 48) (igs : BitVec 10) (s : State) : Host.Outcome State Fault Refusal :=
  modCmd s fun s => s.stuckOn g igs

/-- CHARGE_REPORT (R175). A charge-time report arrives and updates the current-mode dwell estimate. -/
def execChargeReport (l : LaneId) (s : State) : Host.Outcome State Fault Refusal :=
  laneCmd l s fun s => s.upd l fun L => L.chargeArrive

/-- GATE_ENABLE (R184). EN written 1 takes a gate to IDLE. -/
def execGateEnable (l : LaneId) (g : Fin 48) (v : Word) (s : State) : Host.Outcome State Fault Refusal :=
  laneCmd l s fun s => s.regWrite l (Reg.ignCtrl g) v

/-- GATE_DISABLE (R180). EN written 0 soft-aborts the gate and takes it to OFF. -/
def execGateDisable (l : LaneId) (g : Fin 48) (v : Word) (s : State) : Host.Outcome State Fault Refusal :=
  laneCmd l s fun s => s.regWrite l (Reg.ignCtrl g) v

/-- GATE_CLEAR (R184). CLR written 1 takes a gate out of FAULT. -/
def execGateClear (l : LaneId) (g : Fin 48) (v : Word) (s : State) : Host.Outcome State Fault Refusal :=
  laneCmd l s fun s => s.regWrite l (Reg.ignCtrl g) v

end Sys2Proof.Machine
end

