-- ==== Sys2Proof/Machine/Hosts.lean ====
section
/-! DEFINITION. The commands of the host ports (15_host_ports.md). -/

namespace Sys2Proof.Machine

/-- NOP (R323). A NOP frame does nothing but restart the watchdog. -/
def execNop (p : Fin 4) (f : Frame) (s : State) : Host.Outcome State Fault Refusal :=
  portCmd p s fun s => s.hostFrame p 0 f id

/-- WRITE (R330). A WRITE frame is checked and applied in the own lane, and mirrored or held as an action write. -/
def execWrite (p : Fin 4) (f : Frame) (s : State) : Host.Outcome State Fault Refusal :=
  portCmd p s fun s => s.hostFrame p 1 f fun s => s.takeReq p 1 f

/-- READ (R328). A READ frame reads a block and queues its response. -/
def execRead (p : Fin 4) (f : Frame) (s : State) : Host.Outcome State Fault Refusal :=
  portCmd p s fun s => s.hostFrame p 2 f fun s => s.takeReq p 2 f

/-- FENCE (R333). A FENCE frame is accepted and waits for the earlier writes of its port. -/
def execFence (p : Fin 4) (f : Frame) (s : State) : Host.Outcome State Fault Refusal :=
  portCmd p s fun s => s.hostFrame p 3 f fun s => s.takeReq p 3 f

/-- FENCE_COMPLETE (R333). Every covered write is held and the merge buffers are flushed, so the FENCE completes. -/
def execFenceComplete (p : Fin 4) (tag : Fin 64) (s : State) : Host.Outcome State Fault Refusal :=
  portCmd p s fun s => s.fenceComplete p tag

/-- READ_RESP (R329). A READ_RESP frame releases acknowledged responses and delivers the response block. -/
def execReadResp (p : Fin 4) (f : Frame) (taken : Nat) (s : State) : Host.Outcome State Fault Refusal :=
  portCmd p s fun s => s.hostFrame p 4 f fun s => s.readResp p (bits f.arg 0 8) (bits f.arg 8 8) taken

/-- DOZE (R339). A DOZE frame puts the port receiver into DOZE. -/
def execDoze (p : Fin 4) (f : Frame) (s : State) : Host.Outcome State Fault Refusal :=
  portCmd p s fun s => s.hostFrame p 5 f fun s => s.dozeIn p

/-- STREAM (R334). A STREAM frame takes bytes from a stream queue, or waits for the fill. -/
def execStream (p : Fin 4) (f : Frame) (s : State) : Host.Outcome State Fault Refusal :=
  portCmd p s fun s => s.hostFrame p 6 f fun s => s.takeReq p 6 f

/-- STREAM_WAIT_COMPLETE (R334). A waiting STREAM request's queue reaches LEN, so the request completes. -/
def execStreamWaitComplete (p : Fin 4) (q : Fin 4) (s : State) : Host.Outcome State Fault Refusal :=
  portCmd p s fun s => s.streamServe p q 65

/-- MODERATION_TIMEOUT (R336). The moderation timer expires and RESP_SIG is set. -/
def execModerationTimeout (p : Fin 4) (s : State) : Host.Outcome State Fault Refusal :=
  portCmd p s fun s => s.modTimeout p

/-- PORT_WAKE (R339). A fall of Hn_WAKE_N or Hn_CS_N takes the port out of DOZE. -/
def execPortWake (p : Fin 4) (s : State) : Host.Outcome State Fault Refusal := portCmd p s fun s => s.portFall p

/-- PORT_READY (R339). 5 µs after the wake the port is ready to take frames. -/
def execPortReady (p : Fin 4) (s : State) : Host.Outcome State Fault Refusal := portCmd p s fun s => s.portReady p

/-- HOST_WDOG (R340). The host watchdog expires, so the policy of WPT_HOSTSIL acts on the owned routes and the expiry is sent to the other lane. -/
def execHostWdog (p : Fin 4) (s : State) : Host.Outcome State Fault Refusal := portCmd p s fun s => s.wdogTimeout p

/-- HOST_SILENCE_NOTICE (R340). A watchdog expiry arrives from the other lane and the policy is applied to the port's routes. -/
def execHostSilenceNotice (l : LaneId) (s : State) : Host.Outcome State Fault Refusal :=
  laneCmd l s fun s => s.silenceNotice l

/-- WATCHDOG_ENABLE (R340). A write of EN = 1 to HSTn_WDOG while EN = 0 starts the watchdog. -/
def execWatchdogEnable (p : Fin 4) (v : Word) (s : State) : Host.Outcome State Fault Refusal :=
  portCmd p s fun s => if (s.lane (portLane p)).on then s.regWrite (portLane p) (Reg.hstWdog p) v else s

/-- BAD_REQ (R341). A host frame with a valid CRC but an opcode not in the table, or another field that breaks R322, completes with BAD_REQ or is discarded, and restarts the watchdog. -/
def execBadReq (p : Fin 4) (opcode : Byte) (f : Frame) (s : State) : Host.Outcome State Fault Refusal :=
  portCmd p s fun s => s.hostFrame p opcode f id

end Sys2Proof.Machine
end

