-- ==== Sys2Proof/Machine/Interrupts.lean ====
section
/-! DEFINITION. The commands of the interrupt controller (16_interrupts.md). -/

namespace Sys2Proof.Machine

/-- SOURCE_ARRIVAL (R348). An interrupt source signal rises or shows its selected edge, so the source becomes pending and its counter increments. -/
def execSourceArrival (l : LaneId) (k : Fin 256) (s : State) : Host.Outcome State Fault Refusal :=
  laneCmd l s fun s => s.upd l fun L => L.srcSense k

/-- CLAIM (R351). A read of ICU_TGTt_CLAIM claims the lowest eligible source. -/
def execClaim (l : LaneId) (t : Fin 5) (s : State) : Host.Outcome State Fault Refusal :=
  laneCmd l s fun s => (s.readReg l (Reg.tgtClaim t)).1

/-- COMPLETE (R353). A write to ICU_TGTt_COMPLETE ends service, or raises COMP_ORDER. -/
def execComplete (l : LaneId) (t : Fin 5) (v : Word) (s : State) : Host.Outcome State Fault Refusal :=
  laneCmd l s fun s => s.regWrite l (Reg.tgtComplete t) v

/-- CLR_REC (R353). The CLR_REC key empties the target's record without a fault. -/
def execClrRec (l : LaneId) (t : Fin 5) (v : Word) (s : State) : Host.Outcome State Fault Refusal :=
  laneCmd l s fun s => s.regWrite l (Reg.tgtCtrl t) v

/-- MODE_WRITE (R347). A write to ICU_MODEk changes sensing from the next PCLK without creating an edge. -/
def execModeWrite (l : LaneId) (k : Fin 16) (v : Word) (s : State) : Host.Outcome State Fault Refusal :=
  laneCmd l s fun s => s.regWrite l (Reg.icuMode k) v

/-- PENDING_CLEAR (R349). Writing 1 to the pending bit of an edge-sensed source clears it. -/
def execPendingClear (l : LaneId) (k : Fin 8) (v : Word) (s : State) : Host.Outcome State Fault Refusal :=
  laneCmd l s fun s => s.regWrite l (Reg.icuPend k) v

/-- MASK_WRITE (R352). A target enable-mask write changes eligibility from the next PCLK. -/
def execMaskWrite (l : LaneId) (t : Fin 5) (k : Fin 8) (v : Word) (s : State) : Host.Outcome State Fault Refusal :=
  laneCmd l s fun s => s.regWrite l (Reg.tgtEn t k) v

/-- SW_SET (R346). A write to ICU_SW.SET raises a software source. -/
def execSwSet (l : LaneId) (v : Word) (s : State) : Host.Outcome State Fault Refusal :=
  laneCmd l s fun s => s.regWrite l Reg.icuSw v

/-- SW_CLR (R346). A write to ICU_SW.CLR lowers a software source. -/
def execSwClr (l : LaneId) (v : Word) (s : State) : Host.Outcome State Fault Refusal :=
  laneCmd l s fun s => s.regWrite l Reg.icuSw v

/-- REMOTE_LINE (R354). A change of a remote target line arrives over the Crosswalk and drives Hn_IRQ_N. -/
def execRemoteLine (l : LaneId) (s : State) : Host.Outcome State Fault Refusal := laneCmd l s fun s => s.remoteLine l

end Sys2Proof.Machine
end

