-- ==== Sys2Proof/Machine/Lanes.lean ====
section
/-! DEFINITION. The commands of the Junction and of the Crosswalk (11_lanes_junction.md). -/

namespace Sys2Proof.Machine

/-- JUNCTION_DECISION (R230). A voter sees a change in the claims, keep-alives or fences and decides its next state. -/
def execJunctionDecision (f0 : VoterFault) (f1 : VoterFault) (f2 : VoterFault) (s : State) : Host.Outcome State Fault Refusal :=
  modCmd s fun s => s.voterDecision f0 f1 f2

/-- KEEPALIVE_TOGGLE (R227). Every 0.5 µs a lane, or its always-on part in standby, toggles its keep-alive line to the Junction voters. -/
def execKeepaliveToggle (l : LaneId) (s : State) : Host.Outcome State Fault Refusal :=
  anyCmd l s fun s => s.keepToggle l

/-- KEEPALIVE_LOSS (R227). A lane's keep-alive has not toggled for 2 µs, so it is treated as RELEASE and fenced SILENT. -/
def execKeepaliveLoss (l : LaneId) (s : State) : Host.Outcome State Fault Refusal := anyCmd l s fun s => s.keepLoss l

/-- START_ELIGIBLE_TIMEOUT (R230). A lane has been eligible for 500 ms in START, so it is granted authority. -/
def execStartEligibleTimeout (l : LaneId) (s : State) : Host.Outcome State Fault Refusal :=
  anyCmd l s fun s => s.eligTimeout l

/-- COAST_SAFE (R230). The 20 µs COAST timer expires, so the module enters SAFE. -/
def execCoastSafe (s : State) : Host.Outcome State Fault Refusal := modCmd s fun s => s.coastSafe

/-- AUTHORITY_CHANGE (R233). A new voted value takes effect at a drive die, and held commands are executed or discarded. -/
def execAuthorityChange (d : Fin 12) (s : State) : Host.Outcome State Fault Refusal := modCmd s fun s => s.authorityAt d

/-- HELD_COMMAND_EXPIRY (R239). A held command older than 20 µs is discarded. -/
def execHeldCommandExpiry (d : Fin 12) (s : State) : Host.Outcome State Fault Refusal :=
  modCmd s fun s => s.heldExpiry d

/-- SPEED_WORD (R236). A speed word and the comparison state arrive at a drive die. -/
def execSpeedWord (l : LaneId) (d : LinkEnd) (s : State) : Host.Outcome State Fault Refusal :=
  laneCmd l s fun s => if d.bad then s else s.speedArrive l d.die

/-- COMPARE_WINDOW_EXPIRY (R237). A stored command finds no partner within 10 µs, so a MISSING mismatch is reported. -/
def execCompareWindowExpiry (d : Fin 12) (s : State) : Host.Outcome State Fault Refusal :=
  modCmd s fun s => s.windowExpiry d

/-- MISMATCH_JUDGEMENT_TIMEOUT (R238). 2 µs pass after a mismatch with no release, so MIS_POL decides. -/
def execMismatchJudgementTimeout (s : State) : Host.Outcome State Fault Refusal := modCmd s fun s => s.judgeTimeout

/-- COMPARISON_ON (R240). Two route cycles of every route have begun under the conditions, so comparison becomes active. -/
def execComparisonOn (s : State) : Host.Outcome State Fault Refusal := modCmd s fun s => s.comparisonOn

/-- RELEASE (R234). The release key written to JCT_FENCE in the authority lane clears the SILENT and DISPUTE causes of the other lane. -/
def execRelease (l : LaneId) (v : Word) (s : State) : Host.Outcome State Fault Refusal :=
  laneCmd l s fun s => s.regWrite l Reg.jctFence v

/-- HANDOVER (R235). The key written to JCT_HANDOVER requests a planned handover, or sets HAND_REJ. -/
def execHandover (l : LaneId) (v : Word) (s : State) : Host.Outcome State Fault Refusal :=
  laneCmd l s fun s => s.regWrite l Reg.jctHandover v

/-- HEARTBEAT (R245). A heartbeat arrives from the other lane and clears the missed count or brings the link up. -/
def execHeartbeat (l : LaneId) (s : State) : Host.Outcome State Fault Refusal := laneCmd l s fun s => s.beat l

/-- HEARTBEAT_MISSED (R245). A heartbeat slot passes empty, and the fourth declares the link DOWN. -/
def execHeartbeatMissed (l : LaneId) (badCrc : Bool) (s : State) : Host.Outcome State Fault Refusal :=
  laneCmd l s fun s => s.beatMissed l badCrc

/-- HEARTBEAT_SEND (R245). Every 1 µs the lane sends a heartbeat. -/
def execHeartbeatSend (l : LaneId) (s : State) : Host.Outcome State Fault Refusal := 
  anyCmd l s fun s => if (s.lane l).counts then s.beatSend l else s

/-- RETRY (R244). A frame is not acknowledged within 1 µs, so it is sent again, and the fourth failure sets the link DOWN. -/
def execRetry (l : LaneId) (badCrc : Bool) (s : State) : Host.Outcome State Fault Refusal := laneCmd l s fun s => s.retry l badCrc

/-- FORWARDED_WRITE (R248). A forwarded mirrored write arrives at the other lane and is applied and acknowledged. -/
def execForwardedWrite (l : LaneId) (s : State) : Host.Outcome State Fault Refusal :=
  laneCmd l s fun s => s.forwardedWrite l

/-- FORWARD_ACK (R248). The other lane's acknowledgement arrives, and the host write completes. -/
def execForwardAck (l : LaneId) (s : State) : Host.Outcome State Fault Refusal := laneCmd l s fun s => s.forwardAck l

/-- REMOTE_ACCESS (R17). A remote-lane window access arrives over the Crosswalk and is served in this lane. -/
def execRemoteAccess (l : LaneId) (s : State) : Host.Outcome State Fault Refusal :=
  laneCmd l s fun s => s.remoteAccess l

/-- REMOTE_RESPONSE (R17). The response to a remote-window access arrives and completes the host request. -/
def execRemoteResponse (l : LaneId) (s : State) : Host.Outcome State Fault Refusal :=
  laneCmd l s fun s => s.remoteResponse l

/-- REJOIN_COPY (R251). A frame of the rejoin copy (RAM, register fields, route bank and detour state, active cuts) arrives at the rejoining lane and is stored in order. -/
def execRejoinCopy (l : LaneId) (s : State) : Host.Outcome State Fault Refusal := laneCmd l s fun s => s.rejoinCopy l

/-- REJOIN_DONE (R251). The rejoin copy completes, so the mirror becomes LINKED and XWK and REJOIN clear. -/
def execRejoinDone (l : LaneId) (s : State) : Host.Outcome State Fault Refusal := laneCmd l s fun s => s.rejoinDone l

end Sys2Proof.Machine
end

