-- ==== Sys2Proof/Machine/Monitor.lean ====
section
/-! DEFINITION. The commands of the monitor (21_monitor.md). -/

namespace Sys2Proof.Machine

/-- ID (R414). The monitor ID command replies with the serial number, lane letter and lock state. -/
def execMonId (l : LaneId) (line : MonLine) (s : State) : Host.Outcome State Fault Refusal :=
  laneCmd l s fun s => s.monLine l line fun s => s.monitor l [.opened, .locked] fun s => s.monId l

/-- RD (R414). The monitor RD command reads lane-local words. -/
def execMonRd (l : LaneId) (addr : BitVec 32) (n : Nat) (s : State) : Host.Outcome State Fault Refusal :=
  laneCmd l s fun s => s.monitor l [.opened] fun s => (s.writesFirst l addr.toNat (4 * n)).monRead l addr.toNat n

/-- WR (R414). The monitor WR command writes a lane-local word. -/
def execMonWr (l : LaneId) (addr : BitVec 32) (v : Word) (s : State) : Host.Outcome State Fault Refusal :=
  laneCmd l s fun s => s.monitor l [.opened] fun s => s.monWrite l addr.toNat v

/-- BAUD (R412). The monitor BAUD command sets the divisor after its reply. -/
def execMonBaud (l : LaneId) (d : Word) (line : MonLine) (s : State) : Host.Outcome State Fault Refusal :=
  laneCmd l s fun s => s.monLine l line fun s => s.monitor l [.opened, .locked] fun s => s.monBaud l d

/-- KEY (R414). The monitor KEY command stores KA, KE or KC. -/
def execMonKey (l : LaneId) (k : KeyName) (bytes : List Byte) (s : State) : Host.Outcome State Fault Refusal :=
  laneCmd l s fun s => s.monitor l [.opened] fun s => s.monKey l k bytes

/-- OPT (R414). The monitor OPT command programs a fuse option. -/
def execMonOpt (l : LaneId) (o : OptArg) (s : State) : Host.Outcome State Fault Refusal :=
  laneCmd l s fun s => s.monitor l [.opened] fun s => s.monOpt l o

/-- LOCK (R414). The monitor LOCK command takes the lane to LOCKED. -/
def execMonLock (l : LaneId) (s : State) : Host.Outcome State Fault Refusal :=
  laneCmd l s fun s => s.monitor l [.opened] fun s => s.monLock l

/-- SEAL (R420). The monitor SEAL command programs the seal fuse and removes the monitor. -/
def execMonSeal (l : LaneId) (fuseOk : Bool) (s : State) : Host.Outcome State Fault Refusal :=
  laneCmd l s fun s => s.monitor l [.locked] fun s => s.monSeal l fuseOk

/-- CHAL (R416). The monitor CHAL command draws and returns a nonce. -/
def execMonChal (l : LaneId) (s : State) : Host.Outcome State Fault Refusal :=
  laneCmd l s fun s => s.monitor l [.locked] fun s => s.monChal l

/-- RESP (R417). The monitor RESP command answers the challenge, and a correct answer erases the keys and opens the lane. -/
def execMonResp (l : LaneId) (r : RespArg) (s : State) : Host.Outcome State Fault Refusal :=
  laneCmd l s fun s => s.monitor l [.locked] fun s => s.monResp l r.bytes r.done

/-- RESTART (R414). The monitor RESTART command restarts the lane. -/
def execMonRestart (l : LaneId) (s : State) : Host.Outcome State Fault Refusal :=
  laneCmd l s fun s => s.monitor l [.opened] fun s => s.monRestart l

/-- CHALLENGE_DELAY_END (R416). The delay after a wrong response ends. -/
def execChallengeDelayEnd (l : LaneId) (s : State) : Host.Outcome State Fault Refusal :=
  anyCmd l s fun s => s.delayEnd l

/-- NONCE_EXPIRY (R416). A nonce becomes invalid 60 s after its CHAL. -/
def execNonceExpiry (l : LaneId) (s : State) : Host.Outcome State Fault Refusal := anyCmd l s fun s => s.nonceEnd l

end Sys2Proof.Machine
end

