-- ==== Sys2Proof/Machine/OdoRows.lean ====
section
/-! DEFINITION. What the Odometer's rows add to its core: which sensor's edge is awaited, virtual edges, and the judgement
of the cam windows (02_wheels.md R37 to R49). -/

namespace Sys2Proof.Machine

/-- The lane takes the crank transition: it is accepted (R25 to R28). -/
def Lane.crankTakes (L : Lane) (variantS sec : Bool) (e : EdgeIn) : Bool :=
  ((if sec then L else L.lobe false e).crankIn variantS sec e).isSome

/-- The tooth that a crank transition closes, with its stamp (R28, R29): none where it is not taken, or only stamped. -/
def Lane.toothOf (L : Lane) (variantS sec : Bool) (e : EdgeIn) : Option (Nat × EdgeIn) :=
  match (if sec then L else L.lobe false e).crankIn variantS sec e with
  | some x => if L.isTooth x then some (x.tooth, { e with width := x.width }) else none
  | none => none

/-- The lane's conditioned crank edge goes to the other lane, which tracks it as its secondary (R25); its stamp refers to
the pins, in that lane's LANE_TIME. -/
def State.sendSec (s : State) (l : LaneId) (e : EdgeIn) : State :=
  let L := s.lane l
  match (L.lobe false e).crankIn s.variantS false e with
  | none => s
  | some x => s.upd (otherLane l) fun R =>
      if R.on && R.odoEn && R.secEn s.variantS then
        R.odoUpd fun o => { o with secIn := o.secIn ++ [{ x with stamp := R.time - L.dIn }] }
      else R

/-- A value written to ODO_CTRL ends or restarts the search: EN is 0, or RESYNC is 1 and the state is not STOPPED (R41). -/
def Lane.ctrlEnds (L : Lane) (v : Word) : Bool := L.odoEn && (!v.getLsbD 0 || v.getLsbD 5 && L.odo.state != .stopped)

/-- A write of EN = 0 or RESYNC = 1 waits in the same cycle: R42 puts it before every other condition. -/
def State.odoOff (s : State) (l : LaneId) : Bool :=
  s.pending.any fun i => match i with
    | .odoDisable m v | .odoEnable m v | .resync m v => m == l && (s.lane l).ctrlEnds v
    | .registerWrite m _ a v => m == l && a.toNat == Reg.odoCtrl && (s.lane l).ctrlEnds v
    | _ => false

/-- The Odometer of lane l acts, after a write of ODO_CTRL that waits in the same cycle (R42). -/
def State.odoRow (s : State) (l : LaneId) (f : Lane → Lane) : State :=
  s.odoStep l fun L => f (if s.odoOff l then L.acts 1 else L)

/-- The edge confirms a new direction: it is the last of DIR_CONFIRM contrary teeth of the active sensor (R30). -/
def Lane.confirms (L : Lane) (variantS : Bool) (e : EdgeIn) : Bool :=
  match L.toothOf variantS (L.active variantS) e with
  | none => false
  | some (_, e) => L.toothDir e != L.odo.dir
      && decide (L.fld Reg.odoDir 26 2 ≤ (if L.odo.state == .stopped then [] else L.odo.contrary).length)

/-- A crank edge of lane l that it will take waits in the same cycle (R20, R38, R70); `only` one of that sensor. A
secondary edge may follow its primary edge of the other lane within the cycle. -/
def State.crankSoon (s : State) (l : LaneId) (only : Option Bool) : Bool :=
  let sent := s.pending.any fun i => match i with
    | .crankEdge m false e => m == otherLane l && (s.lane m).crankTakes s.variantS false e
    | _ => false
  let takes := fun sec e => (s.lane l).crankTakes s.variantS sec e || sec && (s.lane l).secEn s.variantS && sent
  s.pending.any fun i => match i with
    | .crankEdge m sec e => m == l && (only.isNone || only == some sec) && takes sec e
    | .directionConfirmed m e =>
      let sec := (s.lane l).active s.variantS
      m == l && (only.isNone || only == some sec) && takes sec e
    | _ => false

/-- An edge that ends a span waits in the same cycle: of a crank sensor, a virtual edge, or a span end of HOLD (R70). -/
def State.edgeSoon (s : State) (l : LaneId) : Bool :=
  let L := s.lane l
  s.crankSoon l none || s.pending.any fun i => match i with
    | .virtualEdge m => m == l && L.odo.state == .fullSync && L.odo.virt.head?.any fun v => decide (v.1 ≤ L.time)
    | .holdSpanEnd m => m == l && L.odo.state == .hold && decide (L.odo.t0 + L.odo.pp ≤ L.time)
    | _ => false

/-- MICRO_TICK: an edge of the same TCLK that still waits is acted on first, and the micro-tick is taken after it (R70). -/
def State.microRow (s : State) (l : LaneId) : State :=
  if s.edgeSoon l then s.upd l fun L => L.odoUpd fun o => { o with owed := some L.time }
  else (s.writesFirst l (arrayBase 1) (arraySize 1)).microTick l

/-- The micro-tick that waited for the edges of this TCLK is taken after the last of them (R70). -/
def State.payTick (s : State) (l : LaneId) : State :=
  if (s.lane l).odo.owed == some (s.lane l).time && !s.edgeSoon l then
    ((s.writesFirst l (arrayBase 1) (arraySize 1)).upd l fun L => L.odoUpd fun o => { o with owed := none }).microTick l
  else s

/-- A crank transition: it ends IDLE where it is taken, reaches the other lane, and the Odometer acts on it (R25, R35,
R405). -/
def State.crankRow (s : State) (l : LaneId) (sec : Bool) (e : EdgeIn) : State :=
  let s := s.upd l fun L => if L.crankTakes s.variantS sec e then L.idleExit else L
  let s := if sec then s else s.sendSec l e
  (s.odoRow l fun L => L.crankEdge s.variantS sec e).payTick l

/-- The crank edges that wait in the cycle bring a condition of R41, which R42 puts before a cam condition. -/
def State.edgeMoves (s : State) (l : LaneId) : Bool :=
  let L := s.lane l
  let moves := fun sec e =>
    let R := L.crankEdge s.variantS sec e
    R.odo.state != L.odo.state || R.odo.actSec != L.odo.actSec
  s.pending.any fun i => match i with
    | .crankEdge m sec e => m == l && moves sec e
    | .directionConfirmed m e => m == l && L.confirms s.variantS e && moves (L.active s.variantS) e
    | _ => false

/-- A condition that R42 puts after the crank edges: it is acted on unless one of them comes before it in this TCLK. -/
def State.lateCond (s : State) (l : LaneId) (f : Lane → Lane) : State := if s.edgeMoves l then s else s.odoRow l f

/-- A cam edge; a crank edge of the same TCLK is ordered before it (R37, R38). -/
def State.camRow (s : State) (l : LaneId) (e : EdgeIn) : State :=
  let first := s.crankSoon l (some ((s.lane l).active s.variantS))
  s.odoStep l fun L => L.camEdge first e

/-- The virtual edge at the front is acted on: the micro-ticks follow it (R45). -/
def Lane.virtualEdge (L : Lane) : Lane :=
  match L.odo.virt with
  | [] => L
  | (t, m) :: rest =>
    if L.time < t || L.odo.state != .fullSync then L
    else (L.odoUpd fun o => { o with virt := rest }).alignTo t m

/-- STALL (R47, R48): an edge of the active sensor accepted in the same cycle is in time; the other sensor's keeps it from
having timed out. -/
def State.stallRow (s : State) (l : LaneId) : State :=
  let L := s.lane l
  let act := L.odo.actSec
  if s.crankSoon l (some act) || s.odoOff l then s
  else
    let other := L.secEn s.variantS && (!L.timedOut (!act) || s.crankSoon l (some !act))
    s.odoStep l fun L => L.stall s.variantS other

/-- SILENT (R46): the other sensor has delivered 4 teeth with no edge of this one. -/
def Lane.silentRow (L : Lane) (variantS sec : Bool) : Lane :=
  let t := L.odo.sensor sec
  if L.odoEn && L.secEn variantS && !t.silent && decide (4 ≤ t.noEdge) then L.declareSilent sec else L

/-- CONFLICT_LIMIT (R39, R42): that many consecutive cycles each brought a conflict. -/
def Lane.conflictLimit (L : Lane) : Lane :=
  let k := L.fld Reg.odoCamwin 28 4
  if L.odo.state == .fullSync && k ≠ 0 && decide (k ≤ L.odo.conflicts) && L.mayAct 5 then
    (L.odoUpd fun o => { o with conflicts := 0, conflictAt := none }).toLost false
  else L

/-- CAM_MISS (R39): the window has passed and is judged, with no reference in it. -/
def Lane.camMissRow (L : Lane) : Lane :=
  match L.odo.camOpen with
  | some k =>
    if L.odo.state == .fullSync && (L.fld Reg.odoWheel 22 2 == 1 || L.odo.camJudge || decide (L.odoN ≤ k)) then
      let first := !L.odo.missRun
      let L := (L.odoUpd fun o => { o with camOpen := none, camJudge := false, camLock := false, missRun := true }).event
        Reg.odoEvent 10
      if first then L.raise .odoCamMiss 0 else L
    else L
  | none => L

/-- CAM_SILENT (R37): two revolutions of CRANK_SYNC have brought no cam reference. -/
def Lane.camSilentRow (L : Lane) : Lane :=
  if L.odo.state == .crankSync && decide (L.odo.camFrom + 2 * L.odoN ≤ L.odo.absPos) then
    (L.odoUpd fun o => { o with camFrom := o.absPos }).event Reg.odoEvent 12
  else L

/-- LINK_HELD (R102, R105): the first held command of die d is issued once its queue has room; a crossing is late by the
time it waited, and a start that is then too late is dropped. -/
def Lane.linkHeldRow (L : Lane) (now d : Nat) : Lane :=
  match L.sched.held.find? fun h => h.die == d with
  | none => L
  | some h =>
    if 16 ≤ L.linkDepth now d then L
    else
      let L := L.schedUpd fun s => { s with held := s.held.erase h }
      if 240 ≤ h.route then L.linkPut now d h.cmd
      else
        let c := { h.cmd with late := true, lateness := h.cmd.lateness + (now - h.since) }
        let t := L.route h.route
        let isStart := c.kind == .startT || c.kind == .startA || c.kind == .dwell
        if isStart && t.lateMax != 0 && decide (t.lateMax < c.lateness) then
          let L := if c.kind == .startA && t.rcn == h.rcn then
              L.routeUpd h.route fun t => { t with openA := t.openA.filter (· != c.idx) }
            else L
          (L.recordDrop h.route c.idx 1 h.rcn).event Reg.wptEvent 5
        else (L.recordLate h.route c.idx c.lateness).linkPut now d c

end Sys2Proof.Machine
end

