-- ==== Sys2Proof/Machine/Odometer.lean ====
section
/-! DEFINITION. The commands of the Odometer and of the mark generators (02_wheels.md, 03_odometer_angle.md). -/

namespace Sys2Proof.Machine

/-- CRANK_EDGE (R35). The Odometer acts on an accepted crank edge: it stamps the edge, evaluates the gap, tracks synchronisation and predicts the period. -/
def execCrankEdge (l : LaneId) (sec : Bool) (e : EdgeIn) (s : State) : Host.Outcome State Fault Refusal :=
  laneCmd l s fun s => s.crankRow l sec e

/-- DIRECTION_CONFIRMED (R49). DIR_CONFIRM contrary teeth confirm a new direction, as a commanded or an unexpected reversal. -/
def execDirectionConfirmed (l : LaneId) (e : EdgeIn) (s : State) : Host.Outcome State Fault Refusal :=
  laneCmd l s fun s => if (s.lane l).confirms s.variantS e then s.crankRow l ((s.lane l).active s.variantS) e else s

/-- CAM_EDGE (R37). An accepted cam edge is evaluated as a cam reference and judged against the cam window. -/
def execCamEdge (l : LaneId) (e : EdgeIn) (s : State) : Host.Outcome State Fault Refusal :=
  laneCmd l s fun s => s.camRow l e

/-- VIRTUAL_EDGE (R45). The virtual edge of a sensor switch is acted on at its computed time. -/
def execVirtualEdge (l : LaneId) (s : State) : Host.Outcome State Fault Refusal :=
  laneCmd l s fun s => (s.odoRow l Lane.virtualEdge).payTick l

/-- HOLD_SPAN_END (R73). A virtual span end in HOLD is acted on at t0 + Pp. -/
def execHoldSpanEnd (l : LaneId) (s : State) : Host.Outcome State Fault Refusal :=
  laneCmd l s fun s => (s.odoRow l Lane.holdSpan).payTick l

/-- STALL (R47). The tooth timeout expires on the tracked sensors, so a stall is declared and the Odometer goes to STOPPED. -/
def execStall (l : LaneId) (s : State) : Host.Outcome State Fault Refusal := laneCmd l s fun s => s.stallRow l

/-- SILENT (R46). A sensor delivers no edge while the other delivers 4 teeth, so it is declared SILENT. -/
def execSilent (l : LaneId) (sec : Bool) (s : State) : Host.Outcome State Fault Refusal :=
  laneCmd l s fun s => s.upd l fun L => L.silentRow s.variantS sec

/-- HOLD_LIMIT (R41). HOLD_LIMIT milestones pass in HOLD without verification, so the Odometer enters LOST. -/
def execHoldLimit (l : LaneId) (s : State) : Host.Outcome State Fault Refusal :=
  laneCmd l s fun s => s.lateCond l Lane.holdLimit

/-- CONFLICT_LIMIT (R39). CONFLICT_LIMIT consecutive conflicting cycles send the Odometer to LOST. -/
def execConflictLimit (l : LaneId) (s : State) : Host.Outcome State Fault Refusal :=
  laneCmd l s fun s => s.lateCond l Lane.conflictLimit

/-- CAM_MISS (R39). The cam window passes in FULL_SYNC with no reference, so CAM_MISS is set. -/
def execCamMiss (l : LaneId) (s : State) : Host.Outcome State Fault Refusal :=
  laneCmd l s fun s => s.upd l fun L => L.camMissRow

/-- CAM_SILENT (R37). Two revolutions pass in CRANK_SYNC with no cam reference, so CAM_SILENT is set. -/
def execCamSilent (l : LaneId) (s : State) : Host.Outcome State Fault Refusal :=
  laneCmd l s fun s => s.upd l fun L => L.camSilentRow

/-- ODO_ENABLE (R78). A write of EN = 1 to ODO_CTRL enables the Odometer, or is refused with CFG_REJ. -/
def execOdoEnable (l : LaneId) (v : Word) (s : State) : Host.Outcome State Fault Refusal :=
  laneCmd l s fun s => s.regWrite l Reg.odoCtrl v

/-- ODO_DISABLE (R41). A write of EN = 0 to ODO_CTRL sends the Odometer to STOPPED, treated as a stall. -/
def execOdoDisable (l : LaneId) (v : Word) (s : State) : Host.Outcome State Fault Refusal :=
  laneCmd l s fun s => s.regWrite l Reg.odoCtrl v

/-- RESYNC (R41). A write of 1 to RESYNC sends the Odometer to SEEK. -/
def execResync (l : LaneId) (v : Word) (s : State) : Host.Outcome State Fault Refusal :=
  laneCmd l s fun s => s.regWrite l Reg.odoCtrl v

/-- ODO_CONFIG_WRITE (R33). A write to a wheel, timeout, sensor, direction, interpolation or speed-window register while EN = 1 is ignored and sets CFG_REJ. -/
def execOdoConfigWrite (l : LaneId) (reg : OdoCfgReg) (v : Word) (s : State) : Host.Outcome State Fault Refusal :=
  laneCmd l s fun s => s.regWrite l (odoCfgAddr reg) v

/-- GEO_RESET (R64). A write of 1 to GEO_RESET sets every geometry factor to nominal and clears ODO_GEOSTAT. -/
def execGeoReset (l : LaneId) (v : Word) (s : State) : Host.Outcome State Fault Refusal :=
  laneCmd l s fun s => s.regWrite l Reg.odoGeoctrl v

/-- GEOMETRY_WRITE (R64). A host write to a geometry entry is applied only while EN = 0 or FREEZE = 1. -/
def execGeometryWrite (l : LaneId) (astern : Bool) (i : Fin 1024) (v : Word) (s : State) : Host.Outcome State Fault Refusal :=
  laneCmd l s fun s => s.regWrite l (geometryAddr astern i.val) v

/-- MARK_ENABLE (R75). A write of EN = 1 to a mark generator enables it, or is refused with MARK_REJ. -/
def execMarkEnable (l : LaneId) (g : Fin 8) (v : Word) (s : State) : Host.Outcome State Fault Refusal :=
  laneCmd l s fun s => s.regWrite l (Reg.markCtrl g) v

/-- MICRO_TICK (R65). In a TCLK in which the angle word is below its target, one micro-tick is emitted. -/
def execMicroTick (l : LaneId) (s : State) : Host.Outcome State Fault Refusal := laneCmd l s fun s => s.microRow l

end Sys2Proof.Machine
end

