-- ==== Sys2Proof/Machine/Power.lean ====
section
/-! DEFINITION. The commands of clocks, resets and power states (20_clocks_power.md, 22_electrical.md). -/

namespace Sys2Proof.Machine

/-- CLOCK (R399). The clock monitor finds a deviation beyond ±10 %. -/
def execClock (l : LaneId) (dev : BitVec 16) (s : State) : Host.Outcome State Fault Refusal :=
  anyCmd l s fun s => s.clockRow l fun L => L.clockDev s.now dev

/-- PLL_UNLOCK (R399). The root PLL loses lock. -/
def execPllUnlock (l : LaneId) (s : State) : Host.Outcome State Fault Refusal :=
  anyCmd l s fun s => s.clockRow l fun L => L.pllLost s.now

/-- WARM_RESET (R401). After a clock fault with AUTO_RST = 1, or after an internal rail fault, the lane is reset and restarts from step 2. -/
def execWarmReset (l : LaneId) (rail : Bool) (s : State) : Host.Outcome State Fault Refusal :=
  anyCmd l s fun s => s.autoReset l rail

/-- LANE_RESTART (R401). The restart key in CLK_RST restarts the lane as a warm reset. -/
def execLaneRestart (l : LaneId) (v : Word) (s : State) : Host.Outcome State Fault Refusal :=
  anyCmd l s fun s => s.restartRow l v

/-- CORE_RESET (R401). The core key in CLK_RST resets the service core alone. -/
def execCoreReset (l : LaneId) (v : Word) (s : State) : Host.Outcome State Fault Refusal :=
  laneCmd l s fun s => s.regWrite l Reg.clkRst v

/-- CORE_WDOG (R401). The service-core watchdog expires and resets the service core. -/
def execCoreWdog (l : LaneId) (s : State) : Host.Outcome State Fault Refusal := anyCmd l s fun s => s.coreWdogRow l

/-- CORE_WDOG_KICK (R401). A write to CLK_CORE_WDOG restarts the service-core watchdog. -/
def execCoreWdogKick (l : LaneId) (v : Word) (s : State) : Host.Outcome State Fault Refusal :=
  laneCmd l s fun s => s.regWrite l Reg.clkCoreWdog v

/-- FRST_WRITE (R402). A write to an FRST bit, or a FENCE_FUNCTION reaction, holds or releases one function in per-function reset. -/
def execFrstWrite (l : LaneId) (k : Fin 10) (v : Word) (s : State) : Host.Outcome State Fault Refusal :=
  laneCmd l s fun s => (s.regWrite l (frstReg k) v).releaseAll

/-- IDLE_REQUEST (R405). REQ = 0b10 written to CLK_PWR enters IDLE, or sets ENTRY_REJ. -/
def execIdleRequest (l : LaneId) (v : Word) (s : State) : Host.Outcome State Fault Refusal :=
  laneCmd l s fun s => s.regWrite l Reg.clkPwr v

/-- RUN_REQUEST (R405). REQ = 0b01 written to CLK_PWR returns the lane to RUN. -/
def execRunRequest (l : LaneId) (v : Word) (s : State) : Host.Outcome State Fault Refusal :=
  laneCmd l s fun s => s.regWrite l Reg.clkPwr v

/-- STANDBY_REQUEST (R406). REQ = 0b11 with the key enters STANDBY through the entry steps, or sets ENTRY_REJ. -/
def execStandbyRequest (l : LaneId) (v : Word) (s : State) : Host.Outcome State Fault Refusal :=
  laneCmd l s fun s => s.regWrite l Reg.clkPwr v

/-- PRIVILEGED_WAKE (R409). An enabled privileged source arrives in standby, or during entry, and wakes the lane or abandons the entry. -/
def execPrivilegedWake (l : LaneId) (i : Fin 6) (s : State) : Host.Outcome State Fault Refusal :=
  anyCmd l s fun s => s.wakeRow l i

/-- WAKE_COMPLETE (R409). The PLL is locked and retention is restored, so the lane is in RUN and READY. -/
def execWakeComplete (l : LaneId) (slept : Nat) (s : State) : Host.Outcome State Fault Refusal :=
  anyCmd l s fun s => s.wakeDone l slept

/-- WAKE_TIMER (R355). The wake timer expires and raises WAKE_TIMER. -/
def execWakeTimer (l : LaneId) (s : State) : Host.Outcome State Fault Refusal := anyCmd l s fun s => s.wakeTimer l

/-- SUPPLY_LOSS (R410). VSUP stays below 7.0 V for 50 µs, so the lane goes OFF. -/
def execSupplyLoss (l : LaneId) (s : State) : Host.Outcome State Fault Refusal := anyCmd l s fun s => s.supplyLoss l

/-- DRIVE_SUPPLY_LOSS (R428). VSUP falls below 7.0 V, so every drive die switch turns off within 2 µs. -/
def execDriveSupplyLoss (s : State) : Host.Outcome State Fault Refusal := modCmd s fun s => s.driveLoss

/-- SUPPLY (R355, R410). VSUP crosses a warning limit of CLK_SUPWARN. -/
def execSupply (l : LaneId) (vsup : Nat) (s : State) : Host.Outcome State Fault Refusal :=
  anyCmd l s fun s => s.supplyRow l vsup

/-- LANE_TEMP (R410). The lane die temperature rises through TWARN. -/
def execLaneTemp (l : LaneId) (temp : BitVec 16) (s : State) : Host.Outcome State Fault Refusal :=
  anyCmd l s fun s => s.alwaysOn l fun L => L.laneTemp temp

end Sys2Proof.Machine
end

