-- ==== Sys2Proof/Machine/Rails.lean ====
section
/-! DEFINITION. The commands of the boost rails and of the sensor supplies (07_boost_rails.md, 22_electrical.md). -/

namespace Sys2Proof.Machine

/-- RAIL_MEASUREMENT (R160). The 1 µs rail measurement starts or stops charging and checks the ramp, OV and UV. -/
def execRailMeasurement (k : Fin 4) (v : BitVec 12) (s : State) : Host.Outcome State Fault Refusal :=
  modCmd s fun s => s.railMeasure k v.toNat

/-- BOOST_CYCLE_START (R161). The off-time TOFF ends and the FET turns on for the next charging cycle. -/
def execBoostCycleStart (k : Fin 4) (s : State) : Host.Outcome State Fault Refusal := modCmd s fun s => s.cycleStart k

/-- BOOST_FET_OFF (R161). The sense voltage reaches ILIM, or 10 µs pass, so the FET turns off. -/
def execBoostFetOff (k : Fin 4) (byLimit : Bool) (s : State) : Host.Outcome State Fault Refusal :=
  modCmd s fun s => s.fetOff k byLimit

/-- SENSE_FAULT (R163). Sixteen consecutive cycles are ended by the 10 µs limit, so the controller goes to STOPPED. -/
def execSenseFault (k : Fin 4) (s : State) : Host.Outcome State Fault Refusal := modCmd s fun s => s.senseFault k

/-- CHG_TIMEOUT (R163). The 10 ms charge limit expires, so the controller goes to STOPPED. -/
def execChgTimeout (k : Fin 4) (s : State) : Host.Outcome State Fault Refusal := modCmd s fun s => s.chgTimeout k

/-- BOOST_ENABLE (R163). EN written 1 starts the ramp of a boost rail. -/
def execBoostEnable (l : LaneId) (k : Fin 4) (v : Word) (s : State) : Host.Outcome State Fault Refusal :=
  laneCmd l s fun s => s.boostRow l k v

/-- BOOST_DISABLE (R163). EN written 0 sends the boost controller to OFF. -/
def execBoostDisable (l : LaneId) (k : Fin 4) (v : Word) (s : State) : Host.Outcome State Fault Refusal :=
  laneCmd l s fun s => s.boostRow l k v

/-- SET_ERR (R159). Boost or spark-set settings arrive at the die and are taken, or kept old on a CRC mismatch. -/
def execSetErr (t : SetTarget) (s : State) : Host.Outcome State Fault Refusal :=
  modCmd s fun s => match t with | .rail k => s.railSettings k | .sparkSets d => s.setsArrive d

/-- SENSOR_SUPPLY_SHUTDOWN (R429). A sensor supply output SUPx turns off on overtemperature, or while its pin is above 5.5 V. -/
def execSensorSupplyShutdown (x : Fin 8) (hot : Bool) (s : State) : Host.Outcome State Fault Refusal :=
  modCmd s fun s => s.supOff x hot

/-- SENSOR_SUPPLY_RETRY (R429). 100 ms after a thermal shutdown the SUPx output retries. -/
def execSensorSupplyRetry (x : Fin 8) (s : State) : Host.Outcome State Fault Refusal := modCmd s fun s => s.supRetry x

end Sys2Proof.Machine
end

