-- ==== Sys2Proof/Machine/Registers.lean ====
section
/-! DEFINITION. A register write that has no row of its own (01_architecture.md R7). -/

namespace Sys2Proof.Machine

/-- REGISTER_WRITE (R7). A host, service-core or image write to a register that has no row of its own is applied according to the field access codes. -/
def execRegisterWrite (l : LaneId) (m : Writer) (addr : BitVec 32) (v : Word) (s : State) : Host.Outcome State Fault Refusal :=
  laneCmd l s fun s => s.registerWrite l m addr.toNat v

end Sys2Proof.Machine
end

