-- ==== Sys2Proof/Machine/Scheduler.lean ====
section
/-! DEFINITION. The commands of the waypoint scheduler (04_waypoints_routes.md). -/

namespace Sys2Proof.Machine

/-- LINK_HELD (R105). A crossing held for a full link queue is issued once the queue has room. -/
def execLinkHeld (l : LaneId) (d : Fin 12) (s : State) : Host.Outcome State Fault Refusal :=
  laneCmd l s fun s => s.upd l fun L => L.linkHeldRow s.now d

/-- COMMIT (R92). A WPT_COMMIT write with CANCEL = 0 sets the pending flag of a route or of all owned routes. -/
def execCommit (l : LaneId) (w : Writer) (v : Word) (s : State) : Host.Outcome State Fault Refusal :=
  laneCmd l s fun s => s.regWriteBy l w Reg.wptCommit v

/-- COMMIT_CANCEL (R92). A WPT_COMMIT write with CANCEL = 1 clears the pending flags. -/
def execCommitCancel (l : LaneId) (w : Writer) (v : Word) (s : State) : Host.Outcome State Fault Refusal :=
  laneCmd l s fun s => s.regWriteBy l w Reg.wptCommit v

/-- SHADOW_WRITE (R91). A host write to the shadow window is applied to the shadow bank, or completes with BUSY or NOT_OWNER. -/
def execShadowWrite (l : LaneId) (w : Writer) (addr : BitVec 32) (v : Word) (s : State) : Host.Outcome State Fault Refusal :=
  laneCmd l s fun s => if (shadowOf addr.toNat).isSome then s.registerWrite l w addr.toNat v else s

/-- ROUTE_RAM_WRITE (R91). A direct host write to the route RAM is applied only to an idle route's bank or to a header, and otherwise completes with BUSY. -/
def execRouteRamWrite (l : LaneId) (w : Writer) (addr : BitVec 32) (v : Word) (s : State) : Host.Outcome State Fault Refusal :=
  laneCmd l s fun s => if arrayOf addr.toNat == some 1 then s.registerWrite l w addr.toNat v else s

/-- SCHED_ENABLE (R108). A write of WPT_CTRL.EN = 1 while the angle word is valid starts the routes, as at an entry to FULL_SYNC. -/
def execSchedEnable (l : LaneId) (v : Word) (s : State) : Host.Outcome State Fault Refusal :=
  laneCmd l s fun s => s.regWrite l Reg.wptCtrl v

/-- SCHED_DISABLE (R107). A write of WPT_CTRL.EN = 0 cancels all waypoints with cause STOP. -/
def execSchedDisable (l : LaneId) (v : Word) (s : State) : Host.Outcome State Fault Refusal :=
  laneCmd l s fun s => s.regWrite l Reg.wptCtrl v

/-- SWAP_DECISION (R95). The authority lane's swap decision arrives at the standby lane and is applied at its route cycle start, together with the estimate sync. -/
def execSwapDecision (l : LaneId) (s : State) : Host.Outcome State Fault Refusal :=
  laneCmd l s fun s => s.swapDecision l

/-- SWAP_DECISION_TIMEOUT (R95). No decision has arrived within 4 µs, so the standby lane decides alone and sets DEC_MISS. -/
def execSwapDecisionTimeout (l : LaneId) (r : Fin 240) (s : State) : Host.Outcome State Fault Refusal :=
  laneCmd l s fun s => s.swapTimeout l r

end Sys2Proof.Machine
end

