-- ==== Sys2Proof/Machine/StartUp.lean ====
section
/-! DEFINITION. The commands of a lane's start and of its configuration store (14_start_up.md). -/

namespace Sys2Proof.Machine

/-- COLD_POWER_UP (R294). Supply good after OFF starts every step of the lane start-up sequence, including the fuse load and the memory clearing. -/
def execColdPowerUp (l : LaneId) (s : State) : Host.Outcome State Fault Refusal := anyCmd l s fun s => s.coldPowerUp l

/-- The writes that waited for the end of the initialisation are applied, in their order (R290). -/
def State.waitsDone (s : State) (l : LaneId) : State :=
  let ws := (s.lane l).mem.waits
  ws.foldl (fun s w => (s.writeBlock l w.1 w.2.1 w.2.2).1) (s.upd l fun L => { L with mem := { L.mem with waits := [] } })

/-- MEMORY_INIT_DONE (R290, R294): the cold initialisation, which R22 lets clear the arrays, is complete; the accesses that
waited for it go on, and so does the start, unless one of them reset the lane. -/
def State.memoryInit (s : State) (l : LaneId) (memOk : Bool) : State :=
  if !(s.lane l).initing then s
  else
    let s := (((s.initEnd l).waitsDone l).releaseAll).monResume l
    if (s.lane l).on && (s.lane l).power.cold then s.boot l memOk else s

/-- MEMORY_INIT_DONE (R290). Cold initialisation of the arrays and spare words completes and INIT_DONE is set. -/
def execMemoryInitDone (b : BootEnd) (s : State) : Host.Outcome State Fault Refusal :=
  laneCmd b.lane s fun s => s.memoryInit b.lane b.memOk

/-- PLL_LOCK (R294). The reference and root PLL lock, LANE_TIME starts and Crosswalk training begins. -/
def execPllLock (b : BootEnd) (s : State) : Host.Outcome State Fault Refusal :=
  anyCmd b.lane s fun s => s.pllLock b.lane b.memOk

/-- PLL_LOCK_TIMEOUT (R400). The PLL has not locked within 10 ms, so the lane is held in reset and retried every 100 ms. -/
def execPllLockTimeout (l : LaneId) (s : State) : Host.Outcome State Fault Refusal := anyCmd l s fun s => s.pllTimeout l

/-- DIGEST_EXCHANGE (R250). The other lane's sequence number and digest arrive and decide eligibility, DIGEST fences and rejoin. -/
def execDigestExchange (l : LaneId) (s : State) : Host.Outcome State Fault Refusal :=
  laneCmd l s fun s => s.digestExchange l

/-- PARTNER_REPORT_TIMEOUT (R297). The partner has not reported within 150 ms, so the lane presents STANDBY. -/
def execPartnerReportTimeout (l : LaneId) (s : State) : Host.Outcome State Fault Refusal :=
  laneCmd l s fun s => s.partnerTimeout l

/-- IMAGE_REPAIR (R310). After READY the service core validates and rewrites failing or stale image copies. -/
def execImageRepair (l : LaneId) (s : State) : Host.Outcome State Fault Refusal :=
  laneCmd l s fun s => s.upd l fun L => L.imageRepair s.variantS

/-- JOURNAL_PAGE_WRITE (R313). The journal page buffer is written when full, 1 s after its first record, or at once for a CONTAINED or FATAL fault record. -/
def execJournalPageWrite (l : LaneId) (fails : Bool) (s : State) : Host.Outcome State Fault Refusal :=
  laneCmd l s fun s => s.upd l fun L => L.jrnWrite fails

/-- SNAPSHOT (R312). A SNAPSHOT journal record is written hourly or on a change of remap or erasure. -/
def execSnapshot (l : LaneId) (s : State) : Host.Outcome State Fault Refusal :=
  laneCmd l s fun s => s.upd l fun L => L.snapshot

/-- PATROL (R314). Every PATROL_H hours the store pages are read and worn or disturbed blocks are refreshed. -/
def execPatrol (l : LaneId) (s : State) : Host.Outcome State Fault Refusal :=
  laneCmd l s fun s => s.upd l fun L => L.patrol s.variantS

/-- SCRUB_INTERVAL (R288). At the SCRUB_H interval the service core starts a whole-array scrub pass. -/
def execScrubInterval (l : LaneId) (s : State) : Host.Outcome State Fault Refusal :=
  laneCmd l s fun s => s.upd l fun L => L.scrubInterval

/-- INSTALL (R315). A write of the install key starts checking the staged image and writing three copies into the other slot. -/
def execInstall (l : LaneId) (s : State) : Host.Outcome State Fault Refusal :=
  laneCmd l s fun s => s.registerWrite l .core Reg.cfgInstall 0x7E180000

/-- INSTALL_DONE (R315). The install completes or fails and sets its result. -/
def execInstallDone (l : LaneId) (fails : Bool) (s : State) : Host.Outcome State Fault Refusal :=
  laneCmd l s fun s => s.installDone l fails

/-- RUN_RECORD (R311). Every hour the service core appends a RUN record of running hours, cycles and guard trips to the journal buffer. -/
def execRunRecord (l : LaneId) (s : State) : Host.Outcome State Fault Refusal :=
  laneCmd l s fun s => s.upd l fun L => L.runRecord

end Sys2Proof.Machine
end

