-- ==== Sys2Proof/Machine/TwoWire.lean ====
section
/-! DEFINITION. The commands of the two-wire block (19_two_wire.md). -/

namespace Sys2Proof.Machine

/-- TWI_GO (R387). A write of GO to TWI_CCMD starts a controller command, or sets CFG_REJ. -/
def execTwiGo (l : LaneId) (v : Word) (s : State) : Host.Outcome State Fault Refusal :=
  laneCmd l s fun s => s.regWrite l Reg.twiCcmd v

/-- TWI_COMMAND_END (R387). A controller command ends as DONE, NACK or ARB_LOST. -/
def execTwiCommandEnd (l : LaneId) (o : TwiOutcome) (s : State) : Host.Outcome State Fault Refusal :=
  laneCmd l s fun s => s.upd l fun L => L.twiOutcome o

/-- TWI_RETRY (R389). After a STOP and TBUF a lost command starts again. -/
def execTwiRetry (l : LaneId) (s : State) : Host.Outcome State Fault Refusal :=
  laneCmd l s fun s => s.upd l fun L => L.twiRetry

/-- TWI_BUS_FREE (R386). The bus becomes free after a STOP and TBUF, or after both lines are high for TBUF, so a command waiting in WAIT_BUS begins its START. -/
def execTwiBusFree (l : LaneId) (s : State) : Host.Outcome State Fault Refusal :=
  laneCmd l s fun s => s.upd l fun L => L.twiFree

/-- CTL_EN (R394). CTL_EN written 1 enables the controller and checks for a stuck bus. -/
def execCtlEn (l : LaneId) (v : Word) (s : State) : Host.Outcome State Fault Refusal :=
  laneCmd l s fun s => s.regWrite l Reg.twiCtrl v

/-- BUS_STUCK (R394). SCL stays low for STUCK_T, or SDA stays low after nine pulses, so the command ends with STUCK. -/
def execBusStuck (l : LaneId) (sda : Bool) (s : State) : Host.Outcome State Fault Refusal :=
  laneCmd l s fun s => s.busStuckRow l sda

/-- TWI_TIMEOUT (R395). An SCL low period exceeds TO_LOW, so the controller or target releases the bus. -/
def execTwiTimeout (l : LaneId) (s : State) : Host.Outcome State Fault Refusal := laneCmd l s fun s => s.twiTimeoutRow l

/-- TARGET_WRITE (R391). A write transfer to the target sets the pointer and writes its page at the STOP. -/
def execTargetWrite (l : LaneId) (addr : BitVec 7) (bytes : List Byte) (s : State) : Host.Outcome State Fault Refusal :=
  anyCmd l s fun s => s.targetRow l addr.toNat fun L => L.targetWrite addr.toNat bytes

/-- TARGET_READ (R392). A read transfer from the target returns bytes from the pointer. -/
def execTargetRead (l : LaneId) (addr : BitVec 7) (n : Nat) (s : State) : Host.Outcome State Fault Refusal :=
  anyCmd l s fun s => s.targetRow l addr.toNat fun L => L.targetRead addr.toNat n

/-- TWI_CONFIG_WRITE (R396). A write to a timing, address or window register while enabled is ignored and sets CFG_REJ. -/
def execTwiConfigWrite (l : LaneId) (reg : TwiCfgReg) (v : Word) (s : State) : Host.Outcome State Fault Refusal :=
  laneCmd l s fun s => s.regWrite l (twiCfgAddr reg) v

end Sys2Proof.Machine
end

