-- ==== Sys2Proof/Machine/Dispatch.lean ====
section
/-! DEFINITION. The effect of every command: one arm per row of spec/opcode_table.json. -/

namespace Sys2Proof.Machine

open Sys2Proof

/-- Run one command (the queue itself is the step's). -/
def exec (i : Instr) (s : State) : Host.Outcome State Fault Refusal :=
  match i with
  | .registerWrite l m addr v => Sys2Proof.Machine.execRegisterWrite l m addr v s
  | .coldPowerUp l => Sys2Proof.Machine.execColdPowerUp l s
  | .memoryInitDone b => Sys2Proof.Machine.execMemoryInitDone b s
  | .pllLock b => Sys2Proof.Machine.execPllLock b s
  | .pllLockTimeout l => Sys2Proof.Machine.execPllLockTimeout l s
  | .digestExchange l => Sys2Proof.Machine.execDigestExchange l s
  | .partnerReportTimeout l => Sys2Proof.Machine.execPartnerReportTimeout l s
  | .imageRepair l => Sys2Proof.Machine.execImageRepair l s
  | .journalPageWrite l fails => Sys2Proof.Machine.execJournalPageWrite l fails s
  | .snapshot l => Sys2Proof.Machine.execSnapshot l s
  | .patrol l => Sys2Proof.Machine.execPatrol l s
  | .scrubInterval l => Sys2Proof.Machine.execScrubInterval l s
  | .install l => Sys2Proof.Machine.execInstall l s
  | .installDone l fails => Sys2Proof.Machine.execInstallDone l fails s
  | .crankEdge l sec e => Sys2Proof.Machine.execCrankEdge l sec e s
  | .directionConfirmed l e => Sys2Proof.Machine.execDirectionConfirmed l e s
  | .camEdge l e => Sys2Proof.Machine.execCamEdge l e s
  | .virtualEdge l => Sys2Proof.Machine.execVirtualEdge l s
  | .holdSpanEnd l => Sys2Proof.Machine.execHoldSpanEnd l s
  | .stall l => Sys2Proof.Machine.execStall l s
  | .silent l sec => Sys2Proof.Machine.execSilent l sec s
  | .holdLimit l => Sys2Proof.Machine.execHoldLimit l s
  | .conflictLimit l => Sys2Proof.Machine.execConflictLimit l s
  | .camMiss l => Sys2Proof.Machine.execCamMiss l s
  | .camSilent l => Sys2Proof.Machine.execCamSilent l s
  | .odoEnable l v => Sys2Proof.Machine.execOdoEnable l v s
  | .odoDisable l v => Sys2Proof.Machine.execOdoDisable l v s
  | .resync l v => Sys2Proof.Machine.execResync l v s
  | .odoConfigWrite l reg v => Sys2Proof.Machine.execOdoConfigWrite l reg v s
  | .geoReset l v => Sys2Proof.Machine.execGeoReset l v s
  | .geometryWrite l astern j v => Sys2Proof.Machine.execGeometryWrite l astern j v s
  | .markEnable l g v => Sys2Proof.Machine.execMarkEnable l g v s
  | .microTick l => Sys2Proof.Machine.execMicroTick l s
  | .linkHeld l d => Sys2Proof.Machine.execLinkHeld l d s
  | .commit l w v => Sys2Proof.Machine.execCommit l w v s
  | .commitCancel l w v => Sys2Proof.Machine.execCommitCancel l w v s
  | .shadowWrite l w addr v => Sys2Proof.Machine.execShadowWrite l w addr v s
  | .routeRamWrite l w addr v => Sys2Proof.Machine.execRouteRamWrite l w addr v s
  | .schedEnable l v => Sys2Proof.Machine.execSchedEnable l v s
  | .schedDisable l v => Sys2Proof.Machine.execSchedDisable l v s
  | .swapDecision l => Sys2Proof.Machine.execSwapDecision l s
  | .swapDecisionTimeout l r => Sys2Proof.Machine.execSwapDecisionTimeout l r s
  | .start l d => Sys2Proof.Machine.execStart l d s
  | .startWaitEnd n => Sys2Proof.Machine.execStartWaitEnd n s
  | .offDrop n => Sys2Proof.Machine.execOffDrop n s
  | .quadDrop n => Sys2Proof.Machine.execQuadDrop n s
  | .endCmd l d => Sys2Proof.Machine.execEndCmd l d s
  | .stop l d => Sys2Proof.Machine.execStop l d s
  | .halt l d => Sys2Proof.Machine.execHalt l d s
  | .eventTimeEnd n => Sys2Proof.Machine.execEventTimeEnd n s
  | .maxDuration n => Sys2Proof.Machine.execMaxDuration n s
  | .phaseTimeEnd n => Sys2Proof.Machine.execPhaseTimeEnd n s
  | .currentSample n j iOdd => Sys2Proof.Machine.execCurrentSample n j iOdd s
  | .openPeak n => Sys2Proof.Machine.execOpenPeak n s
  | .decayStuck n => Sys2Proof.Machine.execDecayStuck n s
  | .boostAbort n => Sys2Proof.Machine.execBoostAbort n s
  | .hwTrip t => Sys2Proof.Machine.execHwTrip t s
  | .dieHot d temp power => Sys2Proof.Machine.execDieHot d temp power s
  | .dieFenced d temp power => Sys2Proof.Machine.execDieFenced d temp power s
  | .dieCool d temp power => Sys2Proof.Machine.execDieCool d temp power s
  | .offDiag q before node after => Sys2Proof.Machine.execOffDiag q before node after s
  | .profileSelect l n hi v => Sys2Proof.Machine.execProfileSelect l n hi v s
  | .pdist l v => Sys2Proof.Machine.execPdist l v s
  | .profileCopyArrival d => Sys2Proof.Machine.execProfileCopyArrival d s
  | .quadCtrlWrite l q v => Sys2Proof.Machine.execQuadCtrlWrite l q v s
  | .dieSettingWrite l d => Sys2Proof.Machine.execDieSettingWrite l d s
  | .channelEnable l n v => Sys2Proof.Machine.execChannelEnable l n v s
  | .channelDisable l n v => Sys2Proof.Machine.execChannelDisable l n v s
  | .clr l n v => Sys2Proof.Machine.execClr l n v s
  | .landingReport l => Sys2Proof.Machine.execLandingReport l s
  | .landingWindowClose n => Sys2Proof.Machine.execLandingWindowClose n s
  | .seed l n v => Sys2Proof.Machine.execSeed l n v s
  | .estimateWrite l n v => Sys2Proof.Machine.execEstimateWrite l n v s
  | .railMeasurement k v => Sys2Proof.Machine.execRailMeasurement k v s
  | .boostCycleStart k => Sys2Proof.Machine.execBoostCycleStart k s
  | .boostFetOff k byLimit => Sys2Proof.Machine.execBoostFetOff k byLimit s
  | .senseFault k => Sys2Proof.Machine.execSenseFault k s
  | .chgTimeout k => Sys2Proof.Machine.execChgTimeout k s
  | .boostEnable l k v => Sys2Proof.Machine.execBoostEnable l k v s
  | .boostDisable l k v => Sys2Proof.Machine.execBoostDisable l k v s
  | .setErr t => Sys2Proof.Machine.execSetErr t s
  | .dwell l d => Sys2Proof.Machine.execDwell l d s
  | .spark l d => Sys2Proof.Machine.execSpark l d s
  | .lateSpark g => Sys2Proof.Machine.execLateSpark g s
  | .restrikeGapEnd g => Sys2Proof.Machine.execRestrikeGapEnd g s
  | .restrikeDwellEnd g => Sys2Proof.Machine.execRestrikeDwellEnd g s
  | .overdwell g => Sys2Proof.Machine.execOverdwell g s
  | .softAbortEnd g => Sys2Proof.Machine.execSoftAbortEnd g s
  | .gateOpenCheck g igs => Sys2Proof.Machine.execGateOpenCheck g igs s
  | .gateShort g igs => Sys2Proof.Machine.execGateShort g igs s
  | .stuckOn g igs => Sys2Proof.Machine.execStuckOn g igs s
  | .chargeReport l => Sys2Proof.Machine.execChargeReport l s
  | .gateEnable l g v => Sys2Proof.Machine.execGateEnable l g v s
  | .gateDisable l g v => Sys2Proof.Machine.execGateDisable l g v s
  | .gateClear l g v => Sys2Proof.Machine.execGateClear l g v s
  | .mainOutput l a x overload => Sys2Proof.Machine.execMainOutput l a x overload s
  | .fastOutput l a x => Sys2Proof.Machine.execFastOutput l a x s
  | .scanConversionDone l m x overload => Sys2Proof.Machine.execScanConversionDone l m x overload s
  | .go l m v => Sys2Proof.Machine.execGo l m v s
  | .inj l m v => Sys2Proof.Machine.execInj l m v s
  | .cal l v => Sys2Proof.Machine.execCal l v s
  | .calibrationDone l u ofs gain => Sys2Proof.Machine.execCalibrationDone l u ofs gain s
  | .refillDone l a => Sys2Proof.Machine.execRefillDone l a s
  | .angleChannelEnable l a v => Sys2Proof.Machine.execAngleChannelEnable l a v s
  | .angleChannelDisable l a v => Sys2Proof.Machine.execAngleChannelDisable l a v s
  | .adcProtectedWrite l reg v => Sys2Proof.Machine.execAdcProtectedWrite l reg v s
  | .qrdWrite l m v => Sys2Proof.Machine.execQrdWrite l m v s
  | .summaryWritten l c => Sys2Proof.Machine.execSummaryWritten l c s
  | .guardVerdict l => Sys2Proof.Machine.execGuardVerdict l s
  | .guardVerdictTimeout l c => Sys2Proof.Machine.execGuardVerdictTimeout l c s
  | .cutClr l c v => Sys2Proof.Machine.execCutClr l c v s
  | .combustionConfigWrite l addr v => Sys2Proof.Machine.execCombustionConfigWrite l addr v s
  | .junctionDecision f0 f1 f2 => Sys2Proof.Machine.execJunctionDecision f0 f1 f2 s
  | .keepaliveLoss l => Sys2Proof.Machine.execKeepaliveLoss l s
  | .startEligibleTimeout l => Sys2Proof.Machine.execStartEligibleTimeout l s
  | .coastSafe => Sys2Proof.Machine.execCoastSafe s
  | .authorityChange d => Sys2Proof.Machine.execAuthorityChange d s
  | .heldCommandExpiry d => Sys2Proof.Machine.execHeldCommandExpiry d s
  | .speedWord l d => Sys2Proof.Machine.execSpeedWord l d s
  | .compareWindowExpiry d => Sys2Proof.Machine.execCompareWindowExpiry d s
  | .mismatchJudgementTimeout => Sys2Proof.Machine.execMismatchJudgementTimeout s
  | .comparisonOn => Sys2Proof.Machine.execComparisonOn s
  | .release l v => Sys2Proof.Machine.execRelease l v s
  | .handover l v => Sys2Proof.Machine.execHandover l v s
  | .heartbeat l => Sys2Proof.Machine.execHeartbeat l s
  | .heartbeatMissed l badCrc => Sys2Proof.Machine.execHeartbeatMissed l badCrc s
  | .heartbeatSend l => Sys2Proof.Machine.execHeartbeatSend l s
  | .retry l badCrc => Sys2Proof.Machine.execRetry l badCrc s
  | .forwardedWrite l => Sys2Proof.Machine.execForwardedWrite l s
  | .forwardAck l => Sys2Proof.Machine.execForwardAck l s
  | .remoteAccess l => Sys2Proof.Machine.execRemoteAccess l s
  | .remoteResponse l => Sys2Proof.Machine.execRemoteResponse l s
  | .rejoinDone l => Sys2Proof.Machine.execRejoinDone l s
  | .faultMessage l arrives => Sys2Proof.Machine.execFaultMessage l arrives s
  | .fltPendClear l v => Sys2Proof.Machine.execFltPendClear l v s
  | .safeEnterKey l v => Sys2Proof.Machine.execSafeEnterKey l v s
  | .safeExitKey l v => Sys2Proof.Machine.execSafeExitKey l v s
  | .bist l item pass => Sys2Proof.Machine.execBist l item pass s
  | .clockFaultRecord l pll => Sys2Proof.Machine.execClockFaultRecord l pll s
  | .mergeIdleFlush l => Sys2Proof.Machine.execMergeIdleFlush l s
  | .mergeFlush l v => Sys2Proof.Machine.execMergeFlush l v s
  | .remapWrite l w j v => Sys2Proof.Machine.execRemapWrite l w j v s
  | .eraseWrite l w v => Sys2Proof.Machine.execEraseWrite l w v s
  | .scrubGo l v => Sys2Proof.Machine.execScrubGo l v s
  | .scrubAbort l v => Sys2Proof.Machine.execScrubAbort l v s
  | .scrubWord l => Sys2Proof.Machine.execScrubWord l s
  | .nop p f => Sys2Proof.Machine.execNop p f s
  | .write p f => Sys2Proof.Machine.execWrite p f s
  | .read p f => Sys2Proof.Machine.execRead p f s
  | .fence p f => Sys2Proof.Machine.execFence p f s
  | .fenceComplete p tag => Sys2Proof.Machine.execFenceComplete p tag s
  | .readResp p f taken => Sys2Proof.Machine.execReadResp p f taken s
  | .doze p f => Sys2Proof.Machine.execDoze p f s
  | .stream p f => Sys2Proof.Machine.execStream p f s
  | .streamWaitComplete p q => Sys2Proof.Machine.execStreamWaitComplete p q s
  | .moderationTimeout p => Sys2Proof.Machine.execModerationTimeout p s
  | .portWake p => Sys2Proof.Machine.execPortWake p s
  | .portReady p => Sys2Proof.Machine.execPortReady p s
  | .hostWdog p => Sys2Proof.Machine.execHostWdog p s
  | .hostSilenceNotice l => Sys2Proof.Machine.execHostSilenceNotice l s
  | .watchdogEnable p v => Sys2Proof.Machine.execWatchdogEnable p v s
  | .sourceArrival l k => Sys2Proof.Machine.execSourceArrival l k s
  | .claim l t => Sys2Proof.Machine.execClaim l t s
  | .complete l t v => Sys2Proof.Machine.execComplete l t v s
  | .clrRec l t v => Sys2Proof.Machine.execClrRec l t v s
  | .modeWrite l k v => Sys2Proof.Machine.execModeWrite l k v s
  | .pendingClear l k v => Sys2Proof.Machine.execPendingClear l k v s
  | .maskWrite l t k v => Sys2Proof.Machine.execMaskWrite l t k v s
  | .swSet l v => Sys2Proof.Machine.execSwSet l v s
  | .swClr l v => Sys2Proof.Machine.execSwClr l v s
  | .remoteLine l => Sys2Proof.Machine.execRemoteLine l s
  | .dmaGo l c w v => Sys2Proof.Machine.execDmaGo l c w v s
  | .dmaStop l c v => Sys2Proof.Machine.execDmaStop l c v s
  | .descriptorFetch l c => Sys2Proof.Machine.execDescriptorFetch l c s
  | .dmaRequest l c => Sys2Proof.Machine.execDmaRequest l c s
  | .dmaBurst l c => Sys2Proof.Machine.execDmaBurst l c s
  | .dmaFlowResume l c => Sys2Proof.Machine.execDmaFlowResume l c s
  | .descriptorDone l c => Sys2Proof.Machine.execDescriptorDone l c s
  | .dmaTimeout l c addr => Sys2Proof.Machine.execDmaTimeout l c addr s
  | .dmaDescWrite l c v => Sys2Proof.Machine.execDmaDescWrite l c v s
  | .branch l e => Sys2Proof.Machine.execBranch l e s
  | .waitInstr l e => Sys2Proof.Machine.execWaitInstr l e s
  | .shift l e => Sys2Proof.Machine.execShift l e s
  | .move l e => Sys2Proof.Machine.execMove l e s
  | .count l e => Sys2Proof.Machine.execCount l e s
  | .time l e => Sys2Proof.Machine.execTime l e s
  | .markInstr l e => Sys2Proof.Machine.execMarkInstr l e s
  | .capture l e => Sys2Proof.Machine.execCapture l e s
  | .angle l e => Sys2Proof.Machine.execAngle l e s
  | .stallRelease l e => Sys2Proof.Machine.execStallRelease l e s
  | .bywayInject l e v => Sys2Proof.Machine.execBywayInject l e v s
  | .engineEnable l e v => Sys2Proof.Machine.execEngineEnable l e v s
  | .engineDisable l e v => Sys2Proof.Machine.execEngineDisable l e v s
  | .engineClr l e v => Sys2Proof.Machine.execEngineClr l e v s
  | .engineConfigWrite l e reg v => Sys2Proof.Machine.execEngineConfigWrite l e reg v s
  | .txqWrite l w e v => Sys2Proof.Machine.execTxqWrite l w e v s
  | .rxqRead l e => Sys2Proof.Machine.execRxqRead l e s
  | .imemWrite l e j v => Sys2Proof.Machine.execImemWrite l e j v s
  | .bywSync l v => Sys2Proof.Machine.execBywSync l v s
  | .flagSet l v => Sys2Proof.Machine.execFlagSet l v s
  | .flagClear l v => Sys2Proof.Machine.execFlagClear l v s
  | .pinWrite l dir v => Sys2Proof.Machine.execPinWrite l dir v s
  | .bywayPinEdge l p level held => Sys2Proof.Machine.execBywayPinEdge l p level held s
  | .twiGo l v => Sys2Proof.Machine.execTwiGo l v s
  | .twiCommandEnd l o => Sys2Proof.Machine.execTwiCommandEnd l o s
  | .twiRetry l => Sys2Proof.Machine.execTwiRetry l s
  | .ctlEn l v => Sys2Proof.Machine.execCtlEn l v s
  | .busStuck l sda => Sys2Proof.Machine.execBusStuck l sda s
  | .twiTimeout l => Sys2Proof.Machine.execTwiTimeout l s
  | .targetWrite l addr bytes => Sys2Proof.Machine.execTargetWrite l addr bytes s
  | .targetRead l addr n => Sys2Proof.Machine.execTargetRead l addr n s
  | .twiConfigWrite l reg v => Sys2Proof.Machine.execTwiConfigWrite l reg v s
  | .clock l dev => Sys2Proof.Machine.execClock l dev s
  | .pllUnlock l => Sys2Proof.Machine.execPllUnlock l s
  | .warmReset l rail => Sys2Proof.Machine.execWarmReset l rail s
  | .laneRestart l v => Sys2Proof.Machine.execLaneRestart l v s
  | .coreReset l v => Sys2Proof.Machine.execCoreReset l v s
  | .coreWdog l => Sys2Proof.Machine.execCoreWdog l s
  | .coreWdogKick l v => Sys2Proof.Machine.execCoreWdogKick l v s
  | .frstWrite l k v => Sys2Proof.Machine.execFrstWrite l k v s
  | .idleRequest l v => Sys2Proof.Machine.execIdleRequest l v s
  | .runRequest l v => Sys2Proof.Machine.execRunRequest l v s
  | .standbyRequest l v => Sys2Proof.Machine.execStandbyRequest l v s
  | .privilegedWake l j => Sys2Proof.Machine.execPrivilegedWake l j s
  | .wakeComplete l slept => Sys2Proof.Machine.execWakeComplete l slept s
  | .wakeTimer l => Sys2Proof.Machine.execWakeTimer l s
  | .supplyLoss l => Sys2Proof.Machine.execSupplyLoss l s
  | .driveSupplyLoss => Sys2Proof.Machine.execDriveSupplyLoss s
  | .supply l vsup => Sys2Proof.Machine.execSupply l vsup s
  | .laneTemp l temp => Sys2Proof.Machine.execLaneTemp l temp s
  | .monId l line => Sys2Proof.Machine.execMonId l line s
  | .monRd l addr n => Sys2Proof.Machine.execMonRd l addr n s
  | .monWr l addr v => Sys2Proof.Machine.execMonWr l addr v s
  | .monBaud l d line => Sys2Proof.Machine.execMonBaud l d line s
  | .monKey l k bytes => Sys2Proof.Machine.execMonKey l k bytes s
  | .monOpt l o => Sys2Proof.Machine.execMonOpt l o s
  | .monLock l => Sys2Proof.Machine.execMonLock l s
  | .monSeal l fuseOk => Sys2Proof.Machine.execMonSeal l fuseOk s
  | .monChal l => Sys2Proof.Machine.execMonChal l s
  | .monResp l r => Sys2Proof.Machine.execMonResp l r s
  | .monRestart l => Sys2Proof.Machine.execMonRestart l s
  | .challengeDelayEnd l => Sys2Proof.Machine.execChallengeDelayEnd l s
  | .nonceExpiry l => Sys2Proof.Machine.execNonceExpiry l s
  | .scanEnable l m v => Sys2Proof.Machine.execScanEnable l m v s
  | .keepaliveToggle l => Sys2Proof.Machine.execKeepaliveToggle l s
  | .rejoinCopy l => Sys2Proof.Machine.execRejoinCopy l s
  | .twiBusFree l => Sys2Proof.Machine.execTwiBusFree l s
  | .engineCycle l e => Sys2Proof.Machine.execEngineCycle l e s
  | .badReq p opcode f => Sys2Proof.Machine.execBadReq p opcode f s
  | .runRecord l => Sys2Proof.Machine.execRunRecord l s
  | .sensorSupplyShutdown x hot => Sys2Proof.Machine.execSensorSupplyShutdown x hot s
  | .sensorSupplyRetry x => Sys2Proof.Machine.execSensorSupplyRetry x s

end Sys2Proof.Machine
end

