-- ==== Sys2Proof/Machine/Tick.lean ====
section
/-! DEFINITION. Time: what one TCLK does when no command waits (01_architecture.md R19 to R21; log entry 1). -/

namespace Sys2Proof.Machine

/-- A register of the Odometer's block, whose event bits belong to one TCLK; those of other blocks belong to a PCLK of
four (R21). -/
def tclkReg (a : Nat) : Bool := a / 0x10000 == 0x1000

/-- The TCLK before module time `now` ends in a lane that counts: routes that have not taken their turn of it take it
(R100), the lag it leaves counts for ODO_LAG (R80), LANE_TIME rises, event bits are no longer new, reports of the TCLK before
count for the lead (R152), instruction words written have landed (R383), the byway rate generators advance and injected instructions execute each PCLK (R372, R382),
modes and masks written take effect and interrupt sources' unselected edges are tracked (R347, R352),
injected requests preempt and angle channels begin to calibrate at each MCLK edge (R206, R210), and a standby entry completes (R406). -/
def Lane.tick (L : Lane) (now : Nat) : Lane :=
  if !L.counts then L
  else
    let L := if L.on then (L.routesTurn (now - 1)).lagUpdate else L
    let t := L.time + 1
    let pclk := t % 4 == 0
    let L := { L with
      time := t, estOld := [], imemOld := if pclk then [] else L.imemOld, pinOwn := if pclk then [] else L.pinOwn
      flagWas := if pclk then 0 else L.flagWas, fresh := if pclk then [] else L.fresh.filter fun e => !tclkReg e.1 }
    let L := if pclk && L.on then (List.range 8).foldl Lane.bywInjTurn ((List.range 8).foldl Lane.bywRate L) else L
    let L := if pclk then L.icuLand else L
    let L := if pclk && L.on then L.srcTrack else L
    let L := if t % 80 == 0 && L.on then (List.range 24).foldl Lane.acEdge ((List.range 8).foldl Lane.scEdge L) else L
    L.entryDone now

/-- One TCLK of the module with no command waiting: time passes (log entry 1). What an Odometer in step with the engine
brings in it, the rest of the module sees as after a command. An end of COAST that waited for the cycle's commands is decided
first (R230), and a die whose safe-state word has no two equal copies acts (R266). -/
def State.tick (s : State) : State :=
  let s := s.coastDecide.splitDies
  let n := s.now + 1
  let t := { s with now := n, laneA := s.laneA.tick n, laneB := s.laneB.tick n }
  if s.laneA.odo.valid || s.laneB.odo.valid then t.settle else t

end Sys2Proof.Machine
end

