-- ==== Sys2Proof/Safety.lean ====
section
/-! DEFINITION. What counts as a sound state and as a safe run, in the terms that claims use. -/

namespace Sys2Proof.Machine

/-! ### Sound states -/

/-- The arrays of a lane are in canonical form: data bytes, check bytes and spare words (13_memory.md R273, R283). -/
def Memory.wf (m : Mem) : Bool := Cells.wf m.data && Cells.wf m.chk && Cells.wf m.spare

/-- Everything that a lane keeps as a sparse list is in canonical form: its registers, its arrays and the NAND page
buffer. -/
def Lane.wf (L : Lane) : Bool := RegFile.wf L.regs && Memory.wf L.mem && Cells.wf L.store.page

/-- Both lanes are in canonical form. -/
def State.wf (s : State) : Bool := s.laneA.wf && s.laneB.wf

/-- No two of a port's outstanding requests and queued responses bear the same tag (15_host_ports.md R327). -/
def Port.tagsDiffer (x : Port) : Prop := x.tags.Nodup

/-- Every port's outstanding tags differ (R327). -/
def State.tagsDiffer (s : State) : Prop := ∀ p : Fin 4, (s.port p.val).tagsDiffer

/-! ### What follows every command

After its own effect every command brings the own claim codes, the frames of the Crosswalk, the remote lines and the Junction's
samples up to date (State.settle). The blank of a state hides just the fields that this touches. -/

/-- A lane with its frames under way, its sent lines, its counts of comparison cycles, and the copies of triplicated item 2
hidden, of which only the lane's view stays. -/
def Lane.blank (L : Lane) : Lane :=
  { L with
    triples := vmod L.triples 2 fun _ => Triple.same (BitVec.ofNat 288 (votedCode L.view))
    tripleBad := putBit L.tripleBad 2 false
    xwk := { L.xwk with rx := [], tx := [], frameAt := 0 }
    icu := { L.icu with sent := 0 }
    sched := { L.sched with routes := L.sched.routes.map fun t => { t with cmpCycles := 0 } } }

/-- The Junction with its comparison and eligibility samples hidden. -/
def Junction.blank (j : Junction) : Junction :=
  { j with cmpOk := false, cmpOn := false, a := { j.a with eligAt := none }, b := { j.b with eligAt := none } }

/-- A state with all of these hidden. -/
def State.blank (s : State) : State := { s with laneA := s.laneA.blank, laneB := s.laneB.blank, jct := s.jct.blank }

/-! ### Frames

What a command leaves, for statements to name: each says which parts of the module may differ. -/

/-- The lane is fitted and its clocks run. -/
abbrev State.runs (s : State) (l : LaneId) : Prop := s.fitted l = true ∧ (s.lane l).on = true

/-- Lane M is lane L but for the registers listed, for event bits being new, and for reports and fault messages queued. -/
def Lane.reportsOnly (L M : Lane) (as : List Nat) : Prop :=
  (∀ a, a ∉ as → M.reg a = L.reg a)
    ∧ { M with regs := L.regs, fresh := L.fresh, fltQ := L.fltQ, fltHeld := L.fltHeld, landingQ := L.landingQ,
               chargeQ := L.chargeQ }.blank = L.blank

/-- A lane with the marks that a START_A of channel n is not over hidden (04_waypoints_routes.md R86). -/
def Lane.noOpen (n : Nat) (L : Lane) : Lane := L.routeUpd n fun t => { t with openA := [] }

/-- Lane M is lane L but for reports, and for that mark of channel n. -/
def Lane.reportsFor (n : Nat) (L M : Lane) (as : List Nat) : Prop :=
  (∀ a, a ∉ as → M.reg a = L.reg a)
    ∧ { M with regs := L.regs, fresh := L.fresh, fltQ := L.fltQ, fltHeld := L.fltHeld, landingQ := L.landingQ,
               chargeQ := L.chargeQ }.blank.noOpen n = L.blank.noOpen n

/-- State u is state s but for channel n, the blanking of current samples and the taken edges of mixed decays, and reports to
the lanes: their registers listed, event bits, landing reports, fault messages, and that channel n has no open START_A. -/
def State.channelFrame (s u : State) (n : Nat) (as : List Nat) : Prop :=
  (∀ m, m ≠ n → { u.chan m with blankTo := 0, mixSeen := false } = { s.chan m with blankTo := 0, mixSeen := false })
    ∧ (∀ l, Lane.reportsFor n (s.lane l) (u.lane l) as)
    ∧ { u.blank with chans := s.chans, laneA := s.blank.laneA, laneB := s.blank.laneB } = s.blank

/-- The registers of channel n that its events report to. -/
def channelRegs (n : Nat) : List Nat := [Reg.chnEvent n, Reg.chnLast n, Reg.chnCnt n, Reg.chnPeakt n, Reg.fltLost]

/-- A lane with its registers and the marks of new event bits hidden beside what settling touches. -/
def Lane.quiet (L : Lane) : Lane := { L.blank with regs := [], fresh := [] }

/-- A state with these hidden in both lanes. -/
def State.quiet (s : State) : State := { s.blank with laneA := s.laneA.quiet, laneB := s.laneB.quiet }

/-- State u is state s but for what `hide` hides, the registers listed of each lane, and marks of new event bits. -/
def State.keeps (s u : State) (hide : State → State) (as : LaneId → List Nat) : Prop :=
  (∀ l a, a ∉ as l → (u.lane l).reg a = (s.lane l).reg a) ∧ hide u.quiet = hide s.quiet

/-- The same registers in both lanes. -/
def inBoth (as : List Nat) : LaneId → List Nat := fun _ => as

/-- Registers of one lane. -/
def inLane (l : LaneId) (as : List Nat) : LaneId → List Nat := fun m => if m = l then as else []

/-- Nothing is hidden. -/
def hideNone (s : State) : State := s

/-- A part of lane l is hidden. -/
def hideIn (l : LaneId) (f : Lane → Lane) (s : State) : State := s.upd l f

/-- A part of both lanes is hidden. -/
def hideInBoth (f : Lane → Lane) (s : State) : State := { s with laneA := f s.laneA, laneB := f s.laneB }

/-- The fault messages queued in both lanes are hidden. -/
def hideFaults (s : State) : State := hideInBoth (fun L => { L with fltQ := [], fltHeld := [] }) s

/-- Gate g is hidden. -/
def hideGate (g : Nat) (s : State) : State := { s with gates := vmod s.gates g fun _ => {} }

/-- Rail k is hidden. -/
def hideRail (k : Nat) (s : State) : State := s.railUpd k fun _ => {}

/-- Channel n is hidden. -/
def hideChan (n : Nat) (s : State) : State := s.chanUpd n fun _ => {}

/-- The link queue of lane l to die d, and what the die keeps of commands, are hidden. -/
def hideLink (l : LaneId) (d : Nat) (s : State) : State :=
  (s.upd l fun L => { L with sched := { L.sched with links := vmod L.sched.links d fun _ => [] } }).dieUpd d fun x => { x with store := [] }

/-- The model's counter of free values is hidden (log entry 2). -/
def hideFree (s : State) : State := { s with freeCount := 0 }

/-- Times to which current samples are ignored are hidden in every channel, with the edges of mixed decays already taken: a
switching edge sets them across a quad. -/
def hideBlank (s : State) : State := { s with chans := s.chans.map fun c => { c with blankTo := 0, mixSeen := false } }

/-- The channels, gates and kept commands of die d are hidden. -/
def hideDie (d : Nat) (s : State) : State :=
  let s := (List.range 16).foldl (fun s i => hideChan (16 * d + i) s) s
  let s := (List.range 4).foldl (fun s i => hideGate (4 * d + i) s) s
  s.dieUpd d fun _ => {}

/-- Landing reports on their way are hidden. -/
def hideLandings (s : State) : State := hideInBoth (fun L => { L with landingQ := [] }) s

/-- That a channel of die d has an open START_A is hidden in both lanes (04_waypoints_routes.md R86). -/
def hideOpens (d : Nat) (s : State) : State :=
  (List.range 16).foldl (fun s i => hideInBoth (Lane.noOpen (16 * d + i)) s) s

/-- The copies of the triplicated items are hidden in both lanes: a read of one may mend it (13_memory.md R289). -/
def hideTriples (s : State) : State :=
  hideInBoth (fun L => { L with triples := Vector.replicate 4 ⟨0, 0, 0⟩, tripleBad := 0 }) s

/-- The registers that a read of a triplicated item reports in (R289). -/
def tripleRegs : List Nat := [Reg.memTriple, Reg.memEvent, Reg.fltLost]

/-- The arrays of lane l are hidden. -/
def hideMem (l : LaneId) (s : State) : State := hideIn l (fun L => { L with mem := {} }) s

/-- The registers of the memory controller, which a read of the arrays may change by what it corrects (13_memory.md R277,
R282, R285), and FLT_LOST. -/
def memRegs : List Nat := Reg.fltLost :: (List.range 256).map fun i => 0x100A0000 + 4 * i

/-- The registers that the events of any channel and gate of die d report to. -/
def dieRegs (d : Nat) : List Nat :=
  (List.range 16).flatMap (fun i => channelRegs (16 * d + i)) ++ (List.range 4).flatMap fun i => [Reg.ignEvent (4 * d + i), Reg.ignCnt (4 * d + i)]

/-- What a lane keeps of the Junction's vote, its routes, and its fault messages are hidden in both lanes, with the Junction
itself: what a new voted value may change (11_lanes_junction.md R232, R107, R267, R289). -/
def hideVote (s : State) : State :=
  hideInBoth (fun L => { L with triples := Vector.replicate 4 ⟨0, 0, 0⟩, tripleBad := 0, sched := {}, fltQ := [], fltHeld := [] })
    { s with jct := {} }

/-- The Junction's part of lane l is hidden. -/
def hideJl (l : LaneId) (s : State) : State := s.jlUpd l fun _ => {}

/-- Registers that a change of the voted value may report in. -/
def voteRegs : List Nat :=
  [Reg.jctEvent, Reg.jctCnt, Reg.fltSafe, Reg.fltLost, Reg.wptLastdrop, Reg.wptCnt, Reg.wptEvent]

/-- At least two of three voters are healthy. -/
abbrev twoHealthy (f0 f1 f2 : VoterFault) : Prop :=
  f0 = .healthy ∧ f1 = .healthy ∨ f0 = .healthy ∧ f2 = .healthy ∨ f1 = .healthy ∧ f2 = .healthy

/-- What the lanes keep of the Crosswalk is hidden. -/
def hideXwk (s : State) : State := hideInBoth (fun L => { L with xwk := {} }) s

/-- The states of the link and of the mirror are hidden. -/
def hideLinkState (s : State) : State := { s with link := .down, mirror := .solo }

/-- Host port p is hidden. -/
def hidePort (p : Nat) (s : State) : State := s.portUpd p fun _ => {}

/-- Lane l has taken the first frame that arrived for it; the sender's count of failures, and the time of the frame that is
unacknowledged, start anew (11_lanes_junction.md R244). -/
def State.took (s : State) (l : LaneId) : State :=
  (s.upd l fun L => { L with xwk := { L.xwk with rx := L.xwk.rx.tail } }).upd (otherLane l) fun L =>
    { L with xwk := { L.xwk with retries := 0, frameAt := s.now } }

/-- What a frame of the rejoin copy carries stands in lane l of u (11_lanes_junction.md R251): banks, detours and pending
commits; cuts; bytes of the arrays, as the writes that they are; or the RW fields of a range of registers, where no function
starts among them. -/
def State.copied (s u : State) (l : LaneId) : CopyFrame → Prop
  | .routes ah as_ ph ps d q => (u.lane l).sched.bankAh = ah ∧ (u.lane l).sched.bankAs = as_ ∧ (u.lane l).sched.pendAh = ph
      ∧ (u.lane l).sched.pendAs = ps ∧ (u.lane l).sched.det = d ∧ (u.lane l).sched.detReq = q
  | .cuts cs => (u.lane l).cuts = cs
  | .mem ws =>
    (u.lane l).mem = (ws.foldl (fun L w => if w.2.2 then L.poisonBytes w.1 w.2.1 0x31 else L.writeBytes w.1 w.2.1 0x31)
        (s.lane l)).mem
      ∧ (u.lane l).odo = (s.lane l).odo
  | .regs lo hi rs =>
    ((rs ++ (s.lane l).regs).all fun x => !(decide (lo ≤ x.1) && decide (x.1 < hi) && startsFunction x.1)) = true →
      ∀ a, (u.lane l).reg a = if lo ≤ a ∧ a < hi then
          ((s.lane l).reg a &&& ~~~(copyMask a)) ||| ((rs.lookup a).getD (regReset a) &&& copyMask a)
        else (s.lane l).reg a

/-- A frame of lane l can reach the other lane: the D variant, the link UP, and the other lane running. -/
abbrev State.reaches (s : State) (l : LaneId) : Prop := s.variantS = false ∧ s.link = .up ∧ (s.lane (otherLane l)).on = true

/-- The value of a register after a write of v (01_architecture.md R7, R21): RW bits take it, W1C bits clear where it has 1
unless they are new, W1S bits set; a LOCK register that was not yet written takes it in its LOCK bits. -/
def Lane.written (L : Lane) (a : Nat) (v : Word) : Word :=
  match regDesc a with
  | none => L.reg a
  | some d =>
    let m := if L.locked.contains a then d.rw else d.rw ||| d.lock
    ((L.reg a &&& ~~~m ||| v &&& m) &&& ~~~(v &&& d.w1c &&& ~~~(L.freshMask a))) ||| (v &&& d.w1s)

/-- Lane l runs and the function of register a is not held in reset (20_clocks_power.md R402). -/
abbrev State.takesWrite (s : State) (l : LaneId) (a : Nat) : Prop := s.runs l ∧ (s.lane l).held l a = false

/-- A command of lane l is at the front of the link to die d and due, VSUP is present, lane l has authority at the die, no change
of authority waits there, and no kept command of the other lane is its partner: the die executes it at once
(11_lanes_junction.md R233, R237, 22_electrical.md R426). -/
abbrev State.dieRuns (s : State) (l : LaneId) (d : Nat) (e : LinkEntry) : Prop :=
  s.fitted l = true ∧ s.vsupLow = false ∧ (vget (s.lane l).sched.links d []).head? = some e ∧ e.due ≤ s.now
    ∧ (s.die d).auth = votedOf l
    ∧ s.partner d l e.cmd = none ∧ ∀ x : Fin 12, x.val = d → Instr.authorityChange x ∉ s.pending

/-- Gate g sparks: IGg falls, and the restrikes of its spark set follow (08_ignition.md R177, R178). -/
def State.sparked (s u : State) (g : Nat) : Prop :=
  let x := s.gate g
  let rn := min (bits (s.sparkSet g x.set).2.2.2 20 3) 4
  u.gate g = x.becomes
      { x with drive := .low, heldTo := none, rsLeft := rn, rsAt := s.now, state := if 0 < rn then .restrike else .idle } s.now
    ∧ (∀ l, (s.lane l).on = true → (u.lane l).bit (Reg.ignEvent g) 0 = true
        ∧ (u.lane l).fld (Reg.ignLast g) 16 16 = min ((s.now - x.td) / 400) 0xFFFF
        ∧ (u.lane l).fld (Reg.ignCnt g) 16 16 = min ((s.lane l).fld (Reg.ignCnt g) 16 16 + 1) 0xFFFF)

/-- Event bit i of register a is set in every running lane. -/
def State.flagged (s u : State) (a i : Nat) : Prop := ∀ l, (s.lane l).on = true → (u.lane l).bit a i = true

/-- The Odometer of lane l, the conditioned crank edges that reach the other lane, and the fault messages queued in lane l are
hidden. -/
def hideOdo (l : LaneId) (s : State) : State :=
  hideIn (otherLane l) (fun L => L.odoUpd fun o => { o with secIn := [] })
    (hideIn l (fun L => { L with odo := {}, fltQ := [], fltHeld := [] }) s)

/-- The registers that the Odometer reports in. -/
def odoRegs : List Nat :=
  [Reg.odoEvent, Reg.odoEvent2, Reg.odoPeriod, Reg.odoPred, Reg.odoSpeed, Reg.odoSlope, Reg.odoLag, Reg.odoSynccnt, Reg.odoVrpeak,
   Reg.odoDirpw, Reg.odoGeostat, Reg.fltLost] ++ (List.range 1024).flatMap fun i => [Reg.odoGeoa i, Reg.odoGeob i]

/-- The result of the gap procedure of R35 for a tooth of a crank sensor with this stamp. -/
def Lane.edgeResult (L : Lane) (sec : Bool) (stamp : Nat) : EdgeResult :=
  let t := (L.odo.sensor sec).take stamp
  if t.edges < 3 then .tooth else (t.onEdge (L.fld Reg.odoGapratio 0 8) (L.fld Reg.odoGapratio 8 8) (L.fld Reg.odoGapratio 16 8)).1

/-- The result that R35 expects at revolution position p. -/
def expectedAt (p : Nat) : EdgeResult := if p = 0 then .candidate else if p = 1 then .gapFound else .tooth

/-- Nothing else of this TCLK comes before a condition of the Odometer of lane l: no write of ODO_CTRL that ends the search
waits, no condition was acted on, and no micro-tick waits for an edge (R42, 03_odometer_angle.md R70). -/
abbrev State.odoCalm (s : State) (l : LaneId) : Prop :=
  s.odoOff l = false ∧ (s.lane l).mayAct 5 = true ∧ (s.lane l).odo.owed ≠ some (s.lane l).time

/-- The micro-tick still to be taken in this TCLK where the angle word becomes invalid in it (04_waypoints_routes.md R108):
one, if one waits and is due. -/
def State.lastTicks (s : State) (l : LaneId) : Nat :=
  if ((s.lane l).odo.owed == some (s.lane l).time || s.pending.contains (.microTick l)) && (s.lane l).tickDue then 1 else 0

/-- The angle word after it. -/
def State.lastWord (s : State) (l : LaneId) : Nat :=
  if s.lastTicks l = 0 then (s.lane l).odo.word else ((s.lane l).odo.ang + 1) % (s.lane l).cycleLen

/-- Stamp and direction of the tooth of the active crank sensor that the transition closes (R29). -/
def Lane.toothSeen (L : Lane) (variantS : Bool) (e : EdgeIn) : Option (Nat × Bool) :=
  (L.toothOf variantS (L.active variantS) e).map fun x => (x.1, L.toothDir x.2)

/-- An accepted tooth of the active crank sensor, stamped `stamp`, in the confirmed direction, no contrary tooth before it
(R30, R35). -/
abbrev State.tracks (s : State) (l : LaneId) (e : EdgeIn) (stamp : Nat) : Prop :=
  s.runs l ∧ (s.lane l).odoEn = true ∧ (s.lane l).odo.contrary = [] ∧ (s.lane l).power.idle = false ∧ s.odoCalm l
    ∧ (s.lane l).toothSeen s.variantS e = some (stamp, (s.lane l).odo.dir)

/-- The scheduler of lane l, its arrays, its Crosswalk part and the fault messages queued in it are hidden. -/
def hideSched (l : LaneId) (s : State) : State :=
  hideIn l (fun L => { L with sched := {}, mem := {}, xwk := {}, fltQ := [], fltHeld := [] }) s

/-- The registers that the scheduler reports in, with those that its reads of the arrays may change. -/
def schedRegs : List Nat :=
  [Reg.wptEvent, Reg.wptLastdrop, Reg.wptLastlate, Reg.wptCnt, Reg.wptLinkq] ++ memRegs ++ (List.range 48).map Reg.ignEvent

/-- The merge buffer of lane l takes a write of n bytes at address a without flushing an older entry: it has room for the
two words that such a write can reach in part, or the bytes lie in one word that it holds or has room for (13_memory.md
R278). -/
abbrev State.mergeRoom (s : State) (l : LaneId) (a n : Nat) : Prop :=
  (s.lane l).mem.merge.length + 2 ≤ 8
    ∨ a / 16 = (a + n - 1) / 16
      ∧ ((s.lane l).mem.merge.length < 8 ∨ ((s.lane l).mem.merge.any fun e => e.addr == wordAddr a) = true)

/-- At most 64 bytes bs stand at address a of lane l's arrays in u, and every other byte is as in s where a write flushes no
older entry. -/
def State.wrote (s u : State) (l : LaneId) (a : Nat) (bs : List Byte) : Prop :=
  (∀ i : Fin 64, i.val < bs.length → (u.lane l).peekByte (a + i) = bs.getD i 0)
    ∧ (s.mergeRoom l a bs.length → ∀ b, b < a ∨ a + bs.length ≤ b → (u.lane l).peekByte b = (s.lane l).peekByte b)

/-- The bytes are written, and nothing but the arrays differs where the write flushes no older entry. -/
def State.stored (s u : State) (l : LaneId) (a : Nat) (bs : List Byte) : Prop :=
  s.wrote u l a bs ∧ (s.mergeRoom l a bs.length → s.keeps u (hideMem l) (inBoth []))

/-- The acquisition of lane l, its arrays, its cuts and the fault messages queued in it are hidden. -/
def hideAcq (l : LaneId) (s : State) : State :=
  hideIn l (fun L => { L with acq := {}, mem := {}, fltQ := [], fltHeld := [], cuts := Vector.replicate 240 0, cutWait := Vector.replicate 24 none }) s

/-- The registers that a frame of an angle channel and a DMA request of it report in. -/
def acRegs (a : Nat) : List Nat :=
  [Reg.acOut a, Reg.acLast a, Reg.acSeq a, Reg.acEvent a, Reg.acFast a, Reg.acCtime a, Reg.dmaReqovr]
    ++ (List.range 4).map Reg.dmaReqcnt ++ memRegs

/-- The registers that a scan modulator reports in. -/
def scRegs (m : Nat) : List Nat := [Reg.scLast m, Reg.scEvent m, Reg.scQwr m, Reg.scQrd m, Reg.adcEvent] ++ memRegs

/-- The registers that the collector writes for a message of class c (12_faults.md R259, R272). -/
def fltRegs (c : Nat) : List Nat :=
  [Reg.fltPend, Reg.fltCnt, Reg.fltLast, Reg.fltIrq, Reg.capW0 c, Reg.capW1 c, Reg.capInfo c, Reg.capTimel c, Reg.capTimeh c,
   Reg.capAngle c, Reg.capCycle c]

/-- No request of any host port is held back. -/
abbrev State.nothingHeld (s : State) : Prop := ∀ q : Fin 4, ((s.port q).reqs.any Req.isHeld) = false

/-- The drive side of the module and the ports are unchanged. -/
abbrev State.sameShared (s u : State) : Prop :=
  u.chans = s.chans ∧ u.quads = s.quads ∧ u.gates = s.gates ∧ u.rails = s.rails ∧ u.dies = s.dies ∧ u.ports = s.ports

/-- A frame of this opcode passes every check of port p, which is ready and no part of it held in reset: what R321 to R323,
R327 and R339 require (15_host_ports.md). -/
abbrev State.takesFrame (s : State) (p : Fin 4) (op : Byte) (f : Frame) : Prop :=
  s.runs (portLane p) ∧ (s.lane (portLane p)).held (portLane p) (Reg.hstStat p) = false ∧ (s.port p).awake s.now = true
    ∧ frameGood op f = true ∧ frameFields op f = true
    ∧ (usesTag op = true → (s.port p).tags.contains (frameTag f) = false)

/-- Port p after a frame with a valid CRC: its width is kept and its watchdog, where enabled, starts anew with the TIME of
HSTn_WDOG (15_host_ports.md R340). -/
def State.framedPort (s : State) (p : Nat) (f : Frame) : Port :=
  let x := { s.port p with quad := f.quad, wakeTo := none }
  if (s.lane (laneOfPort p)).bit (Reg.hstWdog p) 31 then
    { x with
      wdEnd := some (s.now + max 1 (min ((s.lane (laneOfPort p)).fld (Reg.hstWdog p) 0 14) 10000) * 400000)
      wdLeft := none, expired := false }
  else x

/-- The state after a frame with a valid CRC, which HSTn_CNT counts, before its opcode acts (15_host_ports.md R340, R345). -/
def State.framed (s : State) (p : Nat) (f : Frame) : State :=
  (s.portUpd p fun _ => s.framedPort p f).upd (laneOfPort p) fun L => L.count (Reg.hstCnt p) 16 16

/-- A response that has not been delivered. -/
abbrev answer (tag status : Nat) (data : List Byte) (info : BitVec 32) : Resp := { tag, status, data, info }

/-- Response r enters the response queue of port p, the last in the order of completion, no other tag's request ends, and
RESP_SIG is set where TIME is 0 or the entries not yet signalled reach COUNT; until it is set the moderation timer runs; in
STANDBY that timer counts as expired (15_host_ports.md R328, R336, R338). -/
def State.answered (s u : State) (p : Nat) (r : Resp) : Prop :=
  let x := s.port p
  let time := if (s.lane (laneOfPort p)).run = .standby then 0 else s.modTime p
  let y := u.port p
  y.queue = x.queue ++ [{ r with num := x.queue.foldl (fun n e => max n (e.num + 1)) 0 }] ∧ y.reqs.map Req.tag = (x.reqs.map Req.tag).filter (· != r.tag)
    ∧ y.respSig = (x.respSig || decide (time = 0 ∨ s.modCount p ≤ x.unsig + 1))
    ∧ (x.respSig = false → time ≠ 0 → y.modEnd = some (x.modEnd.getD (s.now + time)))

/-- What an instruction of a byway engine leaves where it completes: the lane, and the PC that it wrote or branched to
(18_byways.md R374, R375). -/
def BywRes.completes : BywRes → Option (Lane × Option Nat)
  | .done L pc => some (L, pc)
  | _ => none

/-- An engine cycle of engine e of lane l is due, and it fetches an instruction with this OP (18_byways.md R375). -/
abbrev State.fetches (s : State) (l : LaneId) (e op : Nat) : Prop :=
  s.runs l ∧ (s.lane l).bywReady e = true ∧ ((s.lane l).eng e).stalled = false ∧ ((s.lane l).eng e).idle = 0
    ∧ opOf ((s.lane l).fetchImem e) = op

/-! ### Runs -/

/-- The state after n steps, none where a step stops. -/
def State.after : Nat → State → Option State
  | 0, s => some s
  | n + 1, s =>
    match step s with
    | .next t => t.after n
    | _ => none

/-- A run of n steps is safe: no step of it stops. -/
def State.safeFor (s : State) (n : Nat) : Prop := (s.after n).isSome

/-- Every waiting command finds the lane die that it needs: on the S variant, which has no Lane B, none names Lane B or
one of its host ports (00_scope.md R1). -/
def State.queueFits (s : State) : Prop := ∀ c ∈ s.pending, ∀ l, c.needsLane = some l → s.fitted l = true

end Sys2Proof.Machine
end

