-- ==== Sys2Proof/Certificates/Slice0/Obligations.lean ====
section
/-! DEFINITION. The statements about the module, for the provers: what every command of the table does, file by file of the
spec, with what it leaves unchanged. -/

open Sys2Proof Sys2Proof.Machine

/-- For every command c and state s, the step of s with c put at the front of its queue is the effect of c on s, whose
queue is then the rest. The queue is the model's (log entry 1). -/
def Obligations.FrontCommandRuns : Prop :=
  ∀ (c : Instr) (s : State), step { s with pending := c :: s.pending } = exec c s

/-- On an empty queue a step answers the state one TCLK later: module time rises by one; LANE_TIME of a lane whose clocks
run rises by one and its Odometer stays; with an invalid angle word its registers, scheduler, arrays and queues stay
too; with a valid one every route that has not taken its turn of the TCLK takes it, and ODO_LAG.MAX takes a larger
lag. Channels, quads, gates, rails, supplies and ports stay; with no valid angle word a lane that is off or stopped
does not change, and no shared part does. The clauses on what stays, and on routes, are of a TCLK in which no end of
COAST is still to be decided (R230) and no die's safe-state word has lost its majority (R266), which come first; those
on a lane's registers and queues, of one in which no injected instruction and no calibration of an angle channel waits
for its clock edge (R382, R210). That a step on an empty queue is one TCLK is the model's choice (log entry 1). -/
def Obligations.EmptyQueuePassesTime : Prop :=
  ∀ s : State, s.pending = [] →
    let clear := s.jct.coastOwed = false ∧ ∀ d : Fin 12, (s.die d).split = false
    let calm := clear ∧ s.laneA.odo.valid = false ∧ s.laneB.odo.valid = false
    let still := fun (L : Lane) => (∀ e : Fin 8, (L.eng e).inj = none) ∧ ∀ a : Fin 24, (L.ac a).calDue = false
    ∃ t, step s = .next t ∧ t.now = s.now + 1 ∧ t.pending = [] ∧ t.jct.coastOwed = false
      ∧ (∀ l, (s.lane l).on = true → (t.lane l).time = (s.lane l).time + 1
          ∧ (t.lane l).odo = (s.lane l).odo ∧ (t.lane l).ready = (s.lane l).ready
          ∧ (calm → still (s.lane l) → (t.lane l).regs = (s.lane l).regs ∧ (t.lane l).sched = (s.lane l).sched
              ∧ (t.lane l).mem = (s.lane l).mem ∧ (t.lane l).fltQ = (s.lane l).fltQ)
          ∧ (clear → still (s.lane l) → (s.lane l).odo.valid = true →
              (t.lane l).mem = ((s.lane l).routesTurn s.now).mem
                ∧ (t.lane l).sched.links = ((s.lane l).routesTurn s.now).sched.links
                ∧ (t.lane l).fld Reg.odoLag 16 16 =
                    max ((s.lane l).fld Reg.odoLag 16 16) (min ((s.lane l).target (s.lane l).time - (s.lane l).odo.ang) 0xFFFF)))
      ∧ (calm → ∀ l, (s.lane l).run = .off ∨ (s.lane l).run = .init ∨ (s.lane l).run = .stopped → t.lane l = s.lane l)
      ∧ (clear → t.chans = s.chans ∧ t.gates = s.gates ∧ t.rails = s.rails)
      ∧ t.quads = s.quads ∧ t.sups = s.sups ∧ t.ports = s.ports
      ∧ (calm → t.dies = s.dies ∧ t.jct = s.jct ∧ t.link = s.link ∧ t.mirror = s.mirror)

/-- Every command answers a next state wherever the lane die it needs is fitted (a command of a shared part always does),
and stops with the named fault wherever it is not: on the S variant, which has Lane A only (R1), the commands of Lane
B and of host ports H2 and H3. No command is refused. -/
def Obligations.CommandStopsJustWithoutItsLane : Prop :=
  ∀ (c : Instr) (s : State),
    ((∀ l, c.needsLane = some l → s.fitted l = true) → ∃ t, exec c s = .next t)
      ∧ (∀ l, c.needsLane = some l → s.fitted l = false → exec c s = .fault .laneNotFitted)

/-- For every command and state, where the command answers a next state, the commands that wait are the same and in the
same order, and the module is of the same variant: which lane dies are fitted is a matter of manufacture (R1) that no
command changes. -/
def Obligations.CommandsKeepQueueAndVariant : Prop :=
  ∀ (c : Instr) (s t : State), exec c s = .next t → t.pending = s.pending ∧ t.variantS = s.variantS

/-- From every state whose waiting commands need only lane dies that the variant has, a run of any length reaches no stop:
each command completes, and after the last the module idles. -/
def Obligations.FittingQueueNeverStops : Prop :=
  ∀ (s : State) (n : Nat), s.queueFits → s.safeFor n

/-- For every state in which, at each port, the requests without a completion and the queued responses bear pairwise
different tags, every step that answers a next state leaves it so. A tag is in flight from the check of its request
until its response is released (R327). -/
def Obligations.PortTagsStayDistinct : Prop :=
  ∀ s t : State, s.tagsDiffer → step s = .next t → t.tagsDiffer

/-- The state after reset has both lanes off and not READY, their registers at reset, their arrays clear, their monitors
OPEN, every route of both idle, no command waiting, no request at any port, no authority voted, the Crosswalk DOWN and
the mirror SOLO; its register files and arrays are in canonical form and its ports' tags differ. That the variant at
reset is D is the model's choice (log entry 6), and that VSUP is not absent there (log entry 111). -/
def Obligations.ResetModuleIsOffAndSound : Prop :=
  State.reset.wf = true ∧ State.reset.tagsDiffer ∧ State.reset.pending = [] ∧ State.reset.laneA.run = .off
    ∧ State.reset.laneB.run = .off ∧ State.reset.jct.voted = .none ∧ State.reset.jct.state = .start
    ∧ State.reset.link = .down ∧ State.reset.mirror = .solo ∧ (∀ p : Fin 4, State.reset.port p = {})
    ∧ (∀ l, (State.reset.lane l).ready = false ∧ (∀ a, (State.reset.lane l).reg a = regReset a)
        ∧ (∀ r : Fin 240, ((State.reset.lane l).route r).phase = .idle) ∧ (State.reset.lane l).mem = {} ∧ (State.reset.lane l).mon.lock = .opened)
    ∧ State.reset.variantS = false ∧ State.reset.vsupLow = false

/-- Where a command needs the clocks of a lane that is fitted and does not run, it answers the state as it was: nothing in
the module changes. That such commands have no effect is the model's reading (log entry 74). -/
def Obligations.StoppedLaneIgnoresItsCommands : Prop :=
  ∀ (c : Instr) (l : LaneId) (s : State), c.needsClocks = some l → s.fitted l = true → (s.lane l).on = false → exec c s = .next s

/-- For every state in which the register file, the data, check and spare bytes of the arrays and the NAND page buffer of
both lanes are in canonical form (addresses strictly rising, no entry equal to what an unlisted address reads as),
every step that answers a next state leaves them so, whichever command is at the front of the queue and also where
time passes: equal registers and equal arrays are equal data. That registers and arrays are kept as sparse lists is
the model's choice. -/
def Obligations.CanonicalFormsStay : Prop :=
  ∀ s t : State, s.wf = true → step s = .next t → t.wf = true

/-- EVENT_TIME_END at or after the end time of a time-ended event, MAX_DURATION at or after the maximum duration of an
angle-ended event for which no END waits, and PHASE_TIME_END at the elapsed TIME of a phase that is followed by an END
entry each complete: the event is over, the channel is in DECAY from now on, and goes to IDLE after it; after
MAX_DURATION the decay is fast throughout. Every running lane sees the ended flag, and its scheduler no longer holds
the START_A of that event open. No other channel, gate, rail, die, port or lane register changes but the channel's own
reports. -/
def Obligations.TimedEndsBeginDecay : Prop :=
  ∀ (s : State) (n : Fin 192) (e : Event) (t : Nat), (s.chan n).ev = some e →
    (∀ c : Instr, (c = .eventTimeEnd n ∧ e.stop = some t ∧ e.angle = false ∧ t ≤ s.now
          ∨ c = .maxDuration n ∧ e.stop = some t ∧ e.angle = true ∧ t ≤ s.now
              ∧ (∀ i ∈ s.pending, ∀ l x, i ≠ .endCmd l x)
          ∨ c = .phaseTimeEnd n ∧ e.blocked = none ∧ phExit (profPhase e.prof e.phase) = 0
              ∧ e.phaseAt + phTime (profPhase e.prof e.phase) ≤ s.now ∧ s.selectChop (n / 4) = false
              ∧ phKind (profPhase e.prof (e.phase + 1)) = 0) →
      ∃ u, exec c s = .next u ∧ (u.chan n).state = .decay ∧ (u.chan n).ev = none ∧ (u.chan n).decayAt = s.now
        ∧ (u.chan n).prevEnd = some s.now ∧ (u.chan n).afterDecay = .idle ∧ (c = .maxDuration n → (u.chan n).decayFast = true)
        ∧ (∀ l, (s.lane l).on = true → (u.lane l).bit (Reg.chnEvent n) 1 = true
            ∧ (((s.lane l).route n).rcn.toNat % 32 = (s.chan n).cyc % 32 → (s.chan n).idx ∉ ((u.lane l).route n).openA))
        ∧ s.channelFrame u n (channelRegs n))

/-- OPEN: T_MAX has elapsed before the peak current and no current sample waits. The event ends with fast decay and OPEN
flagged; at OPEN_LIM consecutive ones the channel is in FAULT after the decay, else in IDLE. DECAY_STUCK: 500 µs of
decay, the end of the last event's current, also while a start waits for it, with no sample below 0.25 A waiting. The
channel is in FAULT and flagged, and a waiting start is gone. BOOST_ABORT: a later boost-using phase was blocked for
MAX_DEFER. The event ends with fast decay and BOOST_ABORT flagged. Nothing else changes but the channel's reports. -/
def Obligations.PeakAndDecayTimeouts : Prop :=
  ∀ (s : State) (n : Fin 192), (∀ i ∈ s.pending, ∀ m x y, i ≠ .currentSample m x y) →
    (∀ e, (s.chan n).ev = some e → ∀ h, peakLevel e.prof = some h → ((s.chan n).peakWin e).2 ≠ 0 →
        e.peaked = false → e.start + ((s.chan n).peakWin e).2 * 40 ≤ s.now →
      ∃ u, exec (.openPeak n) s = .next u ∧ (u.chan n).state = .decay ∧ (u.chan n).ev = none ∧ (u.chan n).decayFast = true
        ∧ (u.chan n).openRun = (s.chan n).openRun + 1
        ∧ (u.chan n).afterDecay = (if max (bits (s.chan n).ctrl 2 3) 1 ≤ (s.chan n).openRun + 1 then .fault else .idle)
        ∧ (∀ l, (s.lane l).on = true → (u.lane l).bit (Reg.chnEvent n) 10 = true) ∧ s.channelFrame u n (channelRegs n))
    ∧ ((s.chan n).decaying = true → (s.chan n).decayAt + 200000 ≤ s.now →
      ∃ u, exec (.decayStuck n) s = .next u ∧ (u.chan n).state = .fault ∧ (u.chan n).wait = none
        ∧ (∀ l, (s.lane l).on = true → (u.lane l).bit (Reg.chnEvent n) 15 = true) ∧ s.channelFrame u n (channelRegs n))
    ∧ (∀ e, (s.chan n).ev = some e → ∀ t, e.blocked = some t → s.boostBusy n = true →
        t + s.maxDefer (n / 4) ≤ s.now →
      ∃ u, exec (.boostAbort n) s = .next u ∧ (u.chan n).state = .decay ∧ (u.chan n).ev = none ∧ (u.chan n).decayFast = true
        ∧ (u.chan n).afterDecay = .idle
        ∧ (∀ l, (s.lane l).on = true → (u.lane l).bit (Reg.chnEvent n) 3 = true) ∧ s.channelFrame u n (channelRegs n))

/-- START_WAIT_END at or after the earliest time of a waiting start, the current of the last event gone, a lane in
authority at the die, its slot copy valid, the quad free and the duty limit not reached: the event begins, the start
waits no longer, the channel is in RUN (or in DECAY at once if the profile is empty) and shows the command's slot,
cycle and index. OFF_DROP more than DEFER_LIM after the arrival of a start that the decay still holds: the start is
dropped with OFF_DROP flagged and cause OFF_DROP. QUAD_DROP once a start has been blocked at its quad for MAX_DEFER:
the start is dropped with QUAD_DROP flagged. -/
def Obligations.WaitingStartsStartOrDrop : Prop :=
  ∀ (s : State) (n : Fin 192) (w : WaitStart), (s.chan n).wait = some w →
    (∀ prof, vget (s.chan n).slots w.cmd.slot none = some prof → w.earliest ≤ s.now → (s.chan n).decaying = false →
        (votedLane (s.die (n / 16)).auth).isSome = true →
        s.quadBlock n (phBoost (profPhase prof 0)) w.quadSince = none →
        s.dutyFull n = false →
      ∃ u, exec (.startWaitEnd n) s = .next u ∧ (u.chan n).wait = none
        ∧ (u.chan n).state = (if phKind (profPhase prof 0) = 0 then .decay else .run)
        ∧ (u.chan n).slot = w.cmd.slot ∧ (u.chan n).cyc = w.cmd.cyc ∧ (u.chan n).idx = w.cmd.idx ∧ (u.chan n).lane = w.lane
        ∧ (phKind (profPhase prof 0) ≠ 0 → ∃ e, (u.chan n).ev = some e ∧ e.prof = prof ∧ e.start = s.now ∧ e.phase = 0
            ∧ e.angle = (w.cmd.kind == .startA))
        ∧ (∀ l, (s.lane l).on = true → (u.lane l).bit (Reg.chnEvent n) 0 = true)
        ∧ s.channelFrame u n (channelRegs n ++ [Reg.bstMin (n / 48), Reg.bstEvent (n / 48)]))
    ∧ ((s.chan n).decaying = true → w.quadSince = none → bits (s.chan n).offtime 16 16 * 400 < s.now - w.arrived →
      ∃ u, exec (.offDrop n) s = .next u ∧ (u.chan n).wait = none
        ∧ (u.chan n).state = (if (s.chan n).state = .wait then .decay else (s.chan n).state)
        ∧ (∀ l, (s.lane l).on = true → (u.lane l).bit (Reg.chnEvent n) 7 = true ∧ (u.lane l).fld (Reg.chnLast n) 12 4 = 3)
        ∧ s.channelFrame u n (channelRegs n))
    ∧ (∀ t, w.quadSince = some t → ∀ p, vget (s.chan n).slots w.cmd.slot none = some p →
        (s.quadBlock n (phBoost (profPhase p 0)) (some t)).isSome = true → t + s.maxDefer (n / 4) ≤ s.now →
      ∃ u, exec (.quadDrop n) s = .next u ∧ (u.chan n).wait = none ∧ (u.chan n).state ≠ .wait
        ∧ (∀ l, (s.lane l).on = true → (u.lane l).bit (Reg.chnEvent n) 8 = true ∧ (u.lane l).fld (Reg.chnLast n) 12 4 = 4)
        ∧ s.channelFrame u n (channelRegs n ++ [Reg.quadConf (n / 4)]))

/-- The command at the front of a link, due, from the lane in authority at the die. DWELL at an idle gate, not in current
mode with I_TGT 0: the gate is in DWELL with IGg high from now on, with the command's spark set, cycle and index, and
its sense voltage, which no command reports (log entry 96), is at most an I_TGT other than 0. SPARK at a gate in DWELL
once FLOOR has passed: the gate sparks (DONE flagged, dwell time recorded, count raised) and goes to IDLE or RESTRIKE.
SPARK before FLOOR has passed: the spark is held to the end of FLOOR and LATE flagged. No other gate, no channel, rail
or port changes. -/
def Obligations.DwellAndSparkCommands : Prop :=
  ∀ (s : State) (l : LaneId) (d : Fin 12) (e : LinkEntry), s.dieRuns l d e →
    (e.cmd.kind = .dwell → (s.gate (4 * d + e.cmd.ch % 4)).state = .idle →
        ((s.sparkSet (4 * d + e.cmd.ch % 4) e.cmd.slot).1.getLsbD 31 = true → setTgt (s.sparkSet (4 * d + e.cmd.ch % 4) e.cmd.slot) ≠ 0) →
      ∃ u, exec (.dwell l ⟨d, false⟩) s = .next u
        ∧ u.gate (4 * d + e.cmd.ch % 4) = { s.gate (4 * d + e.cmd.ch % 4) with
            state := .dwell, drive := .high, td := s.now, heldTo := none, charged := none, openDone := false, peak := 0
            lane := l, set := e.cmd.slot, cyc := e.cmd.cyc, idx := e.cmd.idx
            igs := (u.gate (4 * d + e.cmd.ch % 4)).igs, igsAt := some s.now }
        ∧ (setTgt (s.sparkSet (4 * d + e.cmd.ch % 4) e.cmd.slot) ≠ 0 →
            (u.gate (4 * d + e.cmd.ch % 4)).igs.toNat ≤ setTgt (s.sparkSet (4 * d + e.cmd.ch % 4) e.cmd.slot))
        ∧ (vget (u.lane l).sched.links d []) = (vget (s.lane l).sched.links d []).tail
        ∧ s.keeps u (hideGate (4 * d + e.cmd.ch % 4) ∘ hideLink l d) (inBoth []))
    ∧ (e.cmd.kind = .spark → (s.gate (4 * d + e.cmd.ch % 4)).state = .dwell → (s.gate (4 * d + e.cmd.ch % 4)).heldTo = none →
        s.shortSoon (4 * d + e.cmd.ch % 4) = false →
      let g := 4 * d + e.cmd.ch % 4
      let floor := (s.gate g).td + setFloor (s.sparkSet g (s.gate g).set)
      (floor ≤ s.now → ∃ u, exec (.spark l ⟨d, false⟩) s = .next u ∧ s.sparked u g
        ∧ s.keeps u (hideGate g ∘ hideLink l d ∘ hideFree ∘ hideInBoth fun L => { L with chargeQ := [] })
            (inBoth [Reg.ignEvent g, Reg.ignLast g, Reg.ignCnt g]))
      ∧ (s.now < floor → ∃ u, exec (.spark l ⟨d, false⟩) s = .next u ∧ u.gate g = { s.gate g with heldTo := some floor }
        ∧ s.flagged u (Reg.ignEvent g) 3
        ∧ s.keeps u (hideGate g ∘ hideLink l d) (inBoth [Reg.ignEvent g, Reg.ignLate g])))

/-- LATE_SPARK once the dwell floor of a held spark is reached: the gate sparks. RESTRIKE_GAP_END once RS_GAP has passed:
IGg is high again. RESTRIKE_DWELL_END once RS_DW has passed: IGg falls with one further spark, one restrike fewer is
to come, and with the last the gate is in IDLE. No other gate and no other part changes but the reports of the spark. -/
def Obligations.HeldSparkAndRestrikes : Prop :=
  ∀ (s : State) (g : Fin 48),
    (∀ t, (s.gate g).heldTo = some t → (s.gate g).state = .dwell → t ≤ s.now →
      ∃ u, exec (.lateSpark g) s = .next u ∧ s.sparked u g
        ∧ s.keeps u (hideGate g ∘ hideFree ∘ hideInBoth fun L => { L with chargeQ := [] })
            (inBoth [Reg.ignEvent g, Reg.ignLast g, Reg.ignCnt g]))
    ∧ ((s.gate g).state = .restrike → (s.gate g).on = false →
        (s.gate g).rsAt + bits (s.sparkSet g (s.gate g).set).2.2.2 10 10 * 400 ≤ s.now →
      ∃ u, exec (.restrikeGapEnd g) s = .next u ∧ u.gate g = { s.gate g with drive := .high, rsAt := s.now }
        ∧ s.keeps u (hideGate g) (inBoth []))
    ∧ ((s.gate g).state = .restrike → (s.gate g).on = true →
        (s.gate g).rsAt + bits (s.sparkSet g (s.gate g).set).2.2.2 0 10 * 400 ≤ s.now →
      ∃ u, exec (.restrikeDwellEnd g) s = .next u
        ∧ u.gate g = { s.gate g with
            drive := .low, rsAt := s.now, rsLeft := (s.gate g).rsLeft - 1, leakAt := s.now
            state := if (s.gate g).rsLeft ≤ 1 then .idle else .restrike }
        ∧ s.keeps u (hideGate g) (inBoth []))

/-- OVERDWELL with DW_MAX passed and no SPARK waiting: the dwell is soft-aborted (IGg ramped down, then IDLE), SOFT and
OVERDWELL flagged. SOFT_ABORT_END 2 ms after the ramp began: the gate is in FAULT where that was recorded for it, else
IDLE, or OFF with EN 0, IGg low. GATE_OPEN_CHECK with the check enabled, not yet run, CHK_T passed and the current
below I_MINCHK: the gate is IDLE, IGg low, OPEN flagged. GATE_SHORT in DWELL or RESTRIKE with the current at I_TRIP or
above: the gate is soft-aborted into FAULT, SHORT flagged; in SOFT the ramp goes on and ends in FAULT. STUCK_ON of a
gate with IGg low and the current above I_LEAK for 10 µs, in any state: FAULT, STUCK flagged. No other gate and no
other part changes but reports. Which states SHORT and STUCK_ON are judged in, and a sense voltage between samples,
are the model's (log entries 79 and 96). -/
def Obligations.GateProtections : Prop :=
  ∀ (s : State) (g : Fin 48) (igs : BitVec 10),
    ((s.gate g).state = .dwell → (s.gate g).heldTo = none → (∀ l x, Instr.spark l x ∉ s.pending) →
        (s.gate g).td + setMax (s.sparkSet g (s.gate g).set) ≤ s.now →
      ∃ u, exec (.overdwell g) s = .next u
        ∧ u.gate g = { s.gate g with state := .soft, drive := .ramp, softAt := s.now, softI0 := (s.gateSense g).toNat,
                                     afterSoft := .idle, rsLeft := 0 }
        ∧ s.flagged u (Reg.ignEvent g) 4 ∧ s.flagged u (Reg.ignEvent g) 5
        ∧ s.keeps u (hideGate g ∘ hideFaults) (inBoth [Reg.ignEvent g, Reg.ignCnt g, Reg.fltLost]))
    ∧ ((s.gate g).state = .soft → (s.gate g).softAt + 800000 ≤ s.now →
      ∃ u, exec (.softAbortEnd g) s = .next u ∧ u.gate g = (s.gate g).becomes { s.gate g with
          state := if (s.gate g).afterSoft = .fault then .fault else if (s.gate g).ctrl.getLsbD 0 then .idle else .off
          drive := .low, igs := 0 } s.now
        ∧ s.keeps u (hideGate g) (inBoth []))
    ∧ ((s.gate g).state = .dwell → (s.gate g).ctrl.getLsbD 6 = true → (s.gate g).openDone = false →
        (s.gate g).td + bits (s.sparkSet g (s.gate g).set).2.2.1 0 12 * 400 ≤ s.now →
        igs.toNat < bits (s.sparkSet g (s.gate g).set).2.2.1 12 10 →
      ∃ u, exec (.gateOpenCheck g igs) s = .next u ∧ (u.gate g).state = .idle ∧ (u.gate g).drive = .low
        ∧ (u.gate g).openDone = true ∧ (u.gate g).igs = igs ∧ s.flagged u (Reg.ignEvent g) 6
        ∧ s.keeps u (hideGate g ∘ hideFaults) (inBoth [Reg.ignEvent g, Reg.fltLost]))
    ∧ ((s.gate g).state = .dwell ∨ (s.gate g).state = .restrike → bits (s.sparkSet g (s.gate g).set).2.2.1 22 10 ≤ igs.toNat →
      ∃ u, exec (.gateShort g igs) s = .next u ∧ (u.gate g).state = .soft ∧ (u.gate g).drive = .ramp
        ∧ (u.gate g).softAt = s.now ∧ (u.gate g).afterSoft = .fault ∧ (u.gate g).igs = igs ∧ s.flagged u (Reg.ignEvent g) 7
        ∧ s.keeps u (hideGate g ∘ hideFaults) (inBoth [Reg.ignEvent g, Reg.ignCnt g, Reg.fltLost]))
    ∧ ((s.gate g).state = .soft → (s.gate g).afterSoft ≠ .fault → bits (s.sparkSet g (s.gate g).set).2.2.1 22 10 ≤ igs.toNat →
      ∃ u, exec (.gateShort g igs) s = .next u ∧ (u.gate g).state = .soft ∧ (u.gate g).drive = (s.gate g).drive
        ∧ (u.gate g).softAt = (s.gate g).softAt ∧ (u.gate g).afterSoft = .fault ∧ s.flagged u (Reg.ignEvent g) 7
        ∧ s.keeps u (hideGate g ∘ hideFaults) (inBoth [Reg.ignEvent g, Reg.fltLost]))
    ∧ ((s.gate g).drive = .low → bits (s.gate g).ctrl 16 10 < igs.toNat → (s.gate g).leakAt + 4000 ≤ s.now →
      ∃ u, exec (.stuckOn g igs) s = .next u ∧ (u.gate g).state = .fault ∧ (u.gate g).drive = .low ∧ (u.gate g).igs = igs
        ∧ s.flagged u (Reg.ignEvent g) 8 ∧ s.keeps u (hideGate g ∘ hideFaults) (inBoth [Reg.ignEvent g, Reg.fltLost]))

/-- A write of IGNg_CTRL by a lane whose writes the gate takes. EN 1 (CLR 0) takes a gate from OFF to IDLE. EN 0 takes an
idle gate to OFF and soft-aborts a dwell, whose gate SOFT_ABORT_END then finds with EN 0. CLR takes a gate out of
FAULT to IDLE, unless its die is fenced. The register takes its RW bits and nothing else changes. CHARGE_REPORT at a
lane: the estimate of the report's gate becomes the charge time plus MARGIN, or rises by an eighth where I_TGT was not
reached, within FLOOR and DW_MAX of the spark set. Which lane's write a gate takes is the model's reading (log entry
10). -/
def Obligations.GateControlAndChargeReports : Prop :=
  ∀ (s : State) (l : LaneId) (g : Fin 48) (v : Word),
    (s.takesWrite l (Reg.ignCtrl g) → s.gateTakes g l = true →
      (v.getLsbD 0 = true → v.getLsbD 7 = false → (s.gate g).state = .off →
        ∃ u, exec (.gateEnable l g v) s = .next u ∧ (u.gate g).state = .idle ∧ (u.gate g).ctrl = v &&& 0x03FFFF41
          ∧ (u.lane l).reg (Reg.ignCtrl g) = (s.lane l).written (Reg.ignCtrl g) v
          ∧ s.keeps u (hideGate g) (inLane l [Reg.ignCtrl g]))
      ∧ (v.getLsbD 0 = false → v.getLsbD 7 = false → (s.gate g).state = .idle ∨ (s.gate g).state = .dwell →
        ∃ u, exec (.gateDisable l g v) s = .next u
          ∧ ((s.gate g).state = .idle → (u.gate g).state = .off)
          ∧ ((s.gate g).state = .dwell → (u.gate g).state = .soft ∧ (u.gate g).drive = .ramp ∧ (u.gate g).afterSoft = .idle
              ∧ s.flagged u (Reg.ignEvent g) 4)
          ∧ s.keeps u (hideGate g) (fun m => [Reg.ignEvent g, Reg.ignCnt g] ++ inLane l [Reg.ignCtrl g] m))
      ∧ (v.getLsbD 7 = true → (s.gate g).state = .fault → (s.die (g / 4)).fenced = false →
        ∃ u, exec (.gateClear l g v) s = .next u ∧ (u.gate g).state = .idle
          ∧ s.keeps u (hideGate g) (inLane l [Reg.ignCtrl g])))
    ∧ (∀ r, (s.lane l).chargeQ.head? = some r → s.runs l →
      ∃ u, exec (.chargeReport l) s = .next u ∧ (u.lane l).chargeQ = (s.lane l).chargeQ.tail
        ∧ ((u.lane l).reg (Reg.ignDwest r.gate)).toNat =
            min (max ((s.lane l).fld (Reg.setLimit r.set) 0 16 * 400)
              (min (match r.x with
                | some x => x + (s.lane l).fld (Reg.setRs r.set) 24 8 * 4000
                | none => (s.lane l).fld (Reg.ignDwest r.gate) 0 24 + (s.lane l).fld (Reg.ignDwest r.gate) 0 24 / 8)
                ((s.lane l).fld (Reg.setLimit r.set) 16 16 * 400))) (2 ^ 24 - 1)
        ∧ s.keeps u (hideIn l fun L => { L with chargeQ := [] }) (inLane l [Reg.ignDwest r.gate]))

/-- RAIL_MEASUREMENT of rail k completes for every state and every value: the controller keeps the value, its time, the
value of the cycle before, and the current limit in force. In RAMP and REG charging ends at or above the target and
begins at or below the target less WIN, else stays; it is off in OFF and STOPPED. RAMP becomes REG, with REG flagged,
once the target has reached VSET. Over-voltage begins at OV and ends below OV less WIN; its begin is flagged. In REG
ten measurements in a row below UV flag UV. BSTk_MIN keeps the lowest value. Nothing else changes but reports.
BOOST_CYCLE_START in RAMP or REG while charging, not in over-voltage, with the FET off for the TOFF of the present
cycle: the FET is on, and the next off-time is the TOFF set now. BOOST_FET_OFF at ILIM, or 10 µs after the FET turned
on: the FET is off, and the run of cycles ended by the limit grows or ends. SENSE_FAULT after 16 such cycles: STOPPED,
FET and charging off, SENSE flagged. CHG_TIMEOUT when a ramp has lagged, or a charge in REG has lasted, for 10 ms and
no measurement waits: STOPPED, FET and charging off, CHG flagged. Nothing else changes but reports. -/
def Obligations.RailMeasurements : Prop :=
  ∀ (s : State) (k : Fin 4) (v : BitVec 12),
    (∃ u, exec (.railMeasurement k v) s = .next u ∧
        (let r := s.rail k
         let act : Bool := r.state == .ramp || r.state == .reg
         let target := if r.state = .ramp then r.rampTarget s.now else r.vset
         let toReg := r.state = .ramp ∧ r.vset ≤ target
         let ov : Bool := if r.ov then decide (r.ovLevel ≤ v.toNat + r.win) else decide (r.ovLevel ≤ v.toNat)
         (u.rail k).v = v.toNat ∧ (u.rail k).vAt = s.now ∧ (u.rail k).ilimIn = r.ilim
        ∧ (r.vAt < s.now → (u.rail k).vPrev = r.v)
        ∧ (u.rail k).charging = (act && (if target ≤ v.toNat then false else if v.toNat + r.win ≤ target then true else r.charging))
        ∧ (u.rail k).state = (if toReg then .reg else r.state) ∧ (toReg → s.flagged u (Reg.bstEvent k) 0)
        ∧ (u.rail k).ov = ov ∧ (ov = true → r.ov = false → s.flagged u (Reg.bstEvent k) 2)
        ∧ (r.state = .reg → v.toNat < bits r.thresh 9 9 * 8 → r.uvRun = 9 → s.flagged u (Reg.bstEvent k) 1)
        ∧ (∀ l, (s.lane l).on = true → (u.lane l).fld (Reg.bstMin k) 0 12 = min v.toNat ((s.lane l).fld (Reg.bstMin k) 0 12))
        ∧ (u.rail k).ctrl = r.ctrl ∧ (u.rail k).set = r.set ∧ (u.rail k).thresh = r.thresh ∧ (u.rail k).fet = r.fet
        ∧ s.keeps u (hideRail k ∘ hideFaults) (inBoth [Reg.bstEvent k, Reg.bstMin k, Reg.fltLost])))
    ∧ ((s.rail k).state = .ramp ∨ (s.rail k).state = .reg → (s.rail k).charging = true → (s.rail k).fet = false →
        (s.rail k).ov = false → (s.rail k).fetAt + (s.rail k).toffIn ≤ s.now →
      ∃ u, exec (.boostCycleStart k) s = .next u ∧ u.rail k = { s.rail k with fet := true, fetAt := s.now, toffIn := (s.rail k).toff }
        ∧ s.keeps u (hideRail k) (inBoth []))
    ∧ (∀ byLimit : Bool, (s.rail k).fet = true →
        (byLimit = true → (s.rail k).fetAt + 4000 ≤ s.now ∧ Instr.boostFetOff k false ∉ s.pending) →
      ∃ u, exec (.boostFetOff k byLimit) s = .next u
        ∧ u.rail k = { s.rail k with fet := false, fetAt := s.now, limitRun := if byLimit then (s.rail k).limitRun + 1 else 0 }
        ∧ s.keeps u (hideRail k) (inBoth []))
    ∧ ((s.rail k).state = .ramp ∨ (s.rail k).state = .reg → 16 ≤ (s.rail k).limitRun →
      ∃ u, exec (.senseFault k) s = .next u
        ∧ (u.rail k).state = .stopped ∧ (u.rail k).fet = false ∧ (u.rail k).charging = false ∧ s.flagged u (Reg.bstEvent k) 4
        ∧ s.keeps u (hideRail k ∘ hideFaults) (inBoth [Reg.bstEvent k, Reg.fltLost]))
    ∧ (∀ t, (match (s.rail k).state with | .ramp => (s.rail k).lagAt | .reg => (s.rail k).chargeAt | _ => none) = some t →
        t + 4000000 ≤ s.now →
        (∀ i ∈ s.pending, (match i with | .railMeasurement j _ => j == k | _ => false) = false) →
      ∃ u, exec (.chgTimeout k) s = .next u
        ∧ (u.rail k).state = .stopped ∧ (u.rail k).fet = false ∧ (u.rail k).charging = false ∧ s.flagged u (Reg.bstEvent k) 3
        ∧ s.keeps u (hideRail k ∘ hideFaults) (inBoth [Reg.bstEvent k, Reg.fltLost]))

/-- BOOST_ENABLE, BOOST_DISABLE: the register takes the write. Where no lane is compared or the lanes' settings of the
rail are now equal, EN 1 puts a controller in OFF, not in safe state and with VSUP present, in RAMP from the present
voltage, and EN 0 puts it in OFF, FET off. Where they differ, the controller waits unchanged for the other lane's
write, and once both have written keeps its settings with SET_ERR flagged. SET_ERR, the arrival of settings: where the
other lane is compared and its settings differ, the controller or the spark sets keep theirs and SET_ERR is flagged;
otherwise they are the sending lane's. Nothing else changes but the written register, the marks of what was sent, and
reports. Which lane sends is the model's reading (log entry 11). That a rail is not enabled while VSUP is absent, and
what stands for its return, is log entry 111. -/
def Obligations.RailSettings : Prop :=
  ∀ (s : State) (l : LaneId) (k : Fin 4) (d : Fin 12) (v : Word),
    (s.takesWrite l (Reg.bstCtrl k) → s.sender (3 * k) = l →
      let M := s.lane (otherLane l)
      let agree := s.compares (otherLane l) = false ∨ (s.lane l).written (Reg.bstCtrl k) v = M.reg (Reg.bstCtrl k)
        ∧ (s.lane l).reg (Reg.bstSet k) = M.reg (Reg.bstSet k) ∧ (s.lane l).reg (Reg.bstThresh k) = M.reg (Reg.bstThresh k)
      let unsent := hideInBoth fun L => { L with railSent := putBit L.railSent k false }
      (∀ c ∈ [Instr.boostEnable l k v, .boostDisable l k v], ∃ u, exec c s = .next u
        ∧ (u.lane l).reg (Reg.bstCtrl k) = (s.lane l).written (Reg.bstCtrl k) v
        ∧ (agree → v.getLsbD 0 = true → (s.rail k).state = .off → (s.die (3 * k)).auth ≠ .safe → s.vsupLow = false →
            (u.rail k).state = .ramp ∧ (u.rail k).enAt = s.now ∧ (u.rail k).v0 = (s.rail k).v)
        ∧ (agree → v.getLsbD 0 = false →
            (u.rail k).state = .off ∧ (u.rail k).fet = false ∧ (u.rail k).charging = false)
        ∧ (agree → (u.rail k).ctrl = (s.lane l).written (Reg.bstCtrl k) v ∧ (u.rail k).set = (s.lane l).reg (Reg.bstSet k)
            ∧ (u.rail k).thresh = (s.lane l).reg (Reg.bstThresh k) ∧ s.keeps u (hideRail k ∘ unsent) (inLane l [Reg.bstCtrl k]))
        ∧ (¬agree → M.railSent.getLsbD k = false → u.rail k = s.rail k ∧ (u.lane l).railSent.getLsbD k = true
            ∧ s.keeps u unsent (inLane l [Reg.bstCtrl k]))
        ∧ (¬agree → M.railSent.getLsbD k = true → u.rail k = { s.rail k with enOwed := true } ∧ s.flagged u (Reg.bstEvent k) 6
            ∧ s.keeps u (hideRail k ∘ unsent ∘ hideFaults) (fun m => [Reg.bstEvent k, Reg.fltLost] ++ inLane l [Reg.bstCtrl k] m))))
    ∧ ((s.lane (s.sender (3 * k))).on = true →
      let L := s.lane (s.sender (3 * k))
      let M := s.lane (otherLane (s.sender (3 * k)))
      let same := ∀ a ∈ [Reg.bstCtrl k, Reg.bstSet k, Reg.bstThresh k], L.reg a = M.reg a
      let cmp := s.compares (otherLane (s.sender (3 * k)))
      ∃ u, exec (.setErr (.rail k)) s = .next u
        ∧ (cmp = true → ¬same → u.rail k = { s.rail k with enOwed := (s.rail k).enOwed || L.railSent.getLsbD k }
            ∧ s.flagged u (Reg.bstEvent k) 6)
        ∧ (cmp = false ∨ same → (u.rail k).ctrl = L.reg (Reg.bstCtrl k) ∧ (u.rail k).set = L.reg (Reg.bstSet k)
            ∧ (u.rail k).thresh = L.reg (Reg.bstThresh k))
        ∧ s.keeps u (hideRail k ∘ hideFaults ∘ hideInBoth fun L => { L with railSent := putBit L.railSent k false })
            (inBoth [Reg.bstEvent k, Reg.fltLost]))
    ∧ ((s.lane (s.sender d)).on = true →
      let L := s.lane (s.sender d)
      let M := s.lane (otherLane (s.sender d))
      let same := L.sparkSets = M.sparkSets
      let cmp := s.compares (otherLane (s.sender d))
      ∃ u, exec (.setErr (.sparkSets d)) s = .next u
        ∧ (cmp = true → ¬same → u.dies = s.dies ∧ ∀ i : Fin 4, s.flagged u (Reg.ignEvent (4 * d + i)) 10)
        ∧ (cmp = false ∨ same → ∀ j : Fin 8, vget (u.die d).sets j (0, 0, 0, 0) =
            (L.reg (Reg.setDwell j), L.reg (Reg.setLimit j), L.reg (Reg.setDiag j), L.reg (Reg.setRs j)))
        ∧ s.keeps u ((fun t => t.dieUpd d fun x => { x with sets := (s.die d).sets }) ∘ hideFaults)
            (inBoth ((List.range 4).map (fun i => Reg.ignEvent (4 * d + i)) ++ [Reg.fltLost])))

/-- START at the front of a link, due, from the lane in authority, for an idle channel with no waiting start, a usable
slot copy, no SHED on a hot die, the duty limit not reached, OFF_TIME over and the quad free: the channel runs the
slot's profile from phase 0 from now on, for the command's DUR or to its END, and shows the command's slot, cycle and
index; an empty profile is in DECAY at once. Started is flagged and counted. A start at a channel in RUN is refused
with cause 6 and the event goes on. No other channel changes but in the blanking of samples. -/
def Obligations.StartBeginsAnEvent : Prop :=
  ∀ (s : State) (l : LaneId) (d : Fin 12) (e : LinkEntry), s.dieRuns l d e → e.cmd.kind = .startT ∨ e.cmd.kind = .startA →
    s.oddMember (16 * d + e.cmd.ch % 16) = false →
    let n := 16 * d + e.cmd.ch % 16
    let as := channelRegs n ++ [Reg.chnPeakt n, Reg.bstMin (n / 48), Reg.bstEvent (n / 48)]
    (∀ prof, vget (s.chan n).slots e.cmd.slot none = some prof → (profMax prof ≤ if s.paired n then 1875 else 937) →
        (s.chan n).state = .idle → (s.chan n).wait = none → (s.chan n).ev = none → (s.chan n).decaying = false →
        ¬((s.die d).hot = true ∧ (s.chan n).ctrl.getLsbD 6 = true) → s.dutyFull n = false →
        (∀ t, (s.chan n).prevEnd = some t → t + bits (s.chan n).offtime 0 16 * 400 ≤ s.now) →
        s.quadBlock n (phBoost (profPhase prof 0)) none = none →
      ∃ u, exec (.start l ⟨d, false⟩) s = .next u ∧ (u.chan n).wait = none
        ∧ (u.chan n).state = (if phKind (profPhase prof 0) = 0 then .decay else .run)
        ∧ (u.chan n).slot = e.cmd.slot ∧ (u.chan n).cyc = e.cmd.cyc ∧ (u.chan n).idx = e.cmd.idx ∧ (u.chan n).lane = l
        ∧ (u.chan n).late = e.cmd.late
        ∧ (phKind (profPhase prof 0) ≠ 0 → (u.chan n).ev.map (fun x => (x.prof, x.start, x.phase, x.angle, x.stop)) =
            some (prof, s.now, 0, e.cmd.kind == .startA,
              if e.cmd.kind = .startA ∧ e.cmd.dur = 0 then none else some (s.now + e.cmd.dur * 40)))
        ∧ s.flagged u (Reg.chnEvent n) 0
        ∧ s.keeps u (hideChan n ∘ hideBlank ∘ hideLink l d ∘ hideFaults ∘ hideLandings) (inBoth as))
    ∧ ((s.chan n).state = .run →
      ∃ u, exec (.start l ⟨d, false⟩) s = .next u ∧ u.chan n = s.chan n ∧ s.flagged u (Reg.chnEvent n) 4
        ∧ (∀ m, (s.lane m).on = true → (u.lane m).fld (Reg.chnLast n) 12 4 = 6)
        ∧ s.keeps u (hideLink l d ∘ hideOpens d) (inBoth as))

/-- At the front of a link, due, from the lane in authority. END for a channel with an angle-ended event: DECAY begins by
the profile's end decay, or fast for a poisoned END. STOP: at each channel of the die the waiting start is cancelled,
an angle-ended event ends with fast decay and ABORT flagged, and a time-ended event goes on; a dwelling gate is
soft-aborted. HALT: at each channel every event ends with fast decay, a decay under way is fast, the waiting start is
cancelled; a dwelling gate is soft-aborted. No other die changes. A command of any kind whose frame fails its link
check leaves the link and changes nothing else. -/
def Obligations.EndStopAndHaltCommands : Prop :=
  ∀ (s : State) (l : LaneId) (d : Fin 12) (e : LinkEntry), s.dieRuns l d e →
    (e.cmd.kind = .endA ∨ e.cmd.kind = .endFast → s.oddMember (16 * d + e.cmd.ch % 16) = false →
      ∀ v, (s.chan (16 * d + e.cmd.ch % 16)).ev = some v → v.angle = true →
      let n := 16 * d + e.cmd.ch % 16
      ∃ u, exec (.endCmd l ⟨d, false⟩) s = .next u ∧ (u.chan n).ev = none ∧ (u.chan n).state = .decay ∧ (u.chan n).decayAt = s.now
        ∧ (u.chan n).decayFast = ((e.cmd.kind == .endFast) || bits (profWord v.prof 0) 24 2 == 0) ∧ (u.chan n).afterDecay = .idle
        ∧ s.flagged u (Reg.chnEvent n) 1
        ∧ s.keeps u (hideChan n ∘ hideBlank ∘ hideLink l d ∘ hideFaults ∘ hideLandings ∘ hideOpens d) (inBoth (channelRegs n)))
    ∧ (e.cmd.kind = .stop →
      ∃ u, exec (.stop l ⟨d, false⟩) s = .next u
        ∧ (∀ i : Fin 16, (u.chan (16 * d + i)).wait = none
            ∧ ∀ v, (s.chan (16 * d + i)).ev = some v →
              (v.angle = true → (u.chan (16 * d + i)).ev = none ∧ (u.chan (16 * d + i)).state = .decay
                ∧ (u.chan (16 * d + i)).decayFast = true ∧ s.flagged u (Reg.chnEvent (16 * d + i)) 2)
              ∧ (v.angle = false → (u.chan (16 * d + i)).ev = some v))
        ∧ (∀ j : Fin 4, (s.gate (4 * d + j)).state = .dwell → (u.gate (4 * d + j)).state = .soft ∧ (u.gate (4 * d + j)).afterSoft = .idle)
        ∧ s.keeps u (hideDie d ∘ hideBlank ∘ hideLink l d ∘ hideFaults ∘ hideLandings ∘ hideOpens d) (inBoth (dieRegs d)))
    ∧ (e.cmd.kind = .halt →
      ∃ u, exec (.halt l ⟨d, false⟩) s = .next u
        ∧ (∀ i : Fin 16, (u.chan (16 * d + i)).wait = none ∧ (u.chan (16 * d + i)).ev = none
            ∧ ((s.chan (16 * d + i)).ev.isSome = true → (u.chan (16 * d + i)).state = .decay)
            ∧ ((s.chan (16 * d + i)).ev.isSome = true ∨ (s.chan (16 * d + i)).decaying = true →
                (u.chan (16 * d + i)).decaying = true ∧ (u.chan (16 * d + i)).decayFast = true))
        ∧ (∀ j : Fin 4, (s.gate (4 * d + j)).state = .dwell → (u.gate (4 * d + j)).state = .soft ∧ (u.gate (4 * d + j)).afterSoft = .idle)
        ∧ s.keeps u (hideDie d ∘ hideBlank ∘ hideLink l d ∘ hideFaults ∘ hideLandings ∘ hideOpens d) (inBoth (dieRegs d)))
    ∧ (∀ c ∈ [(Instr.start l ⟨d, true⟩, [DrvKind.startT, .startA]), (.endCmd l ⟨d, true⟩, [.endA, .endFast]), (.dwell l ⟨d, true⟩, [.dwell]),
          (.spark l ⟨d, true⟩, [.spark]), (.stop l ⟨d, true⟩, [.stop]), (.halt l ⟨d, true⟩, [.halt])], e.cmd.kind ∈ c.2 →
      ∃ u, exec c.1 s = .next u ∧ vget (u.lane l).sched.links d [] = (vget (s.lane l).sched.links d []).tail ∧ u.dies = s.dies
        ∧ s.keeps u (hideLink l d) (inBoth []))

/-- CURRENT_SAMPLE after blanking, the channel no odd member of a pair, with no landing detection running, the edges of
mixed decays until now taken. Below 0.25 A in a decay with no start waiting: the channel takes the state recorded for
after the decay. In a regulated phase after the peak, at or above I_HI with the element on for its minimum time: the
element is off; at or below I_LO with it off for its minimum time: on. At the peak current before T_MIN: SHORT, fast
decay, then FAULT. HW_TRIP at a channel with an event: fast decay, then FAULT, and HW flagged. No other channel
changes but in blanking. -/
def Obligations.CurrentSamplesAndTrips : Prop :=
  ∀ (s : State) (n : Fin 192) (i j : BitVec 11), s.oddMember n = false → ((s.mixPass (n / 4)).chan n).blankTo ≤ s.now →
    let cur := if s.paired n then i.toNat + j.toNat else i.toNat
    let c := s.chan n
    (c.ev = none → c.decaying = true → c.wait = none → cur * 16 < 250 →
      ∃ u, exec (.currentSample n i j) s = .next u
        ∧ { u.chan n with blankTo := c.blankTo, mixSeen := c.mixSeen } =
            { c with cur := cur, state := if c.state = .wait then .wait else c.afterDecay, idleAt := s.now, decaying := false }
        ∧ s.keeps u (hideChan n ∘ hideBlank) (inBoth []))
    ∧ (∀ e, c.ev = some e → e.detect = none → e.blocked = none →
        (e.peaked = true → phReg (profPhase e.prof e.phase) = true → 
          let on : Bool := e.elOn
          let due := e.elAt + max (bits (profWord e.prof 0) (if on then 8 else 0) 8) 50 * 40 ≤ s.now
          (if on then phHi (profPhase e.prof e.phase) ≤ cur else cur ≤ phLo (profPhase e.prof e.phase)) → due →
          ∃ u, exec (.currentSample n i j) s = .next u ∧ (u.chan n).cur = cur
            ∧ (u.chan n).ev = some { e with elOn := !on, elAt := s.now } ∧ (u.chan n).state = c.state
            ∧ s.keeps u (hideChan n ∘ hideBlank) (inBoth []))
        ∧ (e.peaked = false → ∀ h, peakLevel e.prof = some h → h ≤ cur → s.now - e.start < (c.peakWin e).1 * 40 →
          ∃ u, exec (.currentSample n i j) s = .next u ∧ (u.chan n).state = .decay ∧ (u.chan n).ev = none
            ∧ (u.chan n).decayFast = true ∧ (u.chan n).afterDecay = .fault ∧ s.flagged u (Reg.chnEvent n) 11
            ∧ (∀ l, (s.lane l).on = true → (u.lane l).fld (Reg.chnPeakt n) 0 16 = min ((s.now - e.start) / 40) 0xFFFE)
            ∧ s.keeps u (hideChan n ∘ hideBlank ∘ hideFaults ∘ hideOpens (n / 16)) (inBoth (Reg.chnPeakt n :: channelRegs n))))
    ∧ (c.ev.isSome = true →
      ∃ u, exec (.hwTrip (.channel n)) s = .next u ∧ (u.chan n).state = .decay ∧ (u.chan n).ev = none
        ∧ (u.chan n).decayFast = true ∧ (u.chan n).afterDecay = .fault ∧ s.flagged u (Reg.chnEvent n) 12
        ∧ s.keeps u (hideChan n ∘ hideBlank ∘ hideFaults ∘ hideLandings ∘ hideOpens (n / 16)) (inBoth (channelRegs n)))

/-- The three commands carry a temperature and a power of die d. The die keeps them; it is fenced from 175 °C or 10 W
until it is no longer hot, and hot while at or above the warning limits of the sending lane or those. As it becomes
fenced, each of its channels but the odd members of pairs ends in FAULT, by way of fast decay where an event runs or
current decays, and no start waits; a dwelling gate is soft-aborted into FAULT and an idle one stays. Without that no
channel and no gate changes. Which lane's setting counts with no authority is the model's reading (log entry 11). -/
def Obligations.DieTemperature : Prop :=
  ∀ (s : State) (d : Fin 12) (temp power : BitVec 12), ∀ c ∈ [Instr.dieHot d temp power, .dieFenced d temp power, .dieCool d temp power],
    let L := s.lane (s.sender d)
    let fence : Bool := decide (175 * 8 ≤ temp.toInt) || decide (1000 ≤ power.toNat)
    let hot : Bool := fence || decide (((min (L.fld (Reg.dieLimit d) 24 8) 170 * 8 : Nat) : Int) ≤ temp.toInt)
      || decide (min (L.fld (Reg.dieLimit d) 0 16) 999 ≤ power.toNat)
    let begins : Bool := fence && !(s.die d).fenced
    ∃ u, exec c s = .next u
      ∧ u.die d = { s.die d with temp := temp, power := power, hot := hot, fenced := fence || ((s.die d).fenced && hot) }
      ∧ (begins = false → s.keeps u ((fun t => t.dieUpd d fun _ => {}) ∘ hideFaults) (inBoth [Reg.fltLost]))
      ∧ (begins = true →
          (∀ i : Fin 16, s.flagged u (Reg.chnEvent (16 * d + i)) 13
            ∧ (s.oddMember (16 * d + i) = false → (u.chan (16 * d + i)).ev = none ∧ (u.chan (16 * d + i)).wait = none
              ∧ ((u.chan (16 * d + i)).state = .fault ∨ (u.chan (16 * d + i)).decaying = true ∧ (u.chan (16 * d + i)).afterDecay = .fault)))
          ∧ (∀ j : Fin 4, ((s.gate (4 * d + j)).state = .dwell → (u.gate (4 * d + j)).state = .soft ∧ (u.gate (4 * d + j)).afterSoft = .fault)
            ∧ ((s.gate (4 * d + j)).state = .idle → u.gate (4 * d + j) = s.gate (4 * d + j)))
          ∧ s.keeps u (hideDie d ∘ hideBlank ∘ hideFaults ∘ hideLandings ∘ hideOpens d) (inBoth (dieRegs d)))

/-- OFF_DIAG of a quad with some channel enabled for it, whose channels are slaves, or idle, off or faulted for 1 ms, at
least 10 ms after the last one: each channel enabled for it takes 3 (short to battery) where its pin was high before;
else 2 (short to ground) or, while disabled, 0, where the node stays low; else 0 or 1 (open) as its pin was high or
low with the source; a node held low shows as 2 on every channel with EN, enabled for the diagnosis or not. A result
other than 0 is flagged. The time is kept. Nothing else changes but reports. That a diagnosis is one command, the
order of its results, and that the 10 ms run on across events, are the model's (log entries 77 and 107). -/
def Obligations.OffStateDiagnosis : Prop :=
  ∀ (s : State) (q : Fin 48) (before after : BitVec 4) (node : Bool),
    (∃ i : Fin 4, (s.chan (s.governs (4 * q + i))).ctrl.getLsbD 5 = true) →
    (∀ i : Fin 4, (s.chan (4 * q + i)).state = .slave
      ∨ (s.chan (4 * q + i)).state ∈ [.idle, .off, .fault] ∧ (s.chan (4 * q + i)).idleAt + 400000 ≤ s.now) →
    (∀ t, (vget s.quads q {}).osdAt = some t → t + 4000000 ≤ s.now) →
    ∃ u, exec (.offDiag q before node after) s = .next u ∧ (vget u.quads q {}).osdAt = some s.now
      ∧ (∀ i : Fin 4,
          let g := s.chan (s.governs (4 * q + i))
          let r := if before.getLsbD i = true ∧ g.ctrl.getLsbD 5 = true then 3 else if node = false then (if g.ctrl.getLsbD 0 then 2 else 0)
            else if after.getLsbD i then 0 else 1
          (g.ctrl.getLsbD 5 = true ∨ g.ctrl.getLsbD 0 = true ∧ node = false → u.chan (4 * q + i) = { s.chan (4 * q + i) with osd := r }
            ∧ (r ≠ 0 → s.flagged u (Reg.chnEvent (4 * q + i)) 14))
          ∧ (g.ctrl.getLsbD 5 = false → g.ctrl.getLsbD 0 = false ∨ node = true → u.chan (4 * q + i) = s.chan (4 * q + i)))
      ∧ s.keeps u ((fun t => (List.range 4).foldl (fun t i => hideChan (4 * q + i) t) { t with quads := vmod t.quads q fun x => { x with osdAt := none } })
          ∘ hideFaults) (inBoth (Reg.fltLost :: (List.range 4).map fun i => Reg.chnEvent (4 * q + i)))

/-- Writes by a lane whose settings the die takes, both functions out of reset. EN 1 takes a channel from OFF to IDLE, or
to SLAVE as the odd member of a pair. EN 0 takes IDLE and FAULT to OFF, and ends an event with fast decay and ABORT,
after which the channel is OFF. CLR takes a channel out of FAULT unless its die is fenced, to IDLE with EN 1 and to
OFF with EN 0. CHN_QUADq_CTRL takes its RW bits, but PAIR and MODE stay where the quad is busy, and a change of them
then flags CFG_REJ; the odd member of a pair reads SLAVE, and its landing status is reset. The lane's register and the
die's copy follow; no other channel and no other part changes. DIE_SETTING_WRITE with a write under way from lane l to
die d: the write leaves the queue. From the lane whose settings the die takes, OFFTIME, DUTY, PKWIN and PKWIN_ALT of a
channel become the die's copy and nothing else of the channel changes; from the other lane nothing but the queue
changes. -/
def Obligations.ChannelAndQuadSettings : Prop :=
  ∀ (s : State) (l : LaneId) (n : Fin 192) (q : Fin 48) (v : Word) (d : Fin 12),
    (s.takesWrite l (Reg.chnCtrl n) → s.dieTakes (n / 16) l = true →
      (v.getLsbD 0 = true → v.getLsbD 7 = false → (s.chan n).state = .off →
        ∃ u, exec (.channelEnable l n v) s = .next u
          ∧ u.chan n = { s.chan n with state := if s.oddMember n then .slave else .idle, ctrl := v &&& 0x7D, idleAt := s.now }
          ∧ (u.lane l).reg (Reg.chnCtrl n) = (s.lane l).written (Reg.chnCtrl n) v
          ∧ s.keeps u (hideChan n) (inLane l [Reg.chnCtrl n]))
      ∧ (v.getLsbD 0 = false → v.getLsbD 7 = false →
        ∃ u, exec (.channelDisable l n v) s = .next u ∧ (u.chan n).ctrl = v &&& 0x7D
          ∧ ((s.chan n).state = .idle ∨ (s.chan n).state = .fault → (s.chan n).ev = none → (s.chan n).wait = none → (u.chan n).state = .off)
          ∧ ((s.chan n).ev.isSome = true → (u.chan n).ev = none ∧ (u.chan n).state = .decay ∧ (u.chan n).decayFast = true
              ∧ (u.chan n).afterDecay = .off ∧ s.flagged u (Reg.chnEvent n) 2)
          ∧ s.keeps u (hideChan n ∘ hideBlank ∘ hideLandings ∘ hideOpens (n / 16)) (fun m => channelRegs n ++ inLane l [Reg.chnCtrl n] m))
      ∧ (v.getLsbD 7 = true → (s.chan n).state = .fault → (s.chan n).ev = none → (s.chan n).wait = none → (s.die (n / 16)).fenced = false →
        ∃ u, exec (.clr l n v) s = .next u ∧ (u.chan n).state = (if v.getLsbD 0 then .idle else .off) ∧ (u.chan n).openRun = 0
          ∧ s.keeps u (hideChan n) (inLane l [Reg.chnCtrl n])))
    ∧ (s.takesWrite l (Reg.quadCtrl q) → s.dieTakes (q / 4) l = true →
      let w := v &&& 0x03FF0007
      let old := (s.lane l).reg (Reg.quadCtrl q)
      ∃ u, exec (.quadCtrlWrite l q v) s = .next u
        ∧ (u.lane l).reg (Reg.quadCtrl q) = (if s.quadBusy q then setBits w 0 3 (bits old 0 3) else w)
        ∧ u.quadCtrl q = (if s.quadBusy q then setBits w 0 3 (bits (s.quadCtrl q) 0 3) else w)
        ∧ (s.quadBusy q = true → bits old 0 3 ≠ bits v 0 3 → (u.lane l).bit Reg.chnPdstat 30 = true)
        ∧ (∀ i ∈ [1, 3], u.oddMember (4 * q + i) = true → (u.chan (4 * q + i)).state = .slave)
        ∧ s.keeps u ((fun t => { t with quads := vmod t.quads q fun _ => {} }) ∘ hideChan (4 * q + 1) ∘ hideChan (4 * q + 3))
            (inLane l ([Reg.quadCtrl q, Reg.chnPdstat] ++ (List.range 4).flatMap fun j => [Reg.lndLast (4 * q + 1) + 4 * j, Reg.lndLast (4 * q + 3) + 4 * j])))
    ∧ (s.fitted l = true →
      ∀ w, (vget (s.lane l).dieWrites d []).head? = some w →
      ∃ u, exec (.dieSettingWrite l d) s = .next u ∧ vget (u.lane l).dieWrites d [] = (vget (s.lane l).dieWrites d []).tail
        ∧ (s.dieTakes d l = false → s.keeps u (hideIn l fun L => { L with dieWrites := vmod L.dieWrites d fun _ => [] }) (inBoth []))
        ∧ (s.dieTakes d l = true →
            (w.addr = Reg.chnOfftime n → u.chan n = { s.chan n with offtime := w.v })
            ∧ (w.addr = Reg.chnDuty n → u.chan n = { s.chan n with duty := w.v })
            ∧ (w.addr = Reg.chnPkwin n → u.chan n = { s.chan n with pkwin := w.v })
            ∧ (w.addr = Reg.chnPkwinAlt n → u.chan n = { s.chan n with pkwinAlt := w.v })
            ∧ (w.addr ∈ [Reg.chnOfftime n, Reg.chnDuty n, Reg.chnPkwin n, Reg.chnPkwinAlt n] →
                s.keeps u (hideChan n ∘ hideIn l fun L => { L with dieWrites := vmod L.dieWrites d fun _ => [] }) (inBoth []))))

/-- PROFILE_SELECT: the register takes the value, each slot whose number changed has its copy queued to the channel's die,
and the queue stays where none changed. PDIST: every slot that names the written profile, or every slot with ALL, has
its copy queued. PROFILE_COPY_ARRIVAL of a valid profile, when the other lane takes no part: the slot copy of the
channel becomes the 64 bytes of the profile as the sending lane reads them, and the request leaves the queue. No other
channel, and no gate, rail or port changes. Which lane sends with no authority is the model's reading (log entry 11). -/
def Obligations.ProfileDistribution : Prop :=
  ∀ (s : State) (l : LaneId) (n : Fin 192) (hi : Bool) (v : Word) (d : Fin 12),
    (s.takesWrite l (profileSelAddr n hi) →
      ∃ u, exec (.profileSelect l n hi v) s = .next u ∧ (u.lane l).reg (profileSelAddr n hi) = v
        ∧ (∀ j : Fin 4, bits ((s.lane l).reg (profileSelAddr n hi)) (8 * j) 8 ≠ bits v (8 * j) 8 →
            (⟨n, (if hi then 4 else 0) + j, bits v (8 * j) 8⟩ : SlotCopy) ∈ vget (u.lane l).pdQ (n / 16) [])
        ∧ ((s.lane l).reg (profileSelAddr n hi) = v → (u.lane l).pdQ = (s.lane l).pdQ)
        ∧ s.keeps u (hideIn l fun L => { L with pdQ := vmod L.pdQ (n / 16) fun _ => [] }) (inLane l [profileSelAddr n hi]))
    ∧ (s.takesWrite l Reg.chnPdist →
      ∃ u, exec (.pdist l v) s = .next u
        ∧ (∀ m : Fin 192, ∀ k : Fin 8, v.getLsbD 31 = true ∨ (s.lane l).slotProf m k = bits v 0 8 →
            (⟨m, k, (s.lane l).slotProf m k⟩ : SlotCopy) ∈ vget (u.lane l).pdQ (m / 16) [])
        ∧ s.keeps u (hideIn l fun L => { L with pdQ := Vector.replicate 12 [] }) (inBoth []))
    ∧ (∀ c, (vget (s.lane (s.sender d)).pdQ d []).head? = some c → c.ch < 192 →
        s.variantS = true ∨ (s.lane (otherLane (s.sender d))).on = false ∨ (s.lane (otherLane (s.sender d))).ready = false →
        ((vget (s.lane (otherLane (s.sender d))).pdQ d []).all fun e => !(e.ch == c.ch && e.slot == c.slot)) = true →
        let r := (s.lane (s.sender d)).readProfile c.prof (s.paired c.ch)
        r.2.2 = true →
      ∃ u, exec (.profileCopyArrival d) s = .next u
        ∧ u.chan c.ch = { s.chan c.ch with slots := vmod (s.chan c.ch).slots c.slot fun _ => some (BitVec.ofNat 512 (leNat r.2.1)) }
        ∧ vget (u.lane (s.sender d)).pdQ d [] = (vget (s.lane (s.sender d)).pdQ d []).tail
        ∧ s.keeps u (hideChan c.ch ∘ hideMem (s.sender d) ∘ hideFaults ∘ hideIn (s.sender d) fun L => { L with pdQ := vmod L.pdQ d fun _ => [] })
            (inLane (s.sender d) memRegs))

/-- LANDING_REPORT: a landing within the clamp is flagged, counted and clears the misses, and with EN 1 and FREEZE 0 moves
the estimate by 2^-GAIN of its error, within the clamp; a landing outside it is flagged as rejected and a missing one
as missing, each counting a miss and leaving the estimate. LANDING_WINDOW_CLOSE with detection running and no sample
waiting: detection ends and a MISSING report goes to each running lane. SEED: the estimate is D_INIT and the miss
count 0. A write to LNDn_EST is taken while EN = 0 or FREEZE = 1, and otherwise flags CFG_REJ. The odd member of a
pair takes no report and shows no flag. -/
def Obligations.LandingReportsAndEstimates : Prop :=
  ∀ (s : State) (l : LaneId) (n : Fin 192) (v : Word),
    (∀ r, (s.lane l).landingQ.head? = some r → s.runs l → r.ch = n.val →
      let L := s.lane l
      let lo := L.fld (Reg.lndClamp n) 0 16 * 400
      let hi := L.fld (Reg.lndClamp n) 16 16 * 400
      let E : Int := (L.reg (Reg.lndEst n)).toNat
      let inside := r.verdict = 1 ∧ lo ≤ r.x ∧ r.x ≤ hi
      ∃ u, exec (.landingReport l) s = .next u ∧ (u.lane l).landingQ = L.landingQ.tail
        ∧ (L.oddMember n = false → inside → (u.lane l).bit (Reg.lndEvent n) 0 = true ∧ (u.lane l).fld (Reg.lndCnt n) 28 4 = 0
            ∧ (u.lane l).fld (Reg.lndCnt n) 0 16 = min (L.fld (Reg.lndCnt n) 0 16 + 1) 0xFFFF
            ∧ (L.bit (Reg.lndCtrl n) 0 = true → L.bit (Reg.lndCtrl n) 1 = false → (u.lane l).reg (Reg.lndEst n) =
                BitVec.ofInt 32 (max (lo * 256 : Int) (min (E + ((r.x * 256 : Nat) - E) / 2 ^ L.fld (Reg.lndCtrl n) 8 3) (hi * 256)))))
        ∧ (L.oddMember n = false → r.verdict ≠ 0 → ¬inside → (u.lane l).bit (Reg.lndEvent n) (if r.verdict = 1 then 2 else 1) = true
            ∧ (u.lane l).fld (Reg.lndCnt n) 28 4 = min (L.fld (Reg.lndCnt n) 28 4 + 1) 15
            ∧ (u.lane l).reg (Reg.lndEst n) = L.reg (Reg.lndEst n))
        ∧ (L.oddMember n = true → s.keeps u (hideIn l fun L => { L with landingQ := [] }) (inBoth []))
        ∧ s.keeps u (hideFaults ∘ hideIn l fun L => { L with landingQ := [], estOld := [] })
            (inLane l [Reg.lndEvent n, Reg.lndCnt n, Reg.lndEst n, Reg.lndDip n, Reg.lndLast n, Reg.fltLost]))
    ∧ (∀ e, (s.chan n).ev = some e → e.detect.isSome = true → s.sampleSoon n = none → e.window.2 ≤ s.now →
      ∃ u, exec (.landingWindowClose n) s = .next u ∧ u.chan n = { s.chan n with ev := some { e with detect := none } }
        ∧ (∀ m, (s.lane m).on = true → (u.lane m).landingQ = (s.lane m).landingQ ++ [⟨n, 2, 0, 0, s.chName n⟩])
        ∧ s.keeps u (hideChan n ∘ hideLandings) (inBoth []))
    ∧ (s.takesWrite l (Reg.lndCtrl n) → v.getLsbD 2 = true →
      ∃ u, exec (.seed l n v) s = .next u
        ∧ (u.lane l).reg (Reg.lndEst n) = BitVec.ofNat 32 ((s.lane l).fld (Reg.lndInit n) 0 24 * 256)
        ∧ (u.lane l).fld (Reg.lndCnt n) 28 4 = 0 ∧ (u.lane l).reg (Reg.lndCtrl n) = (s.lane l).written (Reg.lndCtrl n) v
        ∧ s.keeps u hideNone (inLane l [Reg.lndCtrl n, Reg.lndEst n, Reg.lndCnt n]))
    ∧ (s.takesWrite l (Reg.lndEst n) →
      let free : Bool := !(s.lane l).bit (Reg.lndCtrl n) 0 || (s.lane l).bit (Reg.lndCtrl n) 1
      ∃ u, exec (.estimateWrite l n v) s = .next u
        ∧ (u.lane l).reg (Reg.lndEst n) = (if free then v else (s.lane l).reg (Reg.lndEst n))
        ∧ (free = false → (s.lane l).oddMember n = false → (u.lane l).bit (Reg.lndEvent n) 5 = true)
        ∧ s.keeps u hideNone (inLane l (if free then [Reg.lndEst n] else [Reg.lndEvent n])))

/-- JUNCTION_DECISION with at least two healthy voters and no mismatch awaiting judgement. START, both lanes eligible: the
preferred lane has authority. AUTH(x), x releasing and y eligible: y has authority, HANDOVER flagged. AUTH(x), x
releasing, y not eligible, D variant: COAST from now on, no authority. AUTH(x), both holding: x keeps authority, y is
fenced DISPUTE. COAST, the preferred lane eligible: it has authority. In each case the voted value names the lane of
the new state, or none, whatever the third voter drives, and no drive die, channel, gate, rail or port changes. -/
def Obligations.VotersGrantHandOverAndCoast : Prop :=
  ∀ (s : State) (f0 f1 f2 : VoterFault) (x : LaneId), twoHealthy f0 f1 f2 → s.jct.judge = [] →
    ∀ z ∈ [
      (decide (s.jct.state = .start ∧ s.eligible .a = true ∧ s.eligible .b = true), VoterState.auth s.pref),
      (decide (s.jct.state = .auth x ∧ s.claim x = 0 ∧ s.eligible (otherLane x) = true), .auth (otherLane x)),
      (decide (s.jct.state = .auth x ∧ s.claim x = 0 ∧ s.eligible (otherLane x) = false ∧ s.variantS = false), .coast),
      (decide (s.jct.state = .auth x ∧ s.claim x = 2 ∧ s.claim (otherLane x) = 2), .auth x),
      (decide (s.jct.state = .coast ∧ s.eligible s.pref = true), .auth s.pref)], z.1 = true →
    ∃ u, exec (.junctionDecision f0 f1 f2) s = .next u ∧ u.jct.state = z.2
      ∧ u.jct.voted = (match z.2 with | .auth y => votedOf y | _ => .none)
      ∧ (z.2 = .coast → u.jct.coastAt = s.now ∧ s.flagged u Reg.jctEvent 3)
      ∧ (s.jct.state = .auth x → z.2 = .auth (otherLane x) → s.flagged u Reg.jctEvent 1)
      ∧ (s.jct.state = .auth x → z.2 = .auth x → (u.jl (otherLane x)).fence.getLsbD fenceDispute = true ∧ s.flagged u Reg.jctEvent 4)
      ∧ (∀ l, (s.lane l).on = true → (u.lane l).view = u.jct.voted)
      ∧ u.dies = s.dies ∧ s.keeps u hideVote (inBoth voteRegs)

/-- KEEPALIVE_TOGGLE of a lane that runs or stands by, 0.5 µs after the last one or after a loss: the keep-alive is
present from now on. KEEPALIVE_LOSS 2 µs after the last toggle with none waiting, but never of a lane in STANDBY: it
is lost, the lane claims RELEASE and is fenced SILENT, and FENCED is flagged. START_ELIGIBLE_TIMEOUT with the lane
alone eligible in START for 500 ms: it has authority. COAST_SAFE 20 µs into COAST with no lane eligible and no other
command in the cycle: the module enters SAFE, the voted value is SAFE and FLT_SAFE.CAUSE names it in both lanes; with
commands still in the cycle the decision waits for them, and at the end of the cycle SAFE or a lane they made eligible
wins (R20). No drive die, channel, gate, rail or port changes. That a coast that is over is decided at the end of its
cycle is the model's reading (log entry 101). -/
def Obligations.JunctionTimers : Prop :=
  ∀ (s : State) (l : LaneId), s.fitted l = true →
    ((s.lane l).run = .running ∨ (s.lane l).run = .standby → (s.jl l).kaLost = true ∨ (s.jl l).kaAt + 200 ≤ s.now →
      ∃ u, exec (.keepaliveToggle l) s = .next u ∧ (u.jl l).kaAt = s.now ∧ (u.jl l).kaLost = false
        ∧ (u.jl l).fence = (s.jl l).fence ∧ s.keeps u (hideJl l) (inBoth []))
    ∧ ((s.lane l).run = .standby → exec (.keepaliveLoss l) s = .next s.settle)
    ∧ ((s.lane l).run ≠ .standby → (s.jl l).kaLost = false → (s.jl l).kaAt + 800 ≤ s.now → Instr.keepaliveToggle l ∉ s.pending →
      ∃ u, exec (.keepaliveLoss l) s = .next u ∧ (u.jl l).kaLost = true ∧ (u.jl l).fence.getLsbD fenceSilent = true ∧ u.claim l = 0
        ∧ ((s.jl l).fence.getLsbD fenceSilent = false → s.flagged u Reg.jctEvent 2)
        ∧ s.keeps u (hideJl l) (inBoth [Reg.jctEvent]))
    ∧ (∀ t, (s.jl l).eligAt = some t → s.jct.state = .start → t + 200000000 ≤ s.now → s.eligible l = true →
        s.eligible (otherLane l) = false → twoHealthy s.jct.f0 s.jct.f1 s.jct.f2 →
      ∃ u, exec (.startEligibleTimeout l) s = .next u ∧ u.jct.state = .auth l ∧ u.jct.voted = votedOf l
        ∧ s.flagged u Reg.jctEvent 0 ∧ u.dies = s.dies ∧ s.keeps u hideVote (inBoth voteRegs))
    ∧ (s.jct.state = .coast → s.jct.coastAt + 8000 ≤ s.now → s.pending = [] → s.eligible .a = false → s.eligible .b = false →
        s.jct.voted ≠ .safe → twoHealthy s.jct.f0 s.jct.f1 s.jct.f2 →
      ∃ u, exec .coastSafe s = .next u ∧ u.jct.state = .safe ∧ u.jct.voted = .safe
        ∧ (∀ m, (u.lane m).fld Reg.fltSafe 0 8 = Kind.jctCoastSafe.code)
        ∧ u.dies = s.dies ∧ s.keeps u hideVote (inBoth voteRegs))
    ∧ (s.jct.state = .coast → s.jct.coastAt + 8000 ≤ s.now → s.pending ≠ [] →
      ∃ u, exec .coastSafe s = .next u ∧ s.keeps u (fun (t : State) => t.jctUpd fun j => { j with coastOwed := true }) (inBoth []))
    ∧ (s.jct.state = .coast → s.jct.coastOwed = true → s.pending = [] →
        (s.eligible .a = false → s.eligible .b = false → twoHealthy s.jct.f0 s.jct.f1 s.jct.f2 →
          ∃ u, step s = .next u ∧ u.jct.state = .safe ∧ u.jct.voted = .safe)
        ∧ (s.eligible s.pref = true → twoHealthy s.jct.f0 s.jct.f1 s.jct.f2 →
          ∃ u, step s = .next u ∧ u.jct.state = .auth s.pref ∧ u.jct.voted = votedOf s.pref))

/-- AUTHORITY_CHANGE at a die whose value differs from the voted one: the die takes the voted value. SAFE: every event of
the die ends with fast decay, no start waits, a dwelling gate is soft-aborted, a rail controller of the die is OFF,
and no command is kept. No authority: only the value changes. A lane: no held command of it remains, its waiting
starts go on, and a die that keeps no command and has none waiting changes in nothing else. HELD_COMMAND_EXPIRY: the
die keeps all commands but those held for more than 20 µs. No other die changes. -/
def Obligations.AuthorityTakesEffectAtADie : Prop :=
  ∀ (s : State) (d : Fin 12),
    ((s.die d).auth ≠ s.jct.voted →
      ∃ u, exec (.authorityChange d) s = .next u ∧ (u.die d).auth = s.jct.voted
        ∧ (s.jct.voted = .safe → (u.die d).store = []
          ∧ (∀ i : Fin 16, (u.chan (16 * d + i)).wait = none ∧ (u.chan (16 * d + i)).ev = none
              ∧ ((s.chan (16 * d + i)).ev.isSome = true → (u.chan (16 * d + i)).state = .decay ∧ (u.chan (16 * d + i)).decayFast = true))
          ∧ (∀ j : Fin 4, (s.gate (4 * d + j)).state = .dwell → (u.gate (4 * d + j)).state = .soft)
          ∧ (d.val % 3 = 0 → (u.rail (d / 3)).state = .off ∧ (u.rail (d / 3)).fet = false))
        ∧ (s.jct.voted = .none ∨ (s.die d).store = [] ∧ s.jct.voted ≠ .safe ∧ (∀ i : Fin 16, (s.chan (16 * d + i)).wait = none) → u.die d = { s.die d with auth := s.jct.voted }
          ∧ u.chans = s.chans ∧ u.gates = s.gates)
        ∧ (∀ l, s.jct.voted = votedOf l → ((u.die d).store.all fun x => !(x.lane == l && x.held)) = true)
        ∧ s.keeps u (hideDie d ∘ hideRail (d / 3) ∘ hideBlank ∘ hideFree ∘ hideFaults ∘ hideOpens d ∘ hideInBoth fun L =>
              { L with landingQ := [], chargeQ := [], railSent := putBit L.railSent (d / 3) false, triples := Vector.replicate 4 ⟨0, 0, 0⟩, tripleBad := 0 })
            (inBoth (Reg.memTriple :: Reg.memEvent :: Reg.jctEvent :: dieRegs d
              ++ (List.range 4).flatMap (fun i => [Reg.ignLast (4 * d + i), Reg.ignLate (4 * d + i), Reg.quadConf (4 * d + i)])
              ++ (List.range 16).map (fun i => Reg.chnPeakt (16 * d + i)) ++ [Reg.bstMin (d / 3), Reg.bstEvent (d / 3)])))
    ∧ (∃ u, exec (.heldCommandExpiry d) s = .next u
        ∧ u.die d = { s.die d with store := (s.die d).store.filter fun c => !(c.held && decide (c.arrived + 8000 < s.now)) }
        ∧ s.keeps u (fun (t : State) => t.dieUpd d fun x => { x with store := [] }) (inBoth []))

/-- SPEED_WORD: the die holds the lane's speed word, and from the authority lane of the D variant the comparison state and
the fenced lane; a frame that fails its link check changes nothing. COMPARE_WINDOW_EXPIRY: while the die compares, a
compared command kept for 10 µs without a partner, none arriving in this cycle, is a mismatch (flagged, kept for
judgement beside those that wait), and commands past the window that are not held leave the die.
MISMATCH_JUDGEMENT_TIMEOUT 2 µs after a mismatch with no lane releasing: with MIS_POL 1 the module enters SAFE, with
MIS_POL 0 it goes on; only mismatches that are younger await judgement then. COMPARISON_ON when every enabled route
has begun two cycles in both lanes and the other conditions hold: comparison is active. -/
def Obligations.ComparisonOfCommands : Prop :=
  ∀ (s : State) (l : LaneId) (d : Fin 12),
    (s.runs l →
      ∃ u, exec (.speedWord l ⟨d, false⟩) s = .next u
        ∧ (if l = .a then (u.die d).speedA else (u.die d).speedB) = (s.lane l).speedWord
        ∧ (s.variantS = false → s.jct.voted = votedOf l → (u.die d).cmpOn = s.jct.cmpOn
            ∧ (u.die d).fencedLane = (if s.fence (otherLane l) = 0 then none else some (otherLane l)))
        ∧ (u.die d).store = (s.die d).store ∧ (u.die d).auth = (s.die d).auth
        ∧ s.keeps u (fun (t : State) => t.dieUpd d fun _ => {}) (inBoth []))
    ∧ (s.runs l → ∃ u, exec (.speedWord l ⟨d, true⟩) s = .next u ∧ s.keeps u hideNone (inBoth []))
    ∧ (∃ u, exec (.compareWindowExpiry d) s = .next u
        ∧ ((u.die d).store.all fun x => x.held || !s.overWindow d x) = true
        ∧ ((s.die d).store.filter fun x => !s.overWindow d x) = ((u.die d).store.filter fun x => !s.overWindow d x)
        ∧ ((s.die d).cmpOn = true → ((s.die d).store.any fun x => x.open_ && s.overWindow d x) = true →
            s.flagged u Reg.jctEvent 7 ∧ (s.now, d.val) ∈ u.jct.judge)
        ∧ (∀ m ∈ s.jct.judge, m ∈ u.jct.judge)
        ∧ s.keeps u ((fun (t : State) => t.dieUpd d fun x => { x with store := [] }) ∘ fun (t : State) => t.jctUpd fun j => { j with judge := [] })
            (inBoth [Reg.jctMismatch, Reg.jctCnt, Reg.jctEvent]))
    ∧ (∀ j ∈ s.jct.judge, j.1 + 800 ≤ s.now → s.claim .a ≠ 0 → s.claim .b ≠ 0 → twoHealthy s.jct.f0 s.jct.f1 s.jct.f2 →
      let pol := (s.lane ((votedLane s.jct.voted).getD s.pref)).bit Reg.jctCmp 31
      ∃ u, exec .mismatchJudgementTimeout s = .next u ∧ u.jct.judge = (s.jct.judge.filter fun m => decide (s.now < m.1 + 800))
        ∧ (pol = true → u.jct.state = .safe ∧ u.jct.voted = .safe ∧ u.dies = s.dies ∧ s.keeps u hideVote (inBoth voteRegs))
        ∧ (pol = false → u.jct.state = s.jct.state ∧ u.jct.voted = s.jct.voted ∧ u.chans = s.chans ∧ u.gates = s.gates
            ∧ s.keeps u ((fun (t : State) => { t with dies := t.dies.map fun (x : Die) => { x with store := [] } }) ∘ hideFaults
                ∘ fun (t : State) => t.jctUpd fun j => { j with judge := [] }) (inBoth [Reg.fltLost])))
    ∧ (s.cmpBase = true → s.jct.cmpOk = true →
        (∀ m, ((List.range 240).all fun r => decide (2 ≤ ((s.lane m).route r).cmpCycles) || !((s.lane m).route r).en && !(s.lane m).liveEn r) = true) →
      ∃ u, exec .comparisonOn s = .next u ∧ u.jct.cmpOn = true ∧ s.keeps u hideNone (inBoth []))

/-- Written in the authority lane of the D variant. The release key 0xA5F0: the other lane loses the causes SILENT and
DISPUTE and no others and may take part again; another value changes nothing. The handover key 0x5A0F, the other lane
claiming STANDBY, the mirror LINKED and comparison active, with two healthy voters: the other lane has authority,
HANDOVER flagged and counted. Where a condition fails HAND_REJ is flagged and authority stays. No drive die, channel,
gate, rail or port changes. -/
def Obligations.ReleaseAndHandover : Prop :=
  ∀ (s : State) (l : LaneId) (v : Word), s.takesWrite l Reg.jctFence → s.variantS = false →
    (bits v 16 16 = 0xA5F0 → s.jct.voted = votedOf l →
      ∃ u, exec (.release l v) s = .next u
        ∧ (u.jl (otherLane l)).fence = (s.jl (otherLane l)).fence &&& 0x1C ∧ (u.lane (otherLane l)).silenced = false
        ∧ s.keeps u (hideJl (otherLane l) ∘ hideIn (otherLane l) fun L => { L with silenced := false }) (inBoth []))
    ∧ (bits v 16 16 ≠ 0xA5F0 → ∃ u, exec (.release l v) s = .next u ∧ s.keeps u hideNone (inBoth []))
    ∧ (bits v 16 16 = 0x5A0F →
      let ok := s.jct.voted = votedOf l ∧ s.jct.state = .auth l ∧ s.claim l = 2 ∧ s.claim (otherLane l) = 1 ∧ s.mirror = .linked
        ∧ s.jct.cmpOn = true
      (ok → s.jct.judge = [] → twoHealthy s.jct.f0 s.jct.f1 s.jct.f2 →
        ∃ u, exec (.handover l v) s = .next u ∧ u.jct.state = .auth (otherLane l) ∧ u.jct.voted = votedOf (otherLane l)
          ∧ s.flagged u Reg.jctEvent 1
          ∧ (∀ m, (s.lane m).on = true → (u.lane m).fld Reg.jctCnt 24 8 = min ((s.lane m).fld Reg.jctCnt 24 8 + 1) 255)
          ∧ u.dies = s.dies ∧ s.keeps u hideVote (inBoth voteRegs))
      ∧ (s.jct.voted ≠ votedOf l ∨ s.eligible (otherLane l) = false ∨ s.mirror ≠ .linked ∨ s.jct.cmpOn = false →
        ∃ u, exec (.handover l v) s = .next u ∧ (u.lane l).bit Reg.jctEvent 10 = true ∧ s.keeps u hideNone (inLane l [Reg.jctEvent])))

/-- HEARTBEAT: the lane keeps it and the missed count is 0; DOWN becomes TRAIN, and TRAIN becomes UP with the 16th
consecutive one in both lanes. HEARTBEAT_SEND 1 µs after the last one: a heartbeat with the lane's state, the number
of its image as the triplicated item votes it, goes to the other lane. HEARTBEAT_MISSED after an empty slot: the
missed count rises; the fourth takes UP to DOWN and TRAIN to DOWN. RETRY with the link UP and a frame of the lane
unacknowledged for 1 µs (one frame in flight at a time is the model's choice, log entry 108), its arrival not waiting:
the frame's failures are counted; the fourth takes the link DOWN. Of both, a frame that came with a bad CRC counts in
FRAME_ERR of the lane that received it. DOWN: the mirror is SOLO, DOWN is flagged in both lanes, and the lane that
does not stay in service is fenced XWK. Unless the link goes DOWN no request at a port and nothing beside the
Crosswalk changes. That a frame came damaged is an operand of the row (log entry 86). -/
def Obligations.HeartbeatsMoveTheLink : Prop :=
  ∀ (s : State) (l : LaneId) (bad : Bool), s.runs l →
    let L := s.lane l
    let r := otherLane l
    let more := fun (x : Lane) => min (x.fld Reg.xwkCnt 0 16 + if bad && x.on then 1 else 0) 0xFFFF
    let down := fun (u : State) => u.link = .down ∧ u.mirror = .solo ∧ s.flagged u Reg.xwkEvent 0
      ∧ (u.jl (otherLane s.stays)).fence.getLsbD fenceXwk = true
    (∀ m, L.xwk.rx.head? = some m → m.isHb = true →
      ∃ u, exec (.heartbeat l) s = .next u ∧ (u.lane l).xwk.hb.map XMsg.heartbeat = some m ∧ (u.lane l).xwk.missed = 0
        ∧ u.link = (match s.link with
          | .down => .train
          | .up => .up
          | .train => if 16 ≤ L.xwk.good + 1 ∧ 16 ≤ (s.lane (otherLane l)).xwk.good then .up else .train)
        ∧ (u.link = .up → s.link = .train → s.flagged u Reg.xwkEvent 1)
        ∧ s.keeps u (hideXwk ∘ hideLinkState ∘ hideTriples ∘ hideFaults) (inBoth (Reg.xwkEvent :: tripleRegs)) ∧ u.mirror = s.mirror)
    ∧ (s.variantS = false → L.xwk.sentAt + 400 ≤ L.time →
      ∃ u, exec (.heartbeatSend l) s = .next u ∧ (u.lane l).xwk.sentAt = L.time
        ∧ ((s.lane (otherLane l)).on = true → ((u.lane (otherLane l)).xwk.rx.any fun m => match m with
            | .heartbeat h => h.ready == L.ready && h.odo == L.odo.state && h.angle == L.odo.word && h.cycle == L.odo.cycle
                && h.claim == BitVec.ofNat 2 (s.claim l) && h.seq == (L.readTriple 3).ownSeq
            | _ => false) = true)
        ∧ s.keeps u (hideXwk ∘ hideTriples ∘ hideFaults) (inLane l tripleRegs))
    ∧ (s.variantS = false → (L.xwk.rx.any XMsg.isHb) = false → Instr.heartbeat l ∉ s.pending → L.xwk.slotAt + 400 ≤ L.time →
      ∃ u, exec (.heartbeatMissed l bad) s = .next u ∧ (u.lane l).xwk.missed = min (L.xwk.missed + 1) 4
        ∧ (L.xwk.missed < 3 → u.link = s.link ∧ (u.lane l).fld Reg.xwkCnt 0 16 = more L ∧ (u.lane l).fld Reg.xwkCnt 16 16 = L.fld Reg.xwkCnt 16 16
            ∧ s.keeps u hideXwk (inLane l [Reg.xwkCnt]))
        ∧ (3 ≤ L.xwk.missed → s.link = .up → down u) ∧ (3 ≤ L.xwk.missed → u.link = .down))
    ∧ (s.link ≠ .up ∨ s.outstanding l = false ∨ s.now < L.xwk.frameAt + 400 → ∃ u, exec (.retry l bad) s = .next u ∧ s.keeps u hideNone (inBoth []))
    ∧ (s.link = .up → s.outstanding l = true → s.frameSoon l = false → L.xwk.frameAt + 400 ≤ s.now →
      ∃ u, exec (.retry l bad) s = .next u
        ∧ (L.xwk.retries < 3 → (u.lane l).xwk.retries = L.xwk.retries + 1 ∧ (u.lane l).bit Reg.xwkEvent 2 = true
            ∧ (u.lane l).fld Reg.xwkCnt 16 16 = min (L.fld Reg.xwkCnt 16 16 + 1) 0xFFFF
            ∧ (u.lane l).fld Reg.xwkCnt 0 16 = L.fld Reg.xwkCnt 0 16 ∧ (u.lane r).fld Reg.xwkCnt 0 16 = more (s.lane r)
            ∧ (u.lane r).fld Reg.xwkCnt 16 16 = (s.lane r).fld Reg.xwkCnt 16 16
            ∧ s.keeps u hideXwk fun k => inLane l [Reg.xwkEvent, Reg.xwkCnt] k ++ inLane r [Reg.xwkCnt] k)
        ∧ (3 ≤ L.xwk.retries → down u))

/-- The first frame that arrived for lane l. FORWARDED_WRITE, no initialisation of the arrays under way: the lane writes
the bytes as the forwarding host would, and acknowledges. FORWARD_ACK of a write of an own host: the write completes
with OK at its port and its round trip is shown. REMOTE_ACCESS, a read, no initialisation of the arrays under way: the
lane reads the bytes, after the writes of the cycle to their words (R279), and sends status, INFO and data.
REMOTE_RESPONSE: the request at its port completes with the status and data that came, and ABORT is flagged where that
is ABORTED. The frame and the sender's count of failures are gone. -/
def Obligations.FramesOfTheOtherLane : Prop :=
  ∀ (s : State) (l : LaneId) (p : Fin 4), s.runs l →
    let front := (s.lane l).xwk.rx.head?
    let idle : Prop := ∀ q : Fin 4, ((s.port q).reqs.any Req.isHeld) = false
    (∀ x, (front.bind fun m => match m with | .fwdWrite n q a bs => some (n, q, a, bs) | _ => none) = some x →
        (s.lane l).waitsInit x.2.2.1 x.2.2.2.length = false →
      let t := ((s.took l).writeBlock l (.host (portFin x.2.1)) x.2.2.1 x.2.2.2).1
      exec (.forwardedWrite l) s = .next (State.settle (t.upd l fun L =>
        if L.on then { L with xwk := { L.xwk with tx := L.xwk.tx ++ [XMsg.fwdAck x.1] } } else L)))
    ∧ (∀ n, (front.bind fun m => match m with | .fwdAck n => some n | _ => none) = some n →
      ∀ w, (s.lane l).xwk.unacked.find? (fun w => w.num == n) = some w → w.viaRemote = false → w.port = p.val →
        ((s.port p).reqs.any fun r => r.tag == w.tag) = true →
      ∃ u, exec (.forwardAck l) s = .next u ∧ ((u.port p).queue.any fun r => r.tag == w.tag && r.status == 0) = true
        ∧ (idle → (u.lane l).xwk.unacked = (s.lane l).xwk.unacked.filter (fun x => x.num != n)
            ∧ (u.lane l).fld Reg.xwkLat 0 16 = satNat (((s.lane l).time - w.sentAt) / 4) 16
            ∧ s.keeps u (hideXwk ∘ hidePort p) (inLane l [Reg.xwkLat])))
    ∧ (∀ r, (front.bind fun m => match m with | .remote r => some r | _ => none) = some r → r.isWrite = false → s.reaches l →
        (s.lane l).waitsInit r.addr r.len = false → idle →
      let q := ((s.took l).writesFirst l r.addr r.len).readBlock l r.addr r.len (1 + r.port)
      let ans := readAnswer q.2.2.1 q.2.1 q.2.2.2
      ∃ u, exec (.remoteAccess l) s = .next u
        ∧ ((q.1.lane l).on = true → (q.1.lane (otherLane l)).on = true →
            ((u.lane (otherLane l)).xwk.rx.any fun m => m == .response r.port r.tag ans.1 ans.2.2 ans.2.1) = true))
    ∧ (∀ x, (front.bind fun m => match m with | .response q t st i d => some (q, t, st, i, d) | _ => none) = some x → x.1 = p.val →
        ∀ (isW : Bool) (a : Nat), ((s.port p).reqs.any fun r => r.tag == x.2.1 && r.kind == .remote isW a) = true →
      ∃ u, exec (.remoteResponse l) s = .next u
        ∧ ((u.port p).queue.any fun r => r.tag == x.2.1 && r.status == x.2.2.1 && r.data == x.2.2.2.2) = true
        ∧ (idle → s.keeps u (hideXwk ∘ hidePort p) (inBoth [Reg.hstSolo p, Reg.hstEvent p]))
        ∧ (x.2.2.1 = 6 → idle → (u.lane (laneOfPort p)).bit (Reg.hstEvent p) 3 = true))

/-- REJOIN_COPY with a frame of the copy first to be taken: the lane stores it (bytes of the arrays, poison included; the
RW fields of the registers of a range in which no function starts; banks, detours and pending commits; or cuts), both
lanes' counts rise by its size, and the next frame is due. REJOIN_DONE after the last: the mirror is LINKED in both
lanes and the lane loses XWK and REJOIN. DIGEST_EXCHANGE with the link UP and both reports made: the other lane's
number and digest are shown; equal digests clear DIGEST in both lanes; of different ones the lane with the lower
number, or the lane not preferred, is fenced DIGEST, and the mirror is SOLO while the other lane holds what it
reported. The lane's own number and digest are those of the triplicated item. The pieces of the copy, what it takes,
and the clearing of the winner's DIGEST cause are the model's (log entries 64, 69 and 98). -/
def Obligations.RejoinAndDigests : Prop :=
  ∀ (s : State) (l : LaneId), s.runs l →
    (∀ c, ((s.lane l).xwk.rx.head?.bind fun m => match m with | .copy c => some c | _ => none) = some c →
        ∀ i, (s.lane l).xwk.copyNext = some i →
      ∃ u, exec (.rejoinCopy l) s = .next u ∧ (u.lane l).xwk.copyNext = some (i + 1)
        ∧ (∀ m, (s.lane m).on = true → (u.lane m).xwk.progress = (s.lane m).xwk.progress + c.size)
        ∧ s.copied u l c)
    ∧ (∀ i, (s.lane l).xwk.copyNext = some i → (s.lane (otherLane l)).copyPlan.length ≤ i →
      ∃ u, exec (.rejoinDone l) s = .next u ∧ u.mirror = .linked ∧ (u.lane l).xwk.copyNext = none ∧ s.flagged u Reg.xwkEvent 5
        ∧ (u.jl l).fence = (s.jl l).fence &&& 0x7 ∧ s.keeps u (hideXwk ∘ hideLinkState ∘ hideJl l) (inBoth [Reg.xwkEvent])
        ∧ u.link = s.link)
    ∧ (∀ r, (s.lane l).xwk.digestIn = some r → s.link = .up → (s.lane l).reported.isSome = true →
      let T := (s.lane l).readTriple 3
      let own := T.ownDigest
      let win := if T.ownSeq = r.1 then s.pref else if r.1.toNat < T.ownSeq.toNat then l else otherLane l
      ∃ u, exec (.digestExchange l) s = .next u ∧ (u.lane l).reg Reg.xwkOtherSeq = r.1 ∧ (u.lane l).xwk.exchanged = true
        ∧ (own = r.2 → (u.jl .a).fence.getLsbD fenceDigest = false ∧ (u.jl .b).fence.getLsbD fenceDigest = false)
        ∧ (own ≠ r.2 → (u.jl (otherLane win)).fence.getLsbD fenceDigest = true ∧ (u.jl win).fence.getLsbD fenceDigest = false
            ∧ (r.2 = (s.lane (otherLane l)).ownDigest → u.mirror = .solo) ∧ (u.lane l).bit Reg.jctEvent 8 = true)
        ∧ u.chans = s.chans ∧ u.gates = s.gates ∧ u.rails = s.rails ∧ u.dies = s.dies ∧ u.ports = s.ports ∧ u.link = s.link)

/-- CRANK_EDGE not accepted: at most its lobe arms the input, and the filter keeps the level it holds. A lobe of the
arming polarity above T arms and records its peak; an accepted edge reaches a lane that tracks a secondary. A tooth of
the active sensor in the confirmed direction, no contrary tooth before it, the lane not in IDLE, nothing of R42 before
it. STOPPED: SEEK, the edge is edge 1. SEEK or LOST, GAP_FOUND with enough gaps: FULL_SYNC with the angle word at M on
a two-stroke engine, CRANK_SYNC at position 1 on a four-stroke one, and only ASTERN_BLOCK where the direction is not
permitted. FULL_SYNC on the primary: the expected result ends the span at the stamp, with its period, the position,
the normalised period, the prediction, EARLY and LATE; another result takes the angle word on in HOLD, or switches the
sensor where permitted. A contrary tooth that confirms nothing only counts. How transitions come and wait in a cycle,
and where counts saturate, are the model's (log entries 88 and 92). -/
def Obligations.CrankEdgesSearchAndTrack : Prop :=
  ∀ (s : State) (l : LaneId) (sec : Bool) (e : EdgeIn) (stamp : Nat), s.runs l → s.odoCalm l →
    let L := s.lane l
    let o := L.odo
    let act := L.active s.variantS
    let r := L.edgeResult act stamp
    let odo := fun (u : State) => (u.lane l).odo
    (L.crankTakes s.variantS sec e = false →
      exec (.crankEdge l sec e) s = .next (if sec then s else s.upd l fun L => (L.lobe false e).filterIn false e).settle)
    ∧ (L.odoEn = true → L.hallIn false = false → L.inPolarity false e = true → L.armLevel o.pri.armed < e.peak →
      ∃ u, exec (.crankEdge l false e) s = .next u ∧ (u.lane l).fld Reg.odoVrpeak 0 12 = min (e.peak / 10) 0xFFF)
    ∧ (L.crankTakes s.variantS false e = true → (s.lane (otherLane l)).on = true → (s.lane (otherLane l)).odoEn = true →
        (s.lane (otherLane l)).secEn s.variantS = true →
      ∃ u, exec (.crankEdge l false e) s = .next u
        ∧ (u.lane (otherLane l)).odo.secIn = (s.lane (otherLane l)).odo.secIn
            ++ [⟨(s.lane (otherLane l)).time - L.dIn, L.inPolarity false e, if L.inPolarity false e then 0 else e.width⟩])
    ∧ (s.tracks l e stamp → o.state = .stopped →
      ∃ u, exec (.crankEdge l act e) s = .next u ∧ (odo u).state = .seek ∧ (odo u).actSec = act
        ∧ ((odo u).sensor act).edges = 1 ∧ ((odo u).sensor act).last = stamp ∧ s.keeps u (hideOdo l) (inLane l odoRegs))
    ∧ (s.tracks l e stamp → o.state = .seek ∨ o.state = .lost → 2 ≤ (o.sensor act).edges → r = .gapFound →
        L.fld Reg.odoGapratio 30 2 < (if 0 < (o.sensor act).gaps ∧ (o.sensor act).k + 1 = L.odoN - L.odoG then (o.sensor act).gaps + 1 else 1) →
      ∃ u, exec (.crankEdge l act e) s = .next u
        ∧ (o.dir = true → L.bit Reg.odoDir 29 = false → (odo u).state = o.state ∧ (u.lane l).bit Reg.odoEvent 5 = true
            ∧ s.keeps u (hideOdo l) (inLane l odoRegs))
        ∧ (o.dir = false ∨ L.bit Reg.odoDir 29 = true → L.fourStroke = true →
            (odo u).state = .crankSync ∧ (odo u).pos = 1 ∧ (u.lane l).bit Reg.odoEvent 1 = true
              ∧ s.keeps u (hideOdo l) (inLane l odoRegs))
        ∧ (o.dir = false ∨ L.bit Reg.odoDir 29 = true → L.fourStroke = false →
            (odo u).state = .fullSync ∧ (odo u).word = L.odoM ∧ (odo u).milestone = 1 ∧ (odo u).t0 = stamp ∧ (odo u).routeSet = o.dir
              ∧ (s.link ≠ .up → (odo u).cycle = 0) ∧ (u.lane l).bit Reg.odoEvent 2 = true))
    ∧ (s.tracks l e stamp → o.state = .fullSync → o.actSec = false → o.byVirt = false →
      let adv := L.spanLen (o.pos % L.odoN)
      let np := (o.pos + adv) % L.cyclePos
      let P := min (stamp - o.t0) u32max
      ∃ u, exec (.crankEdge l false e) s = .next u ∧ s.keeps u (hideOdo l) (inLane l odoRegs)
        ∧ (odo u).word = o.word ∧ (odo u).ang = o.ang ∧ (odo u).cycle = o.cycle
        ∧ (r = expectedAt (np % L.odoN) →
            (odo u).state = .fullSync ∧ (odo u).pos = np ∧ (odo u).base = o.base + adv * L.odoM ∧ (odo u).t0 = stamp
              ∧ (odo u).q0 = o.q1 ∧ (odo u).q1 = L.normal (o.pos % L.odoN) adv P ∧ (odo u).sp = L.spanLen (np % L.odoN)
              ∧ (np % L.odoN ≠ 0 → (odo u).pp = L.predict o.q1 (odo u).q1 (np % L.odoN) (odo u).sp)
              ∧ (u.lane l).reg Reg.odoPeriod = BitVec.ofNat 32 P ∧ (u.lane l).reg Reg.odoPred = BitVec.ofNat 32 (odo u).pp
              ∧ (o.ang < o.base + adv * L.odoM - 1 → (u.lane l).bit Reg.odoEvent2 0 = true)
              ∧ (o.pp < P → (u.lane l).bit Reg.odoEvent2 1 = true))
        ∧ (r ≠ expectedAt (np % L.odoN) → (u.lane l).bit Reg.odoEvent 9 = true
            ∧ (u.lane l).fld Reg.odoSynccnt 0 8 = min (L.fld Reg.odoSynccnt 0 8 + 1) 255
            ∧ (L.switchOk s.variantS true = true → (odo u).state = .fullSync ∧ (odo u).actSec = true ∧ (u.lane l).bit Reg.odoEvent 8 = true)
            ∧ (L.switchOk s.variantS true = false → (odo u).state = .hold ∧ (odo u).sp = 1 ∧ (odo u).pp = o.pp / max o.sp 1
                ∧ (u.lane l).bit Reg.odoEvent 3 = true)))
    ∧ (L.toothSeen s.variantS e = some (stamp, !o.dir) → o.state ≠ .stopped →
        o.contrary.length < L.fld Reg.odoDir 26 2 →
      ∃ u, exec (.crankEdge l act e) s = .next u ∧ (odo u).contrary = o.contrary ++ [stamp] ∧ (odo u).state = o.state
        ∧ (odo u).pos = o.pos ∧ (odo u).base = o.base ∧ (odo u).t0 = o.t0 ∧ (odo u).dir = o.dir
        ∧ (L.power.idle = false → s.keeps u (hideOdo l) (inLane l odoRegs)))

/-- Where nothing of R42 comes before. DIRECTION_CONFIRMED: the direction turns; a commanded reversal sets REV_DONE and
leads to SEEK, an unexpected one REV_UNEXP and leads to LOST from a valid angle word, else to SEEK; channels, gates,
rails, dies and ports stay. CAM_EDGE of a one-tooth cam without pulse width: with no crank edge waiting, in CRANK_SYNC
a reference in window fixes the phase, one outside it sets CAM_CONFLICT; in FULL_SYNC one outside sets CAM_CONFLICT
and counts consecutive cycles; with one waiting it waits for it. CAM_MISS, the window passed and to be judged: the
flag, the phase kept. CAM_SILENT after two revolutions: the flag. CONFLICT_LIMIT: LOST. VIRTUAL_EDGE due: the span
starts at its milestone and time. Only lane l changes. Which row brings the confirming edge, and the order of edges in
a cycle, are the model's (log entries 76 and 92). -/
def Obligations.ReversalsAndCamEdges : Prop :=
  ∀ (s : State) (l : LaneId) (e : EdgeIn), s.runs l → s.odoCalm l →
    let L := s.lane l
    let o := L.odo
    let odo := fun (u : State) => (u.lane l).odo
    let same := fun (u : State) => u.chans = s.chans ∧ u.gates = s.gates ∧ u.rails = s.rails ∧ u.dies = s.dies ∧ u.ports = s.ports
    let n := L.odoN
    let lo := L.fld Reg.odoCamwin 0 11
    let hi := L.fld Reg.odoCamwin 16 11
    let first := s.crankSoon l (some (L.active s.variantS))
    (L.confirms s.variantS e = true →
      let com := (!o.dir) == L.bit Reg.odoCtrl 4
      ∃ u, exec (.directionConfirmed l e) s = .next u ∧ (odo u).dir = (!o.dir) ∧ (odo u).contrary = []
        ∧ (odo u).state = (if o.valid && !com then .lost else .seek) ∧ (u.lane l).bit Reg.odoEvent (if com then 6 else 7) = true ∧ same u)
    ∧ (L.confirms s.variantS e = false → exec (.directionConfirmed l e) s = .next s.settle)
    ∧ (L.camTakes e = true → L.fld Reg.odoWheel 22 2 = 1 → L.pulseWidth = false →
      ∃ u, exec (.camEdge l e) s = .next u ∧ s.keeps u (hideOdo l) (inLane l odoRegs) ∧ (odo u).state = o.state ∧ (odo u).word = o.word
        ∧ (first = true → (odo u).camWait = o.camWait ++ [L.time - L.dIn] ∧ (odo u).phaseOfs = o.phaseOfs)
        ∧ (first = false → o.state = .crankSync → lo % n ≤ o.pos → o.pos ≤ hi % n →
            (odo u).phaseOfs = some ((lo / n * n + o.pos + L.cyclePos * (o.absPos / L.cyclePos + 1) - o.absPos) % L.cyclePos))
        ∧ (first = false → o.state = .crankSync → ¬ (lo % n ≤ o.pos ∧ o.pos ≤ hi % n) →
            (u.lane l).bit Reg.odoEvent 11 = true ∧ (odo u).phaseOfs = o.phaseOfs)
        ∧ (first = false → o.state = .fullSync → ¬ (lo ≤ o.pos ∧ o.pos ≤ hi) → (u.lane l).bit Reg.odoEvent 11 = true
            ∧ (o.conflictAt = none → (odo u).conflicts = 1)))
    ∧ (∀ k, o.camOpen = some k → o.state = .fullSync → L.fld Reg.odoWheel 22 2 = 1 ∨ o.camJudge = true ∨ n ≤ k →
      ∃ u, exec (.camMiss l) s = .next u ∧ (u.lane l).bit Reg.odoEvent 10 = true ∧ (odo u).camOpen = none
        ∧ (odo u).state = .fullSync ∧ (odo u).pos = o.pos ∧ s.keeps u (hideOdo l) (inLane l [Reg.odoEvent, Reg.fltLost]))
    ∧ (o.state = .crankSync → o.camFrom + 2 * n ≤ o.absPos →
      ∃ u, exec (.camSilent l) s = .next u ∧ (u.lane l).bit Reg.odoEvent 12 = true ∧ (odo u).state = .crankSync
        ∧ s.keeps u (hideOdo l) (inLane l [Reg.odoEvent]))
    ∧ (o.state = .fullSync → 0 < L.fld Reg.odoCamwin 28 4 → L.fld Reg.odoCamwin 28 4 ≤ o.conflicts → s.edgeMoves l = false →
      ∃ u, exec (.conflictLimit l) s = .next u ∧ (odo u).state = .lost ∧ (odo u).word = s.lastWord l ∧ (u.lane l).bit Reg.odoEvent 4 = true
        ∧ (u.lane l).fld Reg.odoSynccnt 24 8 = min (L.fld Reg.odoSynccnt 24 8 + 1) 255 ∧ same u)
    ∧ (∀ v, o.virt.head? = some v → v.1 ≤ L.time → o.state = .fullSync → v.2 < n → o.pos < L.cyclePos →
      ∃ u, exec (.virtualEdge l) s = .next u ∧ (odo u).virt = o.virt.tail ∧ (odo u).t0 = v.1 ∧ (odo u).pos % n = v.2
        ∧ (odo u).state = .fullSync ∧ (odo u).word = o.word ∧ s.keeps u (hideOdo l) (inLane l odoRegs))

/-- Where nothing of R42 comes before. STALL, the active sensor timed out, no edge of it waiting, and the other sensor not
tracked or timed out too: STOPPED with STALL, the angle word kept but for a micro-tick of the same TCLK. SILENT, 4
teeth of the other sensor without one of this: it is silent, flagged, and its agreement is gone. HOLD_SPAN_END at t0 +
Pp in HOLD: the next position begins there with the same period, ODO_PERIOD and ODO_PRED take it, and a word short of
the last micro-tick catches up, EARLY. HOLD_LIMIT with that many milestones in HOLD: LOST, flagged and counted, the
angle word kept. Channels, gates, rails, dies and ports stay. That SILENT by four teeth changes no state by itself is
the model's reading (log entry 80). -/
def Obligations.StallSilenceAndHold : Prop :=
  ∀ (s : State) (l : LaneId) (sec : Bool), s.runs l → s.odoCalm l →
    let L := s.lane l
    let o := L.odo
    let odo := fun (u : State) => (u.lane l).odo
    let same := fun (u : State) => u.chans = s.chans ∧ u.gates = s.gates ∧ u.rails = s.rails ∧ u.dies = s.dies ∧ u.ports = s.ports
    (o.state ≠ .stopped → (o.sensor o.actSec).seen.isSome = true → L.timedOut o.actSec = true → s.crankSoon l (some o.actSec) = false →
        L.secEn s.variantS = false ∨ (L.timedOut (!o.actSec) = true ∧ s.crankSoon l (some !o.actSec) = false) →
      ∃ u, exec (.stall l) s = .next u ∧ (odo u).state = .stopped ∧ (odo u).ang = o.ang + s.lastTicks l ∧ (odo u).word = s.lastWord l
        ∧ (odo u).dir = o.dir ∧ (odo u).routeSet = o.routeSet ∧ (odo u).camLock = false ∧ (odo u).pri.edges = 0 ∧ (odo u).sec.edges = 0
        ∧ (u.lane l).bit Reg.odoEvent 0 = true ∧ same u ∧ (o.valid = false → s.keeps u (hideOdo l) (inLane l odoRegs)))
    ∧ (L.odoEn = true → L.secEn s.variantS = true → (o.sensor sec).silent = false → 4 ≤ (o.sensor sec).noEdge →
      ∃ u, exec (.silent l sec) s = .next u
        ∧ (odo u) = o.setSensor sec { o.sensor sec with silent := true, lock := false, agree := false, agreeRun := 0 }
        ∧ (u.lane l).bit Reg.odoEvent (if sec then 14 else 13) = true
        ∧ s.keeps u (hideOdo l) (inLane l [Reg.odoEvent, Reg.fltLost]))
    ∧ (o.state = .hold → o.t0 + o.pp ≤ L.time →
      ∃ u, exec (.holdSpanEnd l) s = .next u
        ∧ (odo u).state = .hold ∧ (odo u).base = o.base + L.odoM ∧ (odo u).t0 = o.t0 + o.pp ∧ (odo u).pos = (o.pos + 1) % L.cyclePos
        ∧ (odo u).sp = 1 ∧ (odo u).pp = o.pp ∧ (odo u).ang = o.ang ∧ (odo u).word = o.word
        ∧ (odo u).catchup = (o.catchup || decide (o.ang + 1 < o.base + L.odoM))
        ∧ (o.ang + 1 < o.base + L.odoM → (u.lane l).bit Reg.odoEvent2 0 = true)
        ∧ (u.lane l).reg Reg.odoPeriod = BitVec.ofNat 32 o.pp ∧ (u.lane l).reg Reg.odoPred = BitVec.ofNat 32 o.pp
        ∧ s.keeps u (hideOdo l) (inLane l [Reg.odoPeriod, Reg.odoPred, Reg.odoEvent2]))
    ∧ (o.state = .hold → max 1 (L.fld Reg.odoTimeout 16 6) ≤ o.holdCount → s.edgeMoves l = false →
      ∃ u, exec (.holdLimit l) s = .next u ∧ (odo u).state = .lost ∧ (odo u).word = s.lastWord l ∧ (s.lastTicks l = 0 → (odo u).cycle = o.cycle)
        ∧ (u.lane l).bit Reg.odoEvent 4 = true
        ∧ (u.lane l).fld Reg.odoSynccnt 24 8 = min (L.fld Reg.odoSynccnt 24 8 + 1) 255 ∧ same u)

/-- ODO_ENABLE (RESYNC 0), the Odometer not enabled: with a good description EN is set and the state is STOPPED; else EN
stays 0 and CFG_REJ is set. ODO_DISABLE, enabled: EN is 0 and the state STOPPED with STALL. RESYNC, enabled and not
STOPPED: SEEK, the angle word kept. ODO_CONFIG_WRITE: written while EN is 0, only CFG_REJ while it is 1.
GEOMETRY_WRITE: written while EN is 0 or FREEZE 1, else ignored. GEO_RESET: every entry of both tables is nominal and
ODO_GEOSTAT 0. MARK_ENABLE of a disabled generator: enabled with its late count 0 where the marks fit, else EN stays 0
and MARK_REJ is set. The active sensor where R46 is silent and zero settings are the model's (log entries 89 and 91). -/
def Obligations.OdometerSettings : Prop :=
  ∀ (s : State) (l : LaneId) (c : OdoCfgReg) (astern : Bool) (i : Fin 1024) (g : Fin 8) (v : Word), s.takesWrite l Reg.odoCtrl →
    let L := s.lane l
    let o := L.odo
    let odo := fun (u : State) => (u.lane l).odo
    (v.getLsbD 0 = true → v.getLsbD 5 = false → L.odoEn = false → o.valid = false →
      ∃ u, exec (.odoEnable l v) s = .next u ∧ (u.lane l).odoEn = L.wheelOk ∧ (u.lane l).bit Reg.odoCtrl 4 = v.getLsbD 4
        ∧ (L.wheelOk = true → (odo u).state = .stopped ∧ (odo u).actSec = false)
        ∧ (L.wheelOk = false → odo u = o ∧ (u.lane l).bit Reg.odoEvent 15 = true)
        ∧ s.keeps u (hideOdo l) (inLane l [Reg.odoCtrl, Reg.odoEvent]))
    ∧ (v.getLsbD 0 = false → L.odoEn = true →
      ∃ u, exec (.odoDisable l v) s = .next u ∧ (u.lane l).odoEn = false ∧ (odo u).state = .stopped ∧ (odo u).word = s.lastWord l
        ∧ (u.lane l).bit Reg.odoEvent 0 = true ∧ u.chans = s.chans ∧ u.gates = s.gates ∧ u.dies = s.dies
        ∧ (o.valid = false → s.keeps u (hideOdo l) (inLane l [Reg.odoCtrl, Reg.odoEvent])))
    ∧ (v.getLsbD 0 = true → v.getLsbD 5 = true → L.odoEn = true → o.state ≠ .stopped →
      ∃ u, exec (.resync l v) s = .next u ∧ (u.lane l).odoEn = true ∧ (odo u).state = .seek ∧ (odo u).word = s.lastWord l
        ∧ ((odo u).sensor o.actSec).gaps = 0 ∧ ((odo u).sensor o.actSec).edges = (o.sensor o.actSec).edges
        ∧ u.chans = s.chans ∧ u.gates = s.gates ∧ u.dies = s.dies
        ∧ (o.valid = false → s.keeps u (hideOdo l) (inLane l [Reg.odoCtrl, Reg.odoEvent])))
    ∧ (∃ u, exec (.odoConfigWrite l c v) s = .next u
        ∧ (L.odoEn = false → (u.lane l).reg (odoCfgAddr c) = L.written (odoCfgAddr c) v ∧ s.keeps u hideNone (inLane l [odoCfgAddr c]))
        ∧ (L.odoEn = true → (u.lane l).bit Reg.odoEvent 15 = true ∧ s.keeps u hideNone (inLane l [Reg.odoEvent])))
    ∧ (∃ u, exec (.geometryWrite l astern i v) s = .next u ∧ s.keeps u hideNone (inLane l [geometryAddr astern i])
        ∧ (u.lane l).reg (geometryAddr astern i) =
            (if L.odoEn = false ∨ L.bit Reg.odoGeoctrl 1 = true then v &&& 0xFFFF ||| L.reg (geometryAddr astern i) &&& 0xFFFF0000
             else L.reg (geometryAddr astern i)))
    ∧ (v.getLsbD 2 = true →
      ∃ u, exec (.geoReset l v) s = .next u ∧ (u.lane l).reg Reg.odoGeostat = 0
        ∧ (u.lane l).reg (Reg.odoGeoa i) = 0x8000 ∧ (u.lane l).reg (Reg.odoGeob i) = 0x8000
        ∧ s.keeps u hideNone (inLane l (Reg.odoGeoctrl :: odoRegs)))
    ∧ (v.getLsbD 31 = true → L.bit (Reg.markCtrl g) 31 = false →
      let num := L.fld (Reg.markStep g) 8 24
      let den := L.fld (Reg.markStep g) 0 8
      let cnt := bits v 0 16
      let ok := 1 ≤ den ∧ den ≤ num ∧ 1 ≤ cnt ∧ (cnt - 1) * num / max den 1 < L.cycleLen
      ∃ u, exec (.markEnable l g v) s = .next u ∧ (u.lane l).fld (Reg.markCtrl g) 0 16 = cnt
        ∧ (ok → (u.lane l).bit (Reg.markCtrl g) 31 = true ∧ (u.lane l).fld (Reg.markStat g) 16 8 = 0)
        ∧ (¬ ok → (u.lane l).bit (Reg.markCtrl g) 31 = false ∧ (u.lane l).bit Reg.odoEvent2 8 = true)
        ∧ s.keeps u hideNone (inLane l [Reg.markCtrl g, Reg.markStat g, Reg.odoEvent2]))

/-- MICRO_TICK of a running lane in which a micro-tick is due (the angle word is valid and below its target, none was
emitted in this TCLK), with no edge that ends a span waiting in the TCLK: the unwrapped angle rises by one, the angle
word is it mod L, so it takes 0 after L − 1, and the cycle counter goes up by one just where the word takes 0, from
0xFFFF_FFFF to 0. A milestone is raised at a multiple of M. With none due the angle word and the cycle counter stay;
with such an edge waiting they stay until it is acted on. Synchronisation state and spans' start stay, and no channel,
gate, rail, die or port changes. That an edge of the same TCLK goes first, and zero divisors, are the model's (log
entries 91 and 92). -/
def Obligations.MicroTicksAdvanceTheAngle : Prop :=
  ∀ (s : State) (l : LaneId), s.runs l →
    let L := s.lane l
    let o := L.odo
    ∃ u, exec (.microTick l) s = .next u ∧ (u.lane l).odo.state = o.state ∧ (u.lane l).odo.base = o.base ∧ (u.lane l).odo.t0 = o.t0
      ∧ (s.edgeSoon l = false → L.tickDue = true →
          (u.lane l).odo.ang = o.ang + 1 ∧ (u.lane l).odo.word = (o.ang + 1) % L.cycleLen
            ∧ (u.lane l).odo.cycle = (if (o.ang + 1) % L.cycleLen = 0 then o.cycle + 1 else o.cycle)
            ∧ (u.lane l).odo.milestone = (if (o.ang + 1) % L.odoM = 0 then (o.ang + 1) / L.odoM % L.cyclePos else o.milestone)
            ∧ (u.lane l).odo.emitted = some L.time)
      ∧ (s.edgeSoon l = false → L.tickDue = false → (u.lane l).odo = o)
      ∧ (s.edgeSoon l = true → (u.lane l).odo = { o with owed := some L.time })
      ∧ u.chans = s.chans ∧ u.gates = s.gates ∧ u.rails = s.rails ∧ u.dies = s.dies ∧ u.ports = s.ports
      ∧ (∀ m, m ≠ l → (u.lane m).odo = (s.lane m).odo)

/-- MICRO_TICK of a running lane in which a micro-tick is due and no edge that ends a span waits in the TCLK, the angle
word being the unwrapped angle mod L: from L − 1 the angle word takes 0 and the cycle counter goes up by one in the
same step, from 0xFFFF_FFFF to 0; from any other value the angle word goes up by one and the cycle counter stays. -/
def Obligations.AngleWordWraps : Prop :=
  ∀ (s : State) (l : LaneId), s.runs l → s.edgeSoon l = false → (s.lane l).tickDue = true → 0 < (s.lane l).cycleLen →
    (s.lane l).odo.word = (s.lane l).odo.ang % (s.lane l).cycleLen →
    let L := s.lane l
    (L.odo.word + 1 = L.cycleLen →
      ∃ u, exec (.microTick l) s = .next u ∧ (u.lane l).odo.word = 0 ∧ (u.lane l).odo.cycle = L.odo.cycle + 1
        ∧ (L.odo.cycle = 0xFFFFFFFF → (u.lane l).odo.cycle = 0))
    ∧ (L.odo.word + 1 ≠ L.cycleLen →
      ∃ u, exec (.microTick l) s = .next u ∧ (u.lane l).odo.word = L.odo.word + 1 ∧ (u.lane l).odo.cycle = L.odo.cycle)

/-- COMMIT (CANCEL 0) and COMMIT_CANCEL (CANCEL 1): the flag of the named route and set, or of every route that the writer
owns with ALL, is set or cleared and no other flag or part changes; a route not owned gives NOT_OWNER and changes
nothing. SHADOW_WRITE of an aligned word by the owner: stored in the shadow bank of that route and set; with its flag
set the access is BUSY, without ownership NOT_OWNER, and nothing changes. ROUTE_RAM_WRITE by a host that owns the
route: stored in a header, or in a bank of a route whose latched header has EN 0; else BUSY and nothing changes. Every
other byte stays. NOT_OWNER before BUSY, and a direct write beside a pending commit, are the model's (log entry 106). -/
def Obligations.CommitsAndRouteWrites : Prop :=
  ∀ (s : State) (l : LaneId) (w : Writer) (r : Fin 240) (k : Fin 16) (astern b : Bool) (v : Word) (p : Fin 4),
    s.takesWrite l Reg.wptCommit →
    let L := s.lane l
    let sh := 0x10018000 + (if astern then 0x3C00 else 0) + 64 * r.val + 4 * k.val
    let ram := bankAddr astern b r + 4 * k.val
    let hd := headerAddr r + 4 * (k.val % 4)
    let other := fun (u : State) => ∀ q : Fin 240, (u.lane l).sched.pend (!astern) q = L.sched.pend (!astern) q
    (∀ cancel : Bool, v.getLsbD 31 = cancel → v.getLsbD 29 = astern →
      let c := if cancel then Instr.commitCancel l w v else .commit l w v
      let hide := hideIn l fun L => { L with sched := { L.sched with pendAh := 0, pendAs := 0 } }
      (v.getLsbD 30 = false → bits v 0 8 = r.val → L.owns w r = true →
        ∃ u, exec c s = .next u ∧ (∀ q : Fin 240, (u.lane l).sched.pend astern q = if q = r then !cancel else L.sched.pend astern q)
          ∧ other u ∧ s.keeps u hide (inBoth []))
      ∧ (v.getLsbD 30 = true →
        ∃ u, exec c s = .next u ∧ (∀ q : Fin 240, (u.lane l).sched.pend astern q = if L.owns w q then !cancel else L.sched.pend astern q)
          ∧ other u ∧ s.keeps u hide (inBoth []))
      ∧ (v.getLsbD 30 = false → bits v 0 8 = r.val → L.owns w r = false →
          exec c s = .next s.settle ∧ s.writeReg l w Reg.wptCommit v = (s, .notOwner)))
    ∧ (L.owns w r = true → L.sched.pend astern r = false →
        ∃ u, exec (.shadowWrite l w (BitVec.ofNat 32 sh) v) s = .next u
          ∧ s.stored u l (bankAddr astern (!L.sched.bank astern r) r + 4 * k) (leBytes v.toNat 4))
    ∧ (L.owns w r = true → L.sched.pend astern r = true →
        exec (.shadowWrite l w (BitVec.ofNat 32 sh) v) s = .next s.settle ∧ s.writeWord l w sh v = (s, .busy))
    ∧ (L.owns w r = false →
        exec (.shadowWrite l w (BitVec.ofNat 32 sh) v) s = .next s.settle ∧ s.writeWord l w sh v = (s, .notOwner))
    ∧ (L.owns (.host p) r = true → (L.route r).en = false →
        ∃ u, exec (.routeRamWrite l (.host p) (BitVec.ofNat 32 ram) v) s = .next u ∧ s.stored u l ram (leBytes v.toNat 4))
    ∧ (L.owns (.host p) r = true → (L.route r).en = true →
        exec (.routeRamWrite l (.host p) (BitVec.ofNat 32 ram) v) s = .next s.settle ∧ s.writeWord l (.host p) ram v = (s, .busy))
    ∧ (L.owns (.host p) r = true →
        ∃ u, exec (.routeRamWrite l (.host p) (BitVec.ofNat 32 hd) v) s = .next u ∧ s.stored u l hd (leBytes v.toNat 4))

/-- SCHED_ENABLE with a valid angle word outside safe state: every route waits for its commit angle with SYNC_WAIT 1, else
begins a partial cycle; else only the register changes. SCHED_DISABLE: after the crossings of its TCLK every route is
idle, and unless the lane is mute STOP goes to every die, waiting behind the held crossings where the link has no
room. LINK_HELD with room in the queue: the first held crossing of the die goes out late by its wait more, recorded in
WPT_LASTLATE; a start then above LATE_MAX is dropped and recorded, and a held STOP goes out as it is. SWAP_DECISION:
kept until the route's own start, in place of one of the same cycle, discarded once that cycle is decided; a route
that waits for it swaps the banks it names, clears their flags, waits no more, and takes the estimate.
SWAP_DECISION_TIMEOUT after 4 µs, no decision waiting: DEC_MISS, and the swaps are those of the lane's own flags. Who
decides a swap with no authority, and a commit beside a request to idle, are the model's (log entry 106). -/
def Obligations.SchedulerStartsSwapsAndStops : Prop :=
  ∀ (s : State) (l : LaneId) (d : Fin 12) (r : Fin 240) (v : Word), s.runs l →
    let L := s.lane l
    let sch := fun (u : State) => (u.lane l).sched
    (s.takesWrite l Reg.wptCtrl → L.bit Reg.wptCtrl 0 = false → v.getLsbD 0 = true →
      ∃ u, exec (.schedEnable l v) s = .next u ∧ (u.lane l).reg Reg.wptCtrl = L.written Reg.wptCtrl v
        ∧ (L.odo.valid = true → L.view ≠ .safe → L.sched.gov.getLsbD 10 = true → (sch u).routes.toList.all (fun t => t.phase == .waiting && t.armed == none) = true)
        ∧ (L.odo.valid = true → L.view ≠ .safe → L.sched.gov.getLsbD 10 = false → (sch u).routes.toList.all (fun t => t.phase == .running && t.isPartial) = true)
        ∧ (L.odo.valid = false ∨ L.view = .safe → sch u = L.sched ∧ (u.lane l).mem = L.mem)
        ∧ s.keeps u (hideSched l) (inLane l (Reg.wptCtrl :: schedRegs)))
    ∧ (s.takesWrite l Reg.wptCtrl → L.bit Reg.wptCtrl 0 = true → v.getLsbD 0 = false →
      let p := if L.odo.valid then s.lastTick l else s
      let P := p.lane l
      (L.odo.valid = false ∨ L.odo.owed ≠ some L.time ∧ Instr.microTick l ∉ s.pending ∧ L.sched.turnAt = some L.time → p = s)
        ∧ ∃ u, exec (.schedDisable l v) s = .next u ∧ (u.lane l).reg Reg.wptCtrl = L.written Reg.wptCtrl v
        ∧ (sch u).routes.toList.all (fun t => t.phase == .idle) = true
        ∧ (P.mute = false → P.linkFull s.now d = false → ((vget (sch u).links d []).getLast?.map fun e => e.cmd.kind) = some .stop)
        ∧ (P.linkFull s.now d = true → ((sch u).held.filter fun h => h.die == d.val) = (P.sched.held.filter fun h => h.die == d.val) ++ [⟨240, d, { kind := .stop }, s.now, 0⟩])
        ∧ (sch u).bankAh = P.sched.bankAh ∧ (sch u).bankAs = P.sched.bankAs ∧ (sch u).pendAh = P.sched.pendAh ∧ (sch u).pendAs = P.sched.pendAs
        ∧ p.keeps u (hideSched l) (inLane l (Reg.wptCtrl :: schedRegs)))
    ∧ (∀ h, (L.sched.held.find? fun h => h.die == d.val) = some h → L.linkDepth s.now d < 16 → L.mute = false →
      let late := h.cmd.lateness + (s.now - h.since)
      let plain := decide (240 ≤ h.route)
      let max := (L.route h.route).lateMax
      let starts := h.cmd.kind == .startT || h.cmd.kind == .startA || h.cmd.kind == .dwell
      let dropped := !plain && starts && max != 0 && decide (max < late)
      let goes := if plain then h.cmd else { h.cmd with late := true, lateness := late }
      ∃ u, exec (.linkHeld l d) s = .next u ∧ (sch u).held = L.sched.held.erase h
        ∧ (dropped = false → ((vget (sch u).links d []).getLast?.map fun e => { e.cmd with qdelay := 0 }) = some { goes with qdelay := 0 })
        ∧ (plain = false → dropped = false → (u.lane l).bit Reg.wptEvent 3 = true
            ∧ (u.lane l).reg Reg.wptLastlate = BitVec.ofNat 32 (h.route * 2 ^ 24 + h.cmd.idx * 2 ^ 21 + min (late / 40) (2 ^ 21 - 1)))
        ∧ (dropped = true → (sch u).links = L.sched.links ∧ (u.lane l).bit Reg.wptEvent 5 = true
            ∧ (u.lane l).reg Reg.wptLastdrop = BitVec.ofNat 32 (h.route * 2 ^ 24 + h.cmd.idx * 2 ^ 21 + 2 ^ 12 + h.rcn.toNat % 2 ^ 12))
        ∧ (plain = true → s.keeps u (hideSched l) (inLane l [Reg.wptLinkq]))
        ∧ s.keeps u (hideSched l) (inLane l schedRegs) ∧ (u.lane l).mem = L.mem)
    ∧ (∀ x, (L.xwk.rx.head?.bind fun m => match m with | .decision x => some x | _ => none) = some x → x.route = r.val →
      let t := L.route r
      let hit := t.decWait.isSome && t.rcn == x.rcn
      let past := t.decMissed == some x.rcn || t.phase == .running && !t.isPartial && t.decWait.isNone && decide ((t.rcn - x.rcn).toNat < 2 ^ 31)
      ∃ u, exec (.swapDecision l) s = .next u
        ∧ (hit = false → (sch u).decisions = (if past then L.sched.decisions
              else (L.sched.decisions.filter fun y => !(y.route == r.val && y.rcn == x.rcn)) ++ [x])
            ∧ { sch u with decisions := [], routes := L.sched.routes } = { L.sched with decisions := [] }
            ∧ s.keeps u (hideXwk ∘ hideSched l) (inBoth []))
        ∧ (hit = true → (sch u).bankAh.getLsbD r = (L.sched.bankAh.getLsbD r ^^ x.swapAh) ∧ (sch u).bankAs.getLsbD r = (L.sched.bankAs.getLsbD r ^^ x.swapAs)
            ∧ (sch u).pendAh.getLsbD r = (L.sched.pendAh.getLsbD r && !x.swapAh) ∧ (sch u).pendAs.getLsbD r = (L.sched.pendAs.getLsbD r && !x.swapAs)
            ∧ (vget (sch u).routes r {}).decWait = none ∧ (u.lane l).decisionEst r = x.est
            ∧ s.keeps u (hideXwk ∘ hideSched l) (inLane l (schedRegs
                ++ (if r.val < 192 then [Reg.lndEst r, Reg.lndEvent r] else [Reg.ignDwest (r - 192)])))))
    ∧ (∀ t, (L.route r).decWait = some t → t + 1600 ≤ L.time → Instr.swapDecision l ∉ s.pending →
      ∃ u, exec (.swapDecisionTimeout l r) s = .next u ∧ (u.lane l).bit Reg.wptEvent 0 = true ∧ (vget (sch u).routes r {}).decWait = none
        ∧ (sch u).bankAh.getLsbD r = (L.sched.bankAh.getLsbD r ^^ L.sched.pendAh.getLsbD r) ∧ (sch u).pendAh.getLsbD r = false
        ∧ (sch u).bankAs.getLsbD r = (L.sched.bankAs.getLsbD r ^^ L.sched.pendAs.getLsbD r) ∧ (sch u).pendAs.getLsbD r = false
        ∧ s.keeps u (hideSched l) (inLane l schedRegs))

/-- COLD_POWER_UP of a lane that is OFF: it waits for its PLL with every register at reset but CFG_BOOT, which shows COLD,
and HSTn_EVENT of the ports it lacks, which are 0, its arrays clear, its NAND device and keys as they were; as the
first lane it resets the drive dies. PLL_LOCK within 10 ms of the attempt's begin, after a clock fault also 1 ms
without deviation: the clocks run, SILENT and DISPUTE clear, and a cold start waits for its memories (PHASE 2); a lane
halted at its fuse load goes no further. PLL_LOCK_TIMEOUT after 10 ms, no lock waiting: held, the next attempt 100 ms
later. MEMORY_INIT_DONE, cold, with no access waiting: INIT_DONE; where no device is fitted, as at the PLL_LOCK of a
warm start, the start ends with NO_NAND and NO_IMAGE. PARTNER_REPORT_TIMEOUT 150 ms after the own report: READY, PHASE
9. What restarts with the first lane, the boot in one command, the causes that a lock clears, and READY without a link
are the model's (log entries 33, 36, 58 and 65). -/
def Obligations.StartsOfALane : Prop :=
  ∀ (s : State) (l : LaneId) (memOk : Bool), s.fitted l = true →
    let L := s.lane l
    let waits := L.run = .init ∨ L.run = .stopped
    let noNand := fun (u : State) => (u.lane l).fld Reg.cfgBoot 28 4 = 0xF ∧ (u.lane l).fld Reg.cfgBoot 24 4 = 2
      ∧ (u.lane l).bit Reg.cfgEvent 3 = true ∧ (u.lane l).ready = L.ready
    (L.run = .off →
      ∃ u, exec (.coldPowerUp l) s = .next u ∧ (u.lane l).run = .init ∧ (u.lane l).mem = {} ∧ (u.lane l).odo = {}
        ∧ (u.lane l).ready = false ∧ (u.lane l).store.nand = L.store.nand ∧ (u.lane l).power.cold = true ∧ (u.lane l).power.pllAt = s.now
        ∧ (L.mon.lock ≠ .erasing → (u.lane l).mon.ka = L.mon.ka ∧ (u.lane l).mon.lock = L.mon.lock)
        ∧ (L.mon.fuseBad = false → (u.lane l).bit Reg.cfgBoot 23 = true
            ∧ ∀ a, (u.lane l).reg a = if a = Reg.cfgBoot then setBits (regReset a) 23 1 1
                else if (lanePorts (otherLane l)).any (fun p => a == Reg.hstEvent p) then 0 else regReset a)
        ∧ (s.allDown l = true → u.chans = Vector.replicate 192 {} ∧ u.gates = Vector.replicate 48 {} ∧ u.rails = Vector.replicate 4 {}
            ∧ u.link = .down ∧ u.mirror = .solo ∧ u.jct.voted = .none)
        ∧ (s.allDown l = false → u.chans = s.chans ∧ u.gates = s.gates ∧ u.rails = s.rails ∧ u.link = s.link)
        ∧ (u.lane (otherLane l)).quiet = (s.lane (otherLane l)).quiet)
    ∧ (L.run ≠ .off → exec (.coldPowerUp l) s = .next s.settle)
    ∧ (L.power.lockTaken s.now = false → exec (.pllLock ⟨l, memOk⟩) s = .next s.settle)
    ∧ (waits → L.power.clockFault = false → L.power.lockTaken s.now = true →
      ∃ u, exec (.pllLock ⟨l, memOk⟩) s = .next u ∧ (u.lane l).run = .running ∧ (u.lane l).power.pll = true ∧ (u.lane l).power.ref = true
        ∧ (u.jl l).fence.getLsbD fenceSilent = false ∧ (u.jl l).fence.getLsbD fenceDispute = false
        ∧ (u.lane l).time = (if L.power.cold && L.run == .init then 0 else L.time)
        ∧ (L.mon.fuseBad = true → (u.lane l).fld Reg.cfgBoot 28 4 = L.fld Reg.cfgBoot 28 4 ∧ (u.lane l).ready = L.ready ∧ (u.lane l).store = L.store)
        ∧ (L.mon.fuseBad = false → L.power.cold = true → (u.lane l).fld Reg.cfgBoot 28 4 = 2 ∧ (u.lane l).mem = L.mem)
        ∧ (L.mon.fuseBad = false → L.power.cold = false → (u.lane l).mem.initDone = true ∧ (L.store.nand.fitted = false → noNand u)))
    ∧ (waits → L.power.pllAt + 4000000 ≤ s.now → (∀ m, Instr.pllLock ⟨l, m⟩ ∉ s.pending) →
      ∃ u, exec (.pllLockTimeout l) s = .next u ∧ (u.lane l).run = L.run ∧ (u.lane l).power = { L.power with pllAt := L.power.pllAt + 40000000 }
        ∧ (u.lane l).fld Reg.cfgBoot 28 4 = 1 ∧ s.keeps u (hideIn l fun L => { L with power := {} }) (inLane l [Reg.cfgBoot]))
    ∧ (L.initing = true → s.ports.toList.all (fun x => !x.reqs.any Req.isHeld) = true → L.mon.wait = none → L.mem.waits = [] →
      ∃ u, exec (.memoryInitDone ⟨l, memOk⟩) s = .next u ∧ (u.lane l).mem.initDone = true
        ∧ (L.store.nand.fitted = false → noNand u ∧ (u.lane l).mem = { L.mem with initDone := true }
            ∧ u.chans = s.chans ∧ u.gates = s.gates ∧ u.dies = s.dies))
    ∧ (∀ t, L.on = true → L.reported = some t → L.store.image.isSome = true → L.fld Reg.cfgBoot 28 4 = 8 → L.xwk.digestIn = none →
        t + 60000000 ≤ L.time → L.ready = false → L.mon.hold = false →
      ∃ u, exec (.partnerReportTimeout l) s = .next u ∧ (u.lane l).ready = true
        ∧ (u.lane l).standby = (s.variantS || s.link == .up || L.pref s.variantS == l)
        ∧ (u.lane l).fld Reg.cfgBoot 28 4 = 9 ∧ (u.lane l).fld Reg.cfgBoot 24 4 = 0 ∧ (u.lane l).store.snapDue = true
        ∧ (s.variantS = false → s.otherServes l = true → s.mirror ≠ .linked → (u.jl l).fence.getLsbD fenceRejoin = true)
        ∧ s.keeps u (hideTriples ∘ hideJl l ∘ hideIn l fun L => { L with
              ready := false, standby := false, xwk := {}, store := {}, fltQ := [], fltHeld := [] })
            (fun m => Reg.jctEvent :: inLane l (Reg.cfgBoot :: tripleRegs) m))

/-- JOURNAL_PAGE_WRITE of a due buffer within the budget of the last hour, no block worn (log entry 12): the next good
page of the ring holds its records under PSEQ, which rises; an unformatted store first takes its factory marks as bad
blocks; where its program fails, JOURNAL is set, the block is bad and the next good block takes the page. SNAPSHOT
due: a SNAPSHOT record joins the buffer. PATROL due: it ends with a summary record and its time. SCRUB_INTERVAL due: a
pass over the whole of main SRAM begins. IMAGE_REPAIR with an image, once: done for this start; while the NAND port is
held in reset it does nothing. INSTALL, none running: it waits for the initialisation of the arrays, else BUSY and the
staged bytes are taken. INSTALL_DONE: not BUSY, with the RESULT of the first check that failed and no page written, or
1, or 7 or 8, never 1 where a program fails. RUN_RECORD after an hour: hours, cycles and guard trips join the buffer.
Nothing outside the lane changes. The words of a snapshot are the model's order (log entry 31). The slot of an install
without a running image, poisoned bytes, failures of the device, and the RUN record are the model's (log entries 41,
42, 51 and 56). -/
def Obligations.JobsOfTheServiceCore : Prop :=
  ∀ (s : State) (l : LaneId) (fails : Bool), s.runs l →
    let L := s.lane l
    let st := fun (u : State) => (u.lane l).store
    let hide := hideIn l fun L => { L with store := {}, mem := {}, fltQ := [], fltHeld := [] }
    let cfg := [Reg.cfgEvent, Reg.cfgLasterr, Reg.cfgJrnl, Reg.cfgBoot, Reg.cfgInstall, Reg.cfgNandBlk, Reg.fltLost]
    let F := L.format
    (∀ pos, L.store.found = true → L.jrnDue = true → (lastHour L.time L.store.urgentAt).length < 64 →
        (lastHour L.time L.store.pagesAt).length < 3600 → L.store.nand.worn = [] → F.ringGood L.store.head 1024 = some pos →
      let at_ := L.store.nand.ringAt pos
      let f := fitRecords (L.store.nand.pageBytes - 16) L.store.buf
      let written := fun (u : State) (x : Nat × Nat × Nat) => (st u).pseq = L.store.pseq + 1
        ∧ ((st u).nand.page x.1 x.2.1 x.2.2).map NandPage.sectors = some (sectorsOf (JPage.bytes ⟨L.store.pseq, L.store.boot, f.1⟩) L.store.nand.pageK)
        ∧ (u.lane l).reg Reg.cfgJrnl = BitVec.ofNat 32 L.store.pseq
      let worse := (F.store.bad ++ [at_.1 * 4096 + at_.2.1]).eraseDups
      ∃ u, exec (.journalPageWrite l fails) s = .next u ∧ (st u).buf = f.2
        ∧ (fails = false → written u at_ ∧ (st u).bad = F.store.bad ∧ s.keeps u hide (inLane l [Reg.cfgJrnl, Reg.cfgNandBlk]))
        ∧ (fails = true → (st u).bad = worse ∧ ((st u).nand.page at_.1 at_.2.1 0).map NandPage.marker = some 0
            ∧ (u.lane l).bit Reg.cfgEvent 4 = true ∧ s.keeps u hide (inLane l [Reg.cfgJrnl, Reg.cfgEvent, Reg.cfgNandBlk, Reg.fltLost])
            ∧ (∀ pos2, (F.storeUpd fun x => { x with bad := worse }).ringGood L.store.head 1024 = some pos2 →
                written u (L.store.nand.ringAt pos2))))
    ∧ (L.snapNow = true →
      ∃ u, exec (.snapshot l) s = .next u ∧ (st u).buf.getLast?.map (fun r => (r.typ, r.payload)) = some (2, L.snapWords.take 255)
        ∧ (st u).buf.length = L.store.buf.length + 1 ∧ (st u).snapDue = false ∧ (st u).snapAt = L.time ∧ s.keeps u hide (inBoth []))
    ∧ (0 < L.fld Reg.cfgStore 8 12 → L.ready = true → L.store.found = true → L.store.install = none →
        L.store.patrolAt + L.fld Reg.cfgStore 8 12 * hourTclk ≤ L.time →
      ∃ u, exec (.patrol l) s = .next u ∧ (st u).patrolAt = L.time ∧ (st u).buf.getLast?.map JRec.typ = some 6
        ∧ s.keeps u hide (inLane l cfg) ∧ (u.lane l).mem = L.mem)
    ∧ (0 < L.fld Reg.cfgStore 0 8 → L.ready = true → L.mem.scrub = none → L.store.scrubAt + L.fld Reg.cfgStore 0 8 * hourTclk ≤ L.time →
      ∃ u, exec (.scrubInterval l) s = .next u ∧ (st u).scrubAt = L.time
        ∧ (u.lane l).mem = { L.mem with scrub := some { next := 0, last := 0x1FFFF0, start := L.time, core := some 0 }, scrubDone := false }
        ∧ s.keeps u hide (inLane l [Reg.memScrubStart, Reg.memScrubEnd]))
    ∧ (L.ready = true → L.store.found = true → L.store.repaired = false → L.store.install = none → L.store.image.isSome = true →
      ∃ u, exec (.imageRepair l) s = .next u ∧ (st u).repaired = true ∧ (st u).image = L.store.image
        ∧ s.keeps u (hide ∘ hideTriples) (inLane l (cfg ++ tripleRegs)) ∧ (u.lane l).mem = L.mem)
    ∧ (L.store.found = false →
      ∃ u, exec (.imageRepair l) s = .next u ∧ (st u).nand = L.store.nand ∧ s.keeps u (hideTriples ∘ hideFaults) (inLane l tripleRegs))
    ∧ (L.initing = true →
      ∃ u, exec (.install l) s = .next u ∧ (u.lane l).mem.waits = L.mem.waits ++ [(.core, Reg.cfgInstall, [0, 0, 0x18, 0x7E])]
        ∧ s.keeps u (hideMem l) (inBoth []))
    ∧ (L.initing = false → s.takesWrite l Reg.cfgInstall → L.bit Reg.cfgInstall 15 = false →
      let base := L.fld Reg.cfgStage 12 9 * 2 ^ 12
      let n := min (L.fld Reg.cfgStageLen 0 21) (2 ^ 21 - base)
      let r := L.readBytes base n 0 1
      ∃ u, exec (.install l) s = .next u ∧ (u.lane l).reg Reg.cfgInstall = 0x8000 ∧ (st u).install = some (if r.2.2 then [] else r.2.1)
        ∧ (st u).nand = L.store.nand ∧ s.keeps u hide (inLane l (Reg.cfgInstall :: memRegs)))
    ∧ (∀ bs, L.store.install = some bs →
      let r := L.installCheck s.variantS bs
      ∃ u, exec (.installDone l fails) s = .next u ∧ (st u).install = none ∧ (u.lane l).bit Reg.cfgInstall 15 = false
        ∧ (r ≠ 1 → (u.lane l).fld Reg.cfgInstall 11 4 = r ∧ (u.lane l).bit Reg.cfgEvent 7 = true ∧ (st u).nand = L.store.nand)
        ∧ (r = 1 → (u.lane l).fld Reg.cfgInstall 11 4 ∈ [1, 7, 8] ∧ (fails = true → (u.lane l).fld Reg.cfgInstall 11 4 ≠ 1)
            ∧ ((u.lane l).fld Reg.cfgInstall 11 4 = 1 → (u.lane l).bit Reg.cfgEvent 8 = true)
            ∧ ((u.lane l).fld Reg.cfgInstall 11 4 ≠ 1 → (u.lane l).bit Reg.cfgEvent 7 = true))
        ∧ (st u).image = L.store.image ∧ s.keeps u (hide ∘ hideTriples ∘ hideFree) (inLane l (cfg ++ tripleRegs))
        ∧ (u.lane l).mem = L.mem)
    ∧ (L.ready = true → L.store.runAt + hourTclk ≤ L.time →
      ∃ u, exec (.runRecord l) s = .next u ∧ (st u).runAt = L.time
        ∧ (st u).buf.getLast?.map (fun r => (r.typ, r.payload)) = some (5, [BitVec.ofNat 32 (L.time / hourTclk), L.odo.cycle]
            ++ (List.range 24).map fun c => BitVec.ofNat 32 (L.fld (Reg.cylStat c) 0 16))
        ∧ s.keeps u hide (inBoth []))

/-- CLOCK: CLK_STAT takes the deviation; beyond ±10 % CLK_ERR is flagged. PLL_UNLOCK: flagged, PLL lost. In a lane held in
reset the always-on part records both; in STANDBY and OFF neither acts. CLOCK_FAULT_RECORD: the clocks stop and the
fault is pending and recorded. WARM_RESET by a rail fault, or by a recorded clock fault with AUTO_RST, and
LANE_RESTART with its key: the lane waits for its PLL, warm, with CAUSE and WARM_CNT, LANE_TIME and the always-on
part's registers and watchdog kept (log entry 52), no nonce, not READY; channels, gates and rails stay. Otherwise
WARM_RESET changes nothing. CORE_RESET, which ends the monitor's nonce, and CORE_WDOG_KICK restart the core watchdog;
CORE_WDOG past its time, unless the lane is OFF, flags it and resets the core. FRST_WRITE: the register takes the
bits, each function whose bit rises has its registers at reset, and a channel or gate so reset ends its event. That a
stopped lane takes the restart key is the model's reading (log entry 57). -/
def Obligations.ClockFaultsAndResets : Prop :=
  ∀ (s : State) (l : LaneId) (dev : BitVec 16) (rail pll : Bool) (k : Fin 10) (v : Word), s.fitted l = true →
    let L := s.lane l
    let restarted := fun (u : State) (cause : Nat) => (u.lane l).run = .stopped ∧ (u.lane l).time = L.time ∧ (u.lane l).ready = false
      ∧ (u.lane l).odo = {} ∧ (u.lane l).mon.nonce = none ∧ (u.lane l).power.cold = false ∧ (u.lane l).power.pllAt = s.now
      ∧ (u.lane l).power.coreAt = L.power.coreAt ∧ (∀ a, a ∈ [Reg.clkCoreWdog, Reg.clkWaketmr, Reg.clkSupwarn, Reg.clkTemp] → (u.lane l).reg a = L.reg a) ∧ (u.lane l).fld Reg.clkRst 8 4 = cause
      ∧ (u.lane l).fld Reg.clkRst 0 8 = min (L.fld Reg.clkRst 0 8 + 1) 255 ∧ (L.nandBusy = false → (u.lane l).store.nand = L.store.nand)
      ∧ u.chans = s.chans ∧ u.gates = s.gates ∧ u.rails = s.rails ∧ (∀ c : Fin 3, (u.lane l).reg (Reg.capW0 c) = L.reg (Reg.capW0 c))
    let recorded := fun (u : State) (m : FaultMsg) => (u.lane l).bit Reg.fltPend m.cls = true ∧ (u.lane l).reg Reg.fltLast = m.w0
      ∧ (L.bit (Reg.capInfo m.cls) 31 = false → (u.lane l).reg (Reg.capTimel m.cls) = m.time.setWidth 32)
    let held := L.run = .stopped ∨ L.run = .init
    (L.on = true ∨ held →
      ∃ u, exec (.clock l dev) s = .next u ∧ (u.lane l).fld Reg.clkStat 0 16 = dev.toNat
        ∧ (1000 < dev.toInt.natAbs → (u.lane l).bit Reg.clkEvent 4 = true ∧ (u.lane l).power = { L.power with devAt := some s.now }
            ∧ (held → recorded u (L.stopMsg .selfClock 0x20)))
        ∧ (dev.toInt.natAbs ≤ 1000 → s.keeps u hideNone (inLane l [Reg.clkStat]))
        ∧ s.keeps u (hideFaults ∘ hideIn l fun L => { L with power := {} })
            (inLane l ([Reg.clkStat, Reg.clkEvent, Reg.fltLost] ++ fltRegs (L.stopMsg .selfClock 0x20).cls)))
    ∧ (L.on = true ∨ held →
      ∃ u, exec (.pllUnlock l) s = .next u ∧ (u.lane l).power = { L.power with pll := false, devAt := some s.now }
        ∧ (u.lane l).bit Reg.clkEvent 3 = true ∧ (held → recorded u (L.stopMsg .clkPllUnlock 0))
        ∧ s.keeps u (hideFaults ∘ hideIn l fun L => { L with power := {} })
            (inLane l ([Reg.clkEvent, Reg.fltLost] ++ fltRegs (L.stopMsg .clkPllUnlock 0).cls)))
    ∧ (L.run = .standby ∨ L.run = .off → exec (.clock l dev) s = .next s.settle ∧ exec (.pllUnlock l) s = .next s.settle)
    ∧ (L.on = true →
      let m := if pll then L.stopMsg .clkPllUnlock 0 else L.stopMsg .selfClock 0x20
      ∃ u, exec (.clockFaultRecord l pll) s = .next u ∧ (u.lane l).run = .stopped ∧ (u.lane l).power = { L.power with clockFault := true, pll := false, ref := false, devAt := some s.now }
        ∧ recorded u m
        ∧ s.keeps u (hideIn l fun L => { L with run := .off, sched := {}, xwk := {}, power := {}, store := {} }) (inLane l (fltRegs m.cls)))
    ∧ (rail = true ∨ L.power.clockFault = true ∧ L.bit Reg.clkMon 0 = true →
      ∃ u, exec (.warmReset l rail) s = .next u ∧ restarted u (if rail then 3 else 2) ∧ (u.lane l).power.byClock = !rail)
    ∧ (rail = false → L.power.clockFault = false ∨ L.bit Reg.clkMon 0 = false → exec (.warmReset l rail) s = .next s.settle)
    ∧ (bits v 16 16 = 0xC3A5 → L.on = true ∨ L.run = .stopped ∧ L.power.clockFault = true →
      ∃ u, exec (.laneRestart l v) s = .next u ∧ restarted u 1)
    ∧ (L.on = true → bits v 16 16 = 0x3C5A →
      ∃ u, exec (.coreReset l v) s = .next u ∧ (u.lane l).power = { L.power with coreAt := s.now } ∧ (u.lane l).mon = { L.mon with nonce := none }
        ∧ s.keeps u (hideIn l fun L => { L with power := {}, mon := L.mon.erase }) (inBoth []))
    ∧ (L.run ≠ .off → L.on = false ∨ (s.pending.any fun i => match i with | .coreWdogKick m _ => m == l | _ => false) = false →
        L.power.coreAt + max 1 (L.fld Reg.clkCoreWdog 0 16) * 400000 ≤ s.now →
      ∃ u, exec (.coreWdog l) s = .next u ∧ (u.lane l).power = { L.power with coreAt := s.now } ∧ (u.lane l).mon = { L.mon with nonce := none }
        ∧ (u.lane l).bit Reg.clkEvent 8 = true ∧ s.keeps u (hideIn l fun L => { L with power := {}, mon := L.mon.erase }) (inLane l [Reg.clkEvent]))
    ∧ (L.on = true →
      ∃ u, exec (.coreWdogKick l v) s = .next u ∧ (u.lane l).power = { L.power with coreAt := s.now }
        ∧ (u.lane l).reg Reg.clkCoreWdog = L.written Reg.clkCoreWdog v
        ∧ s.keeps u (hideIn l fun L => { L with power := {} }) (inLane l [Reg.clkCoreWdog]))
    ∧ (L.on = true → s.nothingHeld →
      let old := L.reg (frstReg k)
      let new := v &&& frstMask k ||| old &&& L.freshMask (frstReg k)
      ∃ u, exec (.frstWrite l k v) s = .next u ∧ (u.lane l).reg (frstReg k) = new
        ∧ (old = new → s.keeps u hideNone (inLane l [frstReg k]))
        ∧ (∀ b : Fin 32, (new &&& ~~~old).getLsbD b = true →
            (k.val < 8 ∨ k.val = 9 ∧ b.val < 24 → ∀ r ∈ frstRanges l k b, (u.lane l).reg r.1 = regReset r.1)
            ∧ (k.val < 6 → s.dieTakes ((32 * k + b) / 16) l = true → (u.chan (32 * k + b)).ev = none ∧ (u.chan (32 * k + b)).wait = none)))

/-- CLK_PWR: IDLE_REQUEST with the Odometer STOPPED and RUN_REQUEST change the power state; STANDBY_REQUEST with its key,
the Odometer STOPPED and no authority, enters STANDBY; refused requests set ENTRY_REJ and change nothing else (the
read of the triplicated view may mend its copies). PRIVILEGED_WAKE by an enabled source, the target's only where its
settings match an address, as a transfer to a lane in standby wakes it where they match its address and does nothing
else: entry under way is abandoned, else the lane wakes. WAKE_COMPLETE: it runs, LANE_TIME and CLK_STBYT take the time
slept, its ports wake. WAKE_TIMER: once. SUPPLY_LOSS: OFF, and the drive side off. DRIVE_SUPPLY_LOSS: no event, start,
dwell or rail goes on, every coil decays fast, and none begins while VSUP is low. A sensor supply turns off on
overtemperature or over-voltage, and on again at its retry, due 100 ms after a thermal shutdown, unless its pin is
above 5.5 V (that the retry row also ends an over-voltage is the model's choice, log entry 60). SUPPLY, unless OFF: a
crossing of a limit either way sets SUP_LO or SUP_HI (log entry 34); at 7.0 V or above VSUP is no longer low (log
entry 111). LANE_TEMP: the reading, TEMP_HI as it reaches TWARN. What a loss of the drive supply leaves at the dies,
and warnings in standby, are the model's (log entries 48 and 81); a standby request without its key is log entry 103. -/
def Obligations.PowerStatesAndSupplies : Prop :=
  ∀ (s : State) (l : LaneId) (v : Word) (i : Fin 6) (slept mv : Nat) (temp : BitVec 16) (x : Fin 8) (c : DrvCmd) (addr : BitVec 7) (bs : List Byte), s.fitted l = true →
    let L := s.lane l
    let hide := hideIn l fun L => { L with power := {} }
    let dead := fun (u : State) =>
      (∀ n : Fin 192, (u.chan n).ev = none ∧ (u.chan n).wait = none ∧ (u.chan n).decayFast = true
          ∧ ((s.chan n).ev.isSome = true → (u.chan n).state = .decay))
        ∧ (∀ g : Fin 48, (u.gate g).drive = .low ∧ (u.gate g).state ≠ .dwell ∧ (u.gate g).state ≠ .restrike)
        ∧ (∀ k : Fin 4, (u.rail k).state = .off ∧ (u.rail k).fet = false ∧ (u.rail k).charging = false)
    let rej := fun (u : State) => (u.lane l).bit Reg.clkEvent 1 = true ∧ (u.lane l).power = L.power ∧ (u.lane l).run = L.run
      ∧ s.keeps u hideNone (inLane l [Reg.clkEvent])
    (L.on = true → bits v 0 2 = 2 →
      ∃ u, exec (.idleRequest l v) s = .next u
        ∧ (L.power.idle = false → L.odo.state = .stopped → (u.lane l).power = { L.power with idle := true } ∧ s.keeps u hide (inBoth []))
        ∧ (L.power.idle = true ∨ L.odo.state ≠ .stopped → rej u))
    ∧ (L.on = true → bits v 0 2 = 1 →
      ∃ u, exec (.runRequest l v) s = .next u ∧ (u.lane l).power = { L.power with idle := false }
        ∧ (L.power.idle = false → s.keeps u hideNone (inBoth [])) ∧ s.sameShared u)
    ∧ (L.on = true → bits v 0 2 = 3 → bits v 16 16 = 0x57BD →
      ∃ u, exec (.standbyRequest l v) s = .next u
        ∧ (L.odo.state = .stopped → votedLane L.view ≠ some l →
            (u.lane l).run = .standby ∧ (u.lane l).power = { L.power with entry := some s.now, waking := false } ∧ (u.lane l).mem.merge = []
              ∧ (∀ p : Fin 4, laneOfPort p = l → (u.port p).modEnd = none) ∧ u.chans = s.chans ∧ u.gates = s.gates)
        ∧ (L.odo.state ≠ .stopped ∨ votedLane L.view = some l → (u.lane l).bit Reg.clkEvent 1 = true ∧ (u.lane l).power = L.power
            ∧ s.keeps u hideFaults (inLane l (Reg.clkEvent :: tripleRegs))))
    ∧ (i = 5 → ((List.range 128).any fun a => (L.twiMatch a).isSome) = false → exec (.privilegedWake l i) s = .next s.settle)
    ∧ (L.run = .standby →
      ∃ u, exec (.privilegedWake l 5) s = .next u 
        ∧ let w := if (L.twiMatch addr.toNat).isSome = true then u else s.settle
        exec (.targetWrite l addr bs) s = .next w ∧ exec (.targetRead l addr bs.length) s = .next w)
    ∧ (L.run = .standby → L.bit Reg.icuWake i = true → (i = 5 → ((List.range 128).any fun a => (L.twiMatch a).isSome) = true) →
      ∃ u, exec (.privilegedWake l i) s = .next u
        ∧ (L.power.entry.isSome = true → (u.lane l).run = .running ∧ (u.lane l).power = { L.power with entry := none }
            ∧ (u.lane l).bit Reg.clkEvent 2 = true)
        ∧ (L.power.entry = none → (u.lane l).run = .standby ∧ (u.lane l).power = { L.power with waking := true }
            ∧ (u.lane l).bit Reg.icuWake (16 + i) = true)
        ∧ s.keeps u (hideIn l fun L => { L with run := .off, power := {}, icu := {} }) (inLane l [Reg.clkEvent, Reg.icuWake, Reg.icuCnt 1]))
    ∧ (L.run = .standby → L.power.waking = true →
      ∃ u, exec (.wakeComplete l slept) s = .next u ∧ (u.lane l).run = .running ∧ (u.lane l).time = L.time + slept
        ∧ (u.lane l).power.pll = true ∧ (u.lane l).power.waking = false ∧ (u.lane l).power.idle = false ∧ (u.lane l).power.wakeAt = none
        ∧ (u.lane l).reg Reg.clkStbyt = BitVec.ofNat 32 (satNat (slept / 400000) 32) ∧ (u.lane l).bit Reg.clkEvent 0 = true
        ∧ (∀ p : Fin 4, laneOfPort p = l → (u.port p).doze = (s.port p).doze ∧ (u.port p).wakeTo = some (s.now + 2000)) ∧ u.chans = s.chans)
    ∧ (∀ t, L.power.wakeAt = some t → t ≤ s.now →
      ∃ u, exec (.wakeTimer l) s = .next u ∧ (u.lane l).power.wakeAt = none
        ∧ (L.run = .standby → L.bit Reg.icuWake 3 = true → L.power.entry = none → (u.lane l).power.waking = true)
        ∧ (L.run ≠ .standby → s.keeps u hide (inBoth [])))
    ∧ (∃ u, exec (.supplyLoss l) s = .next u ∧ (u.lane l).run = .off ∧ (u.lane l).ready = false ∧ u.vsupLow = true
        ∧ (∀ p : Fin 4, laneOfPort p = l → u.port p = {}) ∧ u.dies = s.dies ∧ (s.vsupLow = false → dead u)
        ∧ (s.vsupLow = true → u.chans = s.chans ∧ u.gates = s.gates ∧ u.rails = s.rails))
    ∧ (∃ u, exec .driveSupplyLoss s = .next u ∧ u.vsupLow = true ∧ dead u ∧ u.dies = s.dies ∧ u.ports = s.ports)
    ∧ (s.vsupLow = true → ∀ d : Fin 12, s.dieExec l d c = s)
    ∧ (L.run ≠ .off →
      let lo := decide (mv < L.fld Reg.clkSupwarn 0 8 * 500)
      let hi := decide (L.fld Reg.clkSupwarn 16 8 * 500 < mv)
      let cross := decide (lo ≠ L.power.supLo ∨ hi ≠ L.power.supHi)
      ∃ u, exec (.supply l mv) s = .next u ∧ (u.lane l).power.supLo = lo ∧ (u.lane l).power.supHi = hi
        ∧ u.vsupLow = (s.vsupLow && decide (mv < 7000))
        ∧ (L.run ≠ .standby → (u.lane l).power = { L.power with supLo := lo, supHi := hi })
        ∧ (cross = true → (u.lane l).fld (Reg.icuCnt 1) 16 4 = min (L.fld (Reg.icuCnt 1) 16 4 + 1) 15
            ∧ (L.srcMode 12 ≠ 0 → (u.lane l).icu.pend.getLsbD 12 = true))
        ∧ (cross = true → L.run = .standby → L.bit Reg.icuWake 4 = true → L.power.entry = none → (u.lane l).power.waking = true)
        ∧ (lo ≠ L.power.supLo → (u.lane l).bit Reg.clkEvent 5 = true)
        ∧ (hi ≠ L.power.supHi → (u.lane l).bit Reg.clkEvent 6 = true)
        ∧ (cross = false → s.keeps u (fun s => { s with vsupLow := false }) (inBoth []))
        ∧ s.keeps u ((hideIn l fun L => { L with run := .off, power := {}, icu := {} }) ∘ hideFaults ∘ fun s => { s with vsupLow := false })
            (inLane l ([Reg.clkEvent, Reg.fltLost, Reg.icuWake, Reg.icuCnt 1] ++ fltRegs (L.stopMsg .clkSupply 0).cls)))
    ∧ (L.run ≠ .off →
      let lim : Int := L.fld Reg.clkTemp 0 8 * 8
      ∃ u, exec (.laneTemp l temp) s = .next u ∧ (u.lane l).fld Reg.clkTemp 16 16 = temp.toNat ∧ (u.lane l).fld Reg.clkTemp 0 8 = L.fld Reg.clkTemp 0 8
        ∧ (lim ≤ temp.toInt → (BitVec.ofNat 16 (L.fld Reg.clkTemp 16 16)).toInt < lim → (u.lane l).bit Reg.clkEvent 7 = true)
        ∧ s.keeps u (hideFaults ∘ hide) (inLane l ([Reg.clkTemp, Reg.clkEvent, Reg.fltLost] ++ fltRegs (L.stopMsg .clkLaneTemp 0).cls)))
    ∧ (∀ hot : Bool, exec (.sensorSupplyShutdown x hot) s = .next (State.settle { s with
        sups := vmod s.sups x fun q => { on := false, hotAt := if hot then some s.now else q.hotAt, overV := q.overV || !hot } }))
    ∧ (∀ t, (vget s.sups x {}).hotAt = some t → t + 40000000 ≤ s.now →
        exec (.sensorSupplyRetry x) s = .next (State.settle { s with sups := vmod s.sups x fun q => { q with on := !q.overV, hotAt := none } }))
    ∧ ((vget s.sups x {}).hotAt = none →
        exec (.sensorSupplyRetry x) s = .next (State.settle { s with sups := vmod s.sups x fun _ => { on := true, hotAt := none, overV := false } }))

/-- FAULT_MESSAGE, the one that R258 chooses next: its class is pending and counted, FLT_LAST and a free capture take it,
and a reaction other than NONE raises the interrupt; with NONE or INTERRUPT nothing else changes, with SAFE_STATE, two
healthy voters and the lane eligible the module enters SAFE. One with a message of a checker: the message, stamped
with the time and angle, is queued first. FLT_PEND_CLEAR: each class written 1, no message of it taken or waiting in
this cycle, is no longer pending and its capture is free; the others stay. SAFE_ENTER_KEY of an eligible lane: SAFE
with the cause 0xFF. SAFE_EXIT_KEY: START and no authority where the exit is allowed, else EXIT_REJ. BIST, enabled: a
failed item is flagged, and after all ten their time is shown. The order within a class, the round of the self-test,
and checkers' words as an operand are the model's (log entries 54, 55 and 73). -/
def Obligations.FaultMessagesAndSafeState : Prop :=
  ∀ (s : State) (l : LaneId) (v : Word) (item : Fin 10) (pass : Bool) (w0 w1 : Word), s.runs l →
    let L := s.lane l
    let healthy := twoHealthy s.jct.f0 s.jct.f1 s.jct.f2
    (∀ m0, nextFault L.fltQ = some m0 → s.nothingHeld →
      let m := m0.checked
      let c := m.cls
      let r := L.reaction s.variantS m
      ∃ u, exec (.faultMessage l none) s = .next u ∧ (r < 3 → (u.lane l).fltQ.length ≤ L.fltQ.length)
        ∧ (u.lane l).bit Reg.fltPend c = true ∧ (r ≤ 1 → (u.lane l).reg Reg.fltLast = m.w0)
        ∧ (L.bit (Reg.capInfo c) 31 = false → (u.lane l).reg (Reg.capW0 c) = m.w0 ∧ (u.lane l).reg (Reg.capTimel c) = m.time.setWidth 32
            ∧ (u.lane l).bit (Reg.capInfo c) 31 = true)
        ∧ (L.bit (Reg.capInfo c) 31 = true → (u.lane l).reg (Reg.capW0 c) = L.reg (Reg.capW0 c))
        ∧ (0 < r → (u.lane l).bit Reg.fltIrq c = true)
        ∧ (r ≤ 1 → s.keeps u (hideIn l fun L => { L with fltQ := [], fltHeld := [], store := {}, power := {} }) (inLane l (fltRegs c)))
        ∧ (r = 4 → healthy → s.eligible l = true → u.jct.state = .safe ∧ u.jct.voted = .safe))
    ∧ (let sent : FaultMsg := ⟨w0, w1, checkerMid w0, 0, BitVec.ofNat 64 L.time, BitVec.ofNat 24 L.odo.word, L.odo.valid, L.odo.cycle⟩
      ∃ u, exec (.faultMessage l (some (w0, w1))) s = .next u ∧ exec (.faultMessage l none) (s.upd l fun L => L.queueFault sent) = .next u)
    ∧ (∃ u, exec (.fltPendClear l v) s = .next u
        ∧ (∀ c : Fin 3, let hit := v.getLsbD c && !(L.freshMask Reg.fltPend).getLsbD c && !(s.classesSoon l).getLsbD c
            (u.lane l).bit Reg.fltPend c = (L.bit Reg.fltPend c && !hit)
              ∧ (u.lane l).bit (Reg.capInfo c) 31 = (L.bit (Reg.capInfo c) 31 && !hit)
              ∧ (u.lane l).reg (Reg.capW0 c) = L.reg (Reg.capW0 c))
        ∧ s.keeps u (hideIn l fun L => { L with store := {} }) (inLane l [Reg.fltPend, Reg.capInfo 0, Reg.capInfo 1, Reg.capInfo 2]))
    ∧ (bits v 16 16 = 0x9C63 → healthy → s.eligible l = true → s.jct.state ≠ .safe → s.jct.voted ≠ .safe →
      ∃ u, exec (.safeEnterKey l v) s = .next u ∧ u.jct.state = .safe ∧ u.jct.voted = .safe ∧ (u.lane l).fld Reg.fltSafe 0 8 = 0xFF
        ∧ u.dies = s.dies ∧ s.keeps u hideVote (inBoth voteRegs))
    ∧ (bits v 16 16 = 0x3C96 →
      ∃ u, exec (.safeExitKey l v) s = .next u ∧ (healthy → u.dies = s.dies ∧ s.keeps u hideVote (inBoth voteRegs))
        ∧ (s.exitOk l = true → s.jct.state = .safe → healthy → s.jct.judge = [] → u.jct.state = .start ∧ u.jct.voted = .none)
        ∧ (s.exitOk l = false → (u.lane l).bit Reg.fltSafe 14 = true ∧ u.jct.state = s.jct.state ∧ u.jct.voted = s.jct.voted
            ∧ s.keeps u hideNone (inLane l [Reg.fltSafe])))
    ∧ (L.bit Reg.fltBist 31 = true →
      ∃ u, exec (.bist l item pass) s = .next u
        ∧ (pass = false → (u.lane l).bit Reg.fltBist 30 = true ∧ (u.lane l).fld Reg.fltBist 16 4 = item.val)
        ∧ (putBit L.bistDone item true = 0x3FF → (u.lane l).bistDone = 0 ∧ (u.lane l).bistAt = L.time
            ∧ (u.lane l).fld Reg.fltBist 0 16 = satNat ((L.time - L.bistAt) / 40000) 16)
        ∧ (putBit L.bistDone item true ≠ 0x3FF → (u.lane l).bistDone = putBit L.bistDone item true)
        ∧ (item.val ≠ 6 → s.keeps u (hideFaults ∘ hideIn l fun L => { L with bistDone := 0, bistAt := 0 }) (inLane l [Reg.fltBist, Reg.fltLost])))
    ∧ (L.bit Reg.fltBist 31 = false → exec (.bist l item pass) s = .next s.settle)

/-- MERGE_IDLE_FLUSH 64 CCLK after the last narrow write and MERGE_FLUSH with FLUSH 1 leave no merge entry. REMAP_WRITE
and ERASE_WRITE by a host change only CFG_REJ; by the service core they fill or release the entry, and set or clear
erasure. SCRUB_GO: a pass begins at SCRUB_START where the range is good and none runs, else only CFG_REJ. SCRUB_ABORT:
the pass ends with its counts and DONE. SCRUB_WORD: the next word is read and counted, a clean one stays, and the last
ends the pass. REGISTER_WRITE of an aligned word: an array takes it and keeps every other byte; a plain register takes
it by its access codes; nothing else changes. While the arrays are initialised, the writes to arrays, remap table and
erasure wait and SCRUB_WORD reads nothing. What a copy to or from a spare counts is the model's reading (log entry
99). -/
def Obligations.MemoriesFlushRemapAndScrub : Prop :=
  ∀ (s : State) (l : LaneId) (w : Writer) (i : Fin 16) (v : Word) (a : BitVec 32) (p : Fin 4), s.runs l →
    let L := s.lane l
    (L.mem.narrowAt + 128 ≤ L.time →
      ∃ u, exec (.mergeIdleFlush l) s = .next u ∧ (u.lane l).mem.merge = [] ∧ s.keeps u (hideMem l ∘ hideFaults) (inLane l memRegs)
        ∧ (L.mem.merge = [] → (u.lane l).mem = L.mem))
    ∧ (v.getLsbD 0 = true →
      ∃ u, exec (.mergeFlush l v) s = .next u ∧ (u.lane l).mem.merge = [] ∧ s.keeps u (hideMem l ∘ hideFaults) (inLane l memRegs)
        ∧ ((L.mem.merge.all fun e => e.mask == 0xFFFF) = true → (u.lane l).mem.data = (L.flushAll).mem.data ∧ s.keeps u (hideMem l) (inBoth [])))
    ∧ (L.initing = false → ∃ u, exec (.remapWrite l (.host p) i v) s = .next u ∧ (u.lane l).bit Reg.memEvent 8 = true ∧ (u.lane l).mem = L.mem
        ∧ s.keeps u hideNone (inLane l [Reg.memEvent]))
    ∧ (L.initing = false → ∃ u, exec (.remapWrite l .core i v) s = .next u
        ∧ (v.getLsbD 31 = true → (u.lane l).reg (Reg.memRemap i) = BitVec.ofNat 32 (2 ^ 31 + bits v 25 5 * 2 ^ 25 + bits v 0 23)
            ∧ (u.lane l).bit Reg.memEvent 2 = true)
        ∧ (v.getLsbD 31 = false → (u.lane l).bit (Reg.memRemap i) 31 = false)
        ∧ s.keeps u (hideMem l ∘ hideFaults) (inLane l memRegs))
    ∧ (L.initing = false → ∃ u, exec (.eraseWrite l (.host p) v) s = .next u ∧ (u.lane l).bit Reg.memEvent 8 = true ∧ (u.lane l).mem = L.mem
        ∧ s.keeps u hideNone (inLane l [Reg.memEvent]))
    ∧ (L.initing = false → bits v 24 5 ≤ 18 → bits v 16 5 ≤ 18 → bits v 8 5 ≤ 18 →
      ∃ u, exec (.eraseWrite l .core v) s = .next u ∧ s.keeps u (hideMem l) (inLane l memRegs)
        ∧ (∀ k : Fin 3, (u.lane l).bit Reg.memErase (eraseField k).1 = v.getLsbD (eraseField k).1
            ∧ (u.lane l).fld Reg.memErase (eraseField k).2 5 = bits v (eraseField k).2 5))
    ∧ (v.getLsbD 0 = true → v.getLsbD 1 = false →
      let x := L.scrubAddr Reg.memScrubStart
      let y := L.scrubAddr Reg.memScrubEnd
      ∃ u, exec (.scrubGo l v) s = .next u
        ∧ (L.mem.scrub = none → (arrayOf x).isSome = true → arrayOf x = arrayOf y → x ≤ y →
            (u.lane l).reg Reg.memScrubCtrl = L.written Reg.memScrubCtrl v ∧ (u.lane l).mem = { L.mem with scrub := some { next := x, last := y, start := L.time }, scrubDone := false }
              ∧ s.keeps u (hideMem l) (inLane l [Reg.memScrubCtrl]))
        ∧ (L.mem.scrub = none → (arrayOf x).isSome = false ∨ arrayOf x ≠ arrayOf y ∨ y < x → (u.lane l).mem = L.mem
            ∧ (u.lane l).bit Reg.memEvent 8 = true ∧ s.keeps u hideNone (inLane l [Reg.memEvent]))
        ∧ (L.mem.scrub.isSome = true → (u.lane l).reg Reg.memScrubCtrl = L.written Reg.memScrubCtrl v ∧ s.keeps u hideNone (inLane l [Reg.memScrubCtrl])))
    ∧ (∀ q, L.mem.scrub = some q → v.getLsbD 0 = false → v.getLsbD 1 = true →
      ∃ u, exec (.scrubAbort l v) s = .next u ∧ (u.lane l).mem = { L.mem with scrub := none, scrubDone := true }
        ∧ (u.lane l).reg Reg.memScrubRead = BitVec.ofNat 32 (satNat q.read 32) ∧ (u.lane l).reg Reg.memScrubCorr = BitVec.ofNat 32 (satNat q.corr 32)
        ∧ (u.lane l).bit Reg.memEvent 5 = true
        ∧ s.keeps u (hideMem l ∘ hideIn l fun L => { L with store := {} }) (inLane l memRegs))
    ∧ (∀ q, L.mem.scrub = some q → L.initing = false → s.writesFirst l q.next 16 = s →
      let wd := L.rawWord q.next
      let f := if (L.remapOf q.next).isSome then none else L.erased ((arrayOf q.next).getD 0)
      let clean := decodeWord f wd.1 wd.2 = .clean ∧ (L.mem.merge.any fun e => e.addr == q.next) = false
      ∃ u, exec (.scrubWord l) s = .next u ∧ s.keeps u (hideMem l ∘ hideFaults ∘ hideIn l fun L => { L with store := {} }) (inLane l memRegs)
        ∧ (q.next < q.last → (u.lane l).mem.scrub.map (fun x => (x.next, x.read, x.last)) = some (q.next + 16, q.read + 1, q.last))
        ∧ (q.next < q.last → clean → (u.lane l).mem = { L.mem with scrub := some { q with next := q.next + 16, read := q.read + 1 } }
            ∧ s.keeps u (hideMem l) (inBoth []))
        ∧ (q.last ≤ q.next → (u.lane l).bit Reg.memEvent 5 = true ∧ (u.lane l).reg Reg.memScrubRead = BitVec.ofNat 32 (satNat (q.read + 1) 32)
            ∧ (q.core = none → (u.lane l).mem.scrub = none ∧ (u.lane l).mem.scrubDone = true)))
    ∧ (∀ q, L.mem.scrub = some q → L.initing = true → exec (.scrubWord l) s = .next s.settle)
    ∧ (a.toNat % 4 = 0 → L.waitsInit a.toNat 4 = true →
      ∃ u, exec (.registerWrite l w a v) s = .next u ∧ (u.lane l).mem = { L.mem with waits := L.mem.waits ++ [(w, a.toNat, leBytes v.toNat 4)] }
        ∧ s.keeps u (hideMem l) (inBoth []))
    ∧ (a.toNat % 4 = 0 → L.initing = false → arrayOf a.toNat = some 0 ∨ arrayOf a.toNat = some 2 →
      ∃ u, exec (.registerWrite l w a v) s = .next u ∧ s.stored u l a.toNat (leBytes v.toNat 4))
    ∧ (∀ r ∈ [Reg.wptHostsil, Reg.cfgStage, Reg.clkSupwarn, Reg.bstEvent 1, Reg.odoLag, Reg.chnEvent 7], s.takesWrite l r →
      ∃ u, exec (.registerWrite l w (BitVec.ofNat 32 r) v) s = .next u ∧ (u.lane l).reg r = L.written r v
        ∧ s.keeps u hideNone (inLane l [r]))

/-- MAIN_OUTPUT of a running channel: ADCa_OUT takes the calibrated value and it is kept for placement; a waiting mark of
an open frame that it lets be placed becomes the next sample word, in ADCa_LAST and at its address in main SRAM.
FAST_OUTPUT: ADCa_FAST takes it; an armed crossing sets the flag and ADCa_CTIME. SCAN_CONVERSION_DONE: the result goes
to LAST and, with room, to the queue with its second word, and the sequence goes on or its pass ends; an injected one
sets its flag. GO starts a pass, is kept, or sets the overrun flag; INJ starts or keeps an injected conversion;
SCAN_ENABLE starts the sequence or waits; QRD_WRITE takes the value. Only this modulator's part of the lane changes.
PASS_DONE at every pass, scan formats and a request kept while the list runs are the model's (log entries 23, 44 and
97). -/
def Obligations.SamplesAndScans : Prop :=
  ∀ (s : State) (l : LaneId) (a : Fin 24) (m : Fin 8) (k : Fin 4) (x : Int) (f : BitVec 12) (ov : Bool) (v : Word), s.runs l →
    let L := s.lane l
    let c := L.ac a
    let sc := L.sc m
    (L.acRuns a = true → c.refill = none →
      let y := calValue (L.acCoef l a) x
      let o := ov || decide (y ≠ satSigned y 24)
      let left := L.bit (Reg.acCtrl a) 23
      let outs := ((y, L.time, o) :: c.outs).take 32
      ∃ u, exec (.mainOutput l a x ov) s = .next u ∧ ((u.lane l).ac a).outs = outs
        ∧ (u.lane l).reg (Reg.acOut a) = sampleWord left (ofSigned (satSigned y 24) 24) (if o then 0x80 else 0)
        ∧ (c.marks = [] → c.closing = false → s.keeps u (hideAcq l) (inLane l [Reg.acOut a]) ∧ (u.lane l).mem = L.mem)
        ∧ (∀ mk, c.marks.head? = some mk → c.marks.length = 1 → c.state = .capture → c.closing = false → c.count + 1 ≠ L.acLen a →
            L.sampleAddr a c.frame c.count + 4 ≤ 0x00200000 → L.initing = false →
            ∀ vo, (match placeMark outs mk (L.acGd a) (L.acT a) with | .value v o => some (v, o) | _ => none) = some vo →
              let w := sampleWord left (ofSigned (satSigned vo.1 24) 24) ((if vo.2 then 0x80 else 0) + if mk.late then 0x40 else 0)
              (u.lane l).reg (Reg.acLast a) = w ∧ ((u.lane l).ac a).marks = []
                ∧ (mk.framed = true → ((u.lane l).ac a).count = c.count + 1 ∧ s.wrote u l (L.sampleAddr a c.frame c.count) (leBytes w.toNat 4))
                ∧ (mk.framed = false → ((u.lane l).ac a).count = c.count ∧ (u.lane l).mem = L.mem))
        ∧ s.keeps u (hideAcq l) (inLane l (acRegs a)))
    ∧ (L.acRuns a = true →
      let hi := toSigned (L.fld (Reg.acComp a) 16 12) 12
      let lo := toSigned (L.fld (Reg.acComp a) 0 12) 12
      let rise := c.lay && decide (hi ≤ f.toInt)
      let fall := c.layHi && decide (f.toInt ≤ lo)
      let hit := match L.fld (Reg.acComp a) 29 2 with | 1 => fall | 2 => rise || fall | _ => rise
      ∃ u, exec (.fastOutput l a f) s = .next u ∧ (u.lane l).reg (Reg.acFast a) = f.setWidth 32
        ∧ (hit = true → L.compArmed a = true → (u.lane l).bit (Reg.acEvent a) 2 = true
            ∧ (u.lane l).reg (Reg.acCtime a) = BitVec.ofNat 32 (L.time - 1000))
        ∧ (hit = false ∨ L.compArmed a = false → s.keeps u (hideAcq l) (inLane l [Reg.acFast a]) ∧ (u.lane l).mem = L.mem)
        ∧ s.keeps u (hideAcq l) (inLane l (acRegs a ++ (List.range 8).map Reg.scEvent)))
    ∧ (L.bit (Reg.scCtrl m) 31 = true → L.power.idle = false → sc.state = .seq → sc.inj = none →
      let e := sc.entry
      let Q := (s.qrdAhead l m).lane l
      let y := calValue (L.scCoef l m) x
      let cl := max 0 (min y (2 ^ 24 - 1))
      let st := if ov || decide (y ≠ cl) then 0x80 else 0
      let w := sampleWord (L.bit (Reg.scCtrl m) 24) (if sc.conv.getLsbD 19 then (cl.toNat + 2 ^ 23) % 2 ^ 24 else cl.toNat) st
      let w1 := e * 2 ^ 27 + bits sc.conv 24 4 * 2 ^ 23 + L.time / 4 % 2 ^ 23
      let adr := (L.reg (Reg.scQbase m)).toNat % 2 ^ 21 / 8 * 8 + 8 * ((L.reg (Reg.scQwr m)).toNat % L.scQlen m)
      ∃ u, exec (.scanConversionDone l m x ov) s = .next u ∧ (u.lane l).reg (Reg.scLast m) = w
        ∧ (Q.scFill m < Q.scQlen m → (u.lane l).reg (Reg.scQwr m) = L.reg (Reg.scQwr m) + 1
            ∧ (adr + 8 ≤ 0x00200000 → L.initing = false → s.wrote u l adr (leBytes w.toNat 4 ++ leBytes w1 4)))
        ∧ (Q.scQlen m ≤ Q.scFill m → (u.lane l).bit (Reg.scEvent m) 6 = true
            ∧ (L.bit (Reg.scQctrl m) 31 = false → (u.lane l).reg (Reg.scQwr m) = L.reg (Reg.scQwr m)))
        ∧ (L.fld (Reg.scCtrl m) 16 5 ≤ e → ((u.lane l).sc m).entry = 0 ∧ (u.lane l).bit (Reg.scEvent m) 1 = true)
        ∧ (e < L.fld (Reg.scCtrl m) 16 5 → sc.trig = false → ((u.lane l).sc m).entry = e + 1)
        ∧ s.keeps u (hideAcq l) (inLane l (scRegs m)))
    ∧ (L.bit (Reg.scCtrl m) 31 = true → L.power.idle = false → sc.state = .inj → sc.inj = some k.val →
      let y := calValue (L.scCoef l m) x
      let cl := max 0 (min y (2 ^ 24 - 1))
      let st := (if ov || decide (y ≠ cl) then 0x80 else 0) + 0x10 + if sc.convCald then 0x20 else 0
      ∃ u, exec (.scanConversionDone l m x ov) s = .next u ∧ (u.lane l).bit (Reg.scEvent m) 2 = true
        ∧ (u.lane l).reg (Reg.scLast m) = sampleWord (L.bit (Reg.scCtrl m) 24) (if sc.conv.getLsbD 16 then (cl.toNat + 2 ^ 23) % 2 ^ 24 else cl.toNat) st
        ∧ ((u.lane l).sc m).entry = sc.entry ∧ s.keeps u (hideAcq l) (inLane l (scRegs m)))
    ∧ (s.takesWrite l (Reg.scCtrl m) → L.bit (Reg.scCtrl m) 31 = true → v.getLsbD 31 = true → L.bit (Reg.scCtrl m) 30 = v.getLsbD 30 →
        v.getLsbD 25 = true →
      let runs := v.getLsbD 30 && !v.getLsbD 29
      ∃ u, exec (.go l m v) s = .next u ∧ (u.lane l).mem = L.mem ∧ (runs = false → (u.lane l).acq = L.acq)
        ∧ (runs = true → (sc.pass = true ∨ sc.trig = true) → (u.lane l).bit (Reg.scEvent m) 4 = true ∧ (u.lane l).acq = L.acq)
        ∧ (runs = true → sc.pass = false → sc.trig = false → L.power.idle = true ∨ sc.state = .calWait ∨ sc.state = .cal → ((u.lane l).sc m).trig = true)
        ∧ (runs = true → sc.pass = false → sc.trig = false → L.power.idle = false → sc.state = .idle → sc.pend = 0 →
            ((u.lane l).sc m).pass = true ∧ ((u.lane l).sc m).entry = 0 ∧ ((u.lane l).sc m).state = .seq)
        ∧ s.keeps u (hideAcq l) (inLane l [Reg.scCtrl m, Reg.scEvent m]))
    ∧ (s.takesWrite l (Reg.scInj m) → L.bit (Reg.scCtrl m) 31 = true → bits v 0 4 = 2 ^ k.val → L.fld (Reg.scInjCfg m k) 30 2 = 1 →
      ∃ u, exec (.inj l m v) s = .next u ∧ (u.lane l).mem = L.mem
        ∧ (sc.pend.getLsbD k = true → (u.lane l).bit (Reg.scEvent m) 5 = true ∧ (u.lane l).acq = L.acq)
        ∧ (sc.pend = 0 → sc.state = .idle → L.power.idle = false →
            ((u.lane l).sc m).state = .inj ∧ ((u.lane l).sc m).inj = some k.val)
        ∧ (sc.pend = 0 → sc.state = .seq → ((u.lane l).sc m) = { sc with pend := putBit 0 k true, cald := putBit sc.cald k false, pre := true })
        ∧ (sc.pend.getLsbD k = false → sc.state = .inj → ((u.lane l).sc m).pend.getLsbD k = true ∧ ((u.lane l).sc m).inj = sc.inj)
        ∧ s.keeps u (hideAcq l) (inLane l [Reg.scInj m, Reg.scEvent m]))
    ∧ (s.takesWrite l (Reg.scCtrl m) → L.bit (Reg.scCtrl m) 31 = false → v.getLsbD 31 = true → v.getLsbD 25 = false →
      ∃ u, exec (.scanEnable l m v) s = .next u ∧ (u.lane l).reg (Reg.scCtrl m) = L.written (Reg.scCtrl m) v
        ∧ ((u.lane l).sc m).state = (if v.getLsbD 30 then .idle else .seq) ∧ ((u.lane l).sc m).entry = 0 ∧ ((u.lane l).sc m).pend = 0
        ∧ s.keeps u (hideAcq l) (inLane l [Reg.scCtrl m, Reg.scEvent m]) ∧ (u.lane l).mem = L.mem)
    ∧ (s.takesWrite l (Reg.scQrd m) →
      ∃ u, exec (.qrdWrite l m v) s = .next u
        ∧ (sc.qrdFirst ≠ some L.time → (u.lane l).reg (Reg.scQrd m) = v + BitVec.ofNat 32 (if sc.advAt = L.time / 4 then sc.adv else 0))
        ∧ (sc.qrdFirst = some L.time → (u.lane l).reg (Reg.scQrd m) = L.reg (Reg.scQrd m) ∧ ((u.lane l).sc m).qrdFirst = none)
        ∧ s.keeps u (hideAcq l) (inLane l [Reg.scQrd m, Reg.scEvent m]) ∧ (u.lane l).mem = L.mem)

/-- CAL, none running: every enabled modulator calibrates, an angle channel from the next MCLK edge, and with none
CAL_DONE is set. CALIBRATION_DONE, not in IDLE: good coefficients are taken, others are kept out and flagged.
REFILL_DONE, not in IDLE: capture re-arms. ANGLE_CHANNEL_ENABLE: armed or idle by START_MODE, refused with CFG_REJ
where the window is bad; ANGLE_CHANNEL_DISABLE: idle. ADC_PROTECTED_WRITE and COMBUSTION_CONFIG_WRITE: taken while not
enabled; a change while enabled only sets CFG_REJ. SUMMARY_WRITTEN: the record stands at its place, and a lane that
decides, alone or as the authority lane, acts on its verdict. GUARD_VERDICT: acted on, or kept until the own one, or
dropped after DEC_MISS of its record. GUARD_VERDICT_TIMEOUT after 4 µs: the own verdict, DEC_MISS. CUT_CLR: the
cylinder's cut ends. CAL with nothing to calibrate is the model's reading (log entry 43), and so is who acts on a
verdict with no authority (log entry 106). -/
def Obligations.CalibrationAndCombustion : Prop :=
  ∀ (s : State) (l : LaneId) (a c : Fin 24) (m : Fin 8) (j : Fin 1440) (ofs : Int) (gain : BitVec 24) (v : Word), s.runs l →
    let L := s.lane l
    let tail := [Reg.adcEvent, Reg.adcStat, Reg.adcCalfail] ++ (List.range 24).flatMap fun b => [Reg.acEvent b]
    let dma := Reg.dmaReqovr :: (List.range 4).map Reg.dmaReqcnt ++ memRegs
    let waits := (cylRoutes c).any fun r => (L.route r).armed.any (·.waited)
    let cut := fun (u : State) (w : Word) => bits w 24 8 ≠ 0 → ∀ r ∈ cylRoutes c, vget (u.lane l).cuts r 0 =
      (if (if r < 192 then w.getLsbD (r % 8) else w.getLsbD (8 + r % 2)) then bits w 24 8 + 1 else vget L.cuts r 0)
    (∃ u, exec (.cal l v) s = .next u ∧ (u.lane l).reg Reg.adcCtrl = L.written Reg.adcCtrl v
        ∧ (v.getLsbD 0 = true → L.acq.calRun = 0 →
            (∀ b : Fin 24, (u.lane l).acq.calRun.getLsbD b = L.bit (Reg.acCtrl b) 31
                ∧ (u.lane l).ac b = { L.ac b with calDue := (L.ac b).calDue || L.bit (Reg.acCtrl b) 31 })
              ∧ (∀ b : Fin 8, (u.lane l).acq.calRun.getLsbD (24 + b) = L.bit (Reg.scCtrl b) 31)
              ∧ ((u.lane l).acq.calRun = 0 → (u.lane l).bit Reg.adcEvent 0 = true))
        ∧ (v.getLsbD 0 = false ∨ L.acq.calRun ≠ 0 → s.keeps u hideNone (inLane l [Reg.adcCtrl]))
        ∧ s.keeps u (hideAcq l) (inLane l (Reg.adcCtrl :: tail ++ dma)))
    ∧ (∀ i : Fin 32, L.acq.calRun.getLsbD i = true → L.power.idle = false →
        (if i.val < 24 then (L.ac i).calDue = false else (L.sc (i - 24)).state = .cal) →
      let ok := coefOk ofs gain
      let unit := if h : i.val < 24 then Modulator.ac ⟨i.val, h⟩ else .sc ⟨i.val % 8, Nat.mod_lt _ (by decide)⟩
      let new : Option (BitVec 24 × BitVec 24) := some (BitVec.ofInt 24 ofs, gain)
      ∃ u, exec (.calibrationDone l unit ofs gain) s = .next u ∧ (u.lane l).bit Reg.adcCalfail i = !ok
        ∧ (u.lane l).acq.calRun.getLsbD i = false ∧ (ok = false → (u.lane l).bit Reg.adcEvent 1 = true)
        ∧ (i.val < 24 → ((u.lane l).ac i).coef = (if ok then new else (L.ac i).coef) ∧ ((u.lane l).ac i).refill = some (L.time + L.acRefill i))
        ∧ (24 ≤ i.val → ((u.lane l).sc (i - 24)).coef = if ok then new else (L.sc (i - 24)).coef)
        ∧ ((u.lane l).acq.calRun = 0 → (u.lane l).bit Reg.adcEvent 0 = true) ∧ (u.lane l).mem = L.mem
        ∧ s.keeps u (hideAcq l) (inLane l (Reg.fltLost :: tail)))
    ∧ (∀ t, (L.ac a).refill = some t → t ≤ L.time → L.power.idle = false →
      ∃ u, exec (.refillDone l a) s = .next u
        ∧ (u.lane l).ac a = { L.ac a with
            refill := none, calAbort := false
            state := if (L.ac a).state = .cal then (if (L.ac a).calAbort then .idle else .armed) else (L.ac a).state }
        ∧ (u.lane l).mem = L.mem ∧ s.keeps u (hideAcq l) (inBoth []))
    ∧ (s.takesWrite l (Reg.acCtrl a) → L.bit (Reg.acCtrl a) 31 = false → v.getLsbD 31 = true →
      let new := L.written (Reg.acCtrl a) v
      let bad := L.acLen a = 0 ∨ bits new 18 2 % 3 ≠ 0 ∧ L.fld (Reg.acFstride a) 4 14 * 16 < 4 * L.acLen a
      ∃ u, exec (.angleChannelEnable l a v) s = .next u ∧ s.keeps u (hideAcq l) (inLane l [Reg.acCtrl a, Reg.acEvent a]) ∧ (u.lane l).mem = L.mem
        ∧ (bad → (u.lane l).reg (Reg.acCtrl a) = setBits new 31 1 0 ∧ (u.lane l).bit (Reg.acEvent a) 7 = true ∧ (u.lane l).acq = L.acq)
        ∧ (¬ bad → (u.lane l).reg (Reg.acCtrl a) = new ∧ ((u.lane l).ac a).state = (if bits new 18 2 % 3 = 0 then .idle else .armed)))
    ∧ (s.takesWrite l (Reg.acCtrl a) → L.bit (Reg.acCtrl a) 31 = true → v.getLsbD 31 = false →
      ∃ u, exec (.angleChannelDisable l a v) s = .next u ∧ (u.lane l).bit (Reg.acCtrl a) 31 = false ∧ ((u.lane l).ac a).state = .idle
        ∧ ((u.lane l).ac a).marks = [] ∧ ((L.ac a).state = .capture → (u.lane l).bit (Reg.acEvent a) 1 = true)
        ∧ s.keeps u (hideAcq l) (inLane l (Reg.acCtrl a :: tail ++ dma)))
    ∧ (∀ r ∈ [(AdcProtReg.acWin a, Reg.acCtrl a, Reg.acEvent a), (.acFbase a, Reg.acCtrl a, Reg.acEvent a), (.acFstride a, Reg.acCtrl a, Reg.acEvent a),
          (.acRbase a, Reg.acCtrl a, Reg.acEvent a), (.scQbase m, Reg.scCtrl m, Reg.scEvent m), (.scQctrl m, Reg.scCtrl m, Reg.scEvent m), (.acCtrl a, Reg.acCtrl a, Reg.acEvent a)],
        s.takesWrite l r.2.1 → (r.1 = .acCtrl a → v.getLsbD 31 = L.bit (Reg.acCtrl a) 31) →
      let p := adcProtAddr r.1
      ∃ u, exec (.adcProtectedWrite l r.1 v) s = .next u
        ∧ (L.bit r.2.1 31 = false → (u.lane l).reg p = L.written p v ∧ s.keeps u hideNone (inLane l [p, r.2.2]))
        ∧ (L.bit r.2.1 31 = true → (u.lane l).reg p = L.reg p ∧ (L.written p v ≠ L.reg p → (u.lane l).bit r.2.2 7 = true)
            ∧ s.keeps u hideNone (inLane l [r.2.2])))
    ∧ (∀ q ∈ [Reg.cmbSbase, Reg.cmbVd j],
      ∃ u, exec (.combustionConfigWrite l (BitVec.ofNat 32 q) v) s = .next u
        ∧ (L.bit Reg.cmbCtrl 31 = false → (u.lane l).reg q = L.written q v ∧ s.keeps u hideNone (inLane l [q]))
        ∧ (L.bit Reg.cmbCtrl 31 = true → (L.written q v ≠ L.reg q → (u.lane l).bit Reg.cmbEvent 6 = true) ∧ s.keeps u hideNone (inLane l [Reg.cmbEvent])))
    ∧ (∀ x, (L.cyl c).closed = some x →
      let trip := x.1.trips x.2.aborted
      let swr := L.reg Reg.cmbSwr
      let adr := (L.reg Reg.cmbSbase).toNat % 2 ^ 21 / 16 * 16 + 48 * (swr.toNat % 2 ^ (4 + min (L.fld Reg.cmbCtrl 16 4) 8))
      ∃ u, exec (.summaryWritten l c) s = .next u ∧ (u.lane l).reg Reg.cmbSwr = swr + 1 ∧ ((u.lane l).cyl c).closed = none
        ∧ (u.lane l).bit Reg.cmbEvent (if x.2.aborted then 1 else 0) = true
        ∧ (adr + 48 ≤ 0x00200000 → L.initing = false → s.wrote u l adr (wordBytes ((swr + 1) :: L.recordWords c x.1 x.2 trip)))
        ∧ (s.role l ≠ .standby → trip = true → (u.lane l).bit Reg.cmbEvent 2 = true
            ∧ (u.lane l).fld (Reg.cylStat c) 0 16 = min (L.fld (Reg.cylStat c) 0 16 + 1) 0xFFFF ∧ cut u x.1.cut)
        ∧ (s.role l ≠ .standby → trip = false → (u.lane l).cuts = L.cuts)
        ∧ s.keeps u (hideAcq l ∘ hideXwk) (inLane l (Reg.cmbSwr :: Reg.cmbEvent :: Reg.cylStat c :: dma)))
    ∧ (∀ x, takeVerdict L.xwk.rx = some x → x.1.1 = c.val →
      let hit := (L.cyl c).own.any fun o => o.1 == x.1.2.1
      ∃ u, exec (.guardVerdict l) s = .next u ∧ s.keeps u (hideAcq l ∘ hideXwk ∘ hideSched l) (inLane l ([Reg.cmbEvent, Reg.cylStat c, Reg.fltLost] ++ schedRegs))
        ∧ (waits = false → s.keeps u (hideAcq l ∘ hideXwk) (inLane l [Reg.cmbEvent, Reg.cylStat c, Reg.fltLost]) ∧ (u.lane l).mem = L.mem)
        ∧ (hit = true → ((u.lane l).cyl c).own = none ∧ (x.1.2.2 = true → (u.lane l).bit Reg.cmbEvent 2 = true))
        ∧ (hit = false → (u.lane l).cuts = L.cuts ∧ ((u.lane l).cyl c).early =
            (if (L.cyl c).missed = some x.1.2.1 then (L.cyl c).early else (L.cyl c).early.filter (·.1 != x.1.2.1) ++ [(x.1.2.1, x.1.2.2)])))
    ∧ (∀ o, (L.cyl c).own = some o → o.2.2.1 + 1600 ≤ L.time → Instr.guardVerdict l ∉ s.pending →
      ∃ u, exec (.guardVerdictTimeout l c) s = .next u ∧ (u.lane l).bit Reg.cmbEvent 5 = true ∧ ((u.lane l).cyl c).own = none
        ∧ (o.2.1 = true → (u.lane l).bit Reg.cmbEvent 2 = true ∧ cut u o.2.2.2) ∧ (o.2.1 = false → (u.lane l).cuts = L.cuts)
        ∧ (waits = false → s.keeps u (hideAcq l) (inLane l [Reg.cmbEvent, Reg.cylStat c, Reg.fltLost]) ∧ (u.lane l).mem = L.mem)
        ∧ s.keeps u (hideAcq l ∘ hideSched l) (inLane l ([Reg.cmbEvent, Reg.cylStat c, Reg.fltLost] ++ schedRegs)))
    ∧ (v.getLsbD 30 = true →
      ∃ u, exec (.cutClr l c v) s = .next u
        ∧ (∀ r : Fin 240, vget (u.lane l).cuts r 0 = if (cylRoutes c).contains r.val then 0 else vget L.cuts r 0)
        ∧ s.keeps u (hideAcq l) (inLane l [Reg.cylCtrl c, Reg.cmbEvent]) ∧ (u.lane l).mem = L.mem ∧ (u.lane l).acq = L.acq)

/-- Any frame command. A bad CRC or byte count: CRC_ERR, counted, no response. A field that breaks R322 or R323: BAD_REQ,
answered only where a free tag is used; an opcode not in the table (the command BAD_REQ) is so discarded, its watchdog
restarted. A tag in flight: TAG_DUP. A port not ready: WAKE_DISC, and it leaves DOZE. NOP only restarts the watchdog.
DOZE suspends the receiver. READ_RESP releases, then drives the block; those clocked out are delivered, and one cut
short is not, nor those behind it (log entry 103). A request behind a held one, an action write behind an earlier
WRITE, a READ behind a WRITE of the other lane that is mirrored back, or an access to an array that is being
initialised, is held. MODERATION_TIMEOUT sets RESP_SIG; PORT_WAKE ends DOZE, and wakes a lane in standby; PORT_READY 5
µs later. HOST_WDOG, unless a valid frame waits: EXPIRED, the policy of WPT_HOSTSIL on the owned routes, and a notice
to the other lane, which does the same (HOST_SILENCE_NOTICE). WATCHDOG_ENABLE starts it. A frame that breaks R322 and
names a tag in flight is log entry 63. -/
def Obligations.FramesAndTimersOfAPort : Prop :=
  ∀ (s : State) (p q : Fin 4) (c : Instr) (op : Byte) (f : Frame) (taken : Nat) (v : Word), s.fitted (portLane p) = true →
    let l := portLane p
    let L := s.lane l
    let x := s.port p
    let t := s.framed p f
    let regs := [Reg.hstEvent p, Reg.hstCnt p]
    let soon := s.pending.any fun i => match frameOf i with | some (n, o, g) => n == p.val && x.awake s.now && !L.held l (Reg.hstStat p) && frameGood o g | none => false
    let policy := fun (m : LaneId) (u : State) (n : Fin 4) => ∀ r : Fin 240, (s.lane m).owner r = n.val →
      let code := (s.lane m).fld Reg.wptHostsil (2 * n) 2
      (code = 1 → (u.lane m).sched = (s.lane m).sched) ∧ (code = 2 → (u.lane m).sched.idleReq.getLsbD r = true)
        ∧ (code ≠ 1 → code ≠ 2 → (u.lane m).sched.detReq.getLsbD r = true)
    (frameOf c = some (p.val, op, f) → L.on = true → L.held l (Reg.hstStat p) = false → x.awake s.now = true →
      (frameGood op f = false →
        ∃ u, exec c s = .next u ∧ (u.lane l).bit (Reg.hstEvent p) 0 = true
          ∧ (u.lane l).fld (Reg.hstCnt p) 0 16 = min (L.fld (Reg.hstCnt p) 0 16 + 1) 0xFFFF
          ∧ u.port p = { x with quad := f.quad, wakeTo := none } ∧ s.keeps u (hidePort p ∘ hideFaults) (inLane l (Reg.fltLost :: regs)))
      ∧ (frameGood op f = true → frameFields op f = false →
        let ans := usesTag op && !x.tags.contains (frameTag f)
        ∃ u, exec c s = .next u ∧ (u.lane l).bit (Reg.hstEvent p) 1 = true ∧ (ans = true → t.answered u p (answer (frameTag f) 7 [] (if op = 6 ∧ f.addr.toNat < 4 then s.streamInfo p f.addr.toNat else 0)))
          ∧ (ans = false → u.port p = s.framedPort p f) ∧ s.keeps u (hidePort p) (inLane l regs))
      ∧ (frameGood op f = true → frameFields op f = true → usesTag op = true → x.tags.contains (frameTag f) = true →
        ∃ u, exec c s = .next u ∧ (u.lane l).bit (Reg.hstEvent p) 2 = true ∧ u.port p = s.framedPort p f
          ∧ s.keeps u (hidePort p) (inLane l regs)))
    ∧ (6 < op.toNat → frameGood op f = true → L.on = true → L.held l (Reg.hstStat p) = false → x.awake s.now = true →
      ∃ u, exec (.badReq p op f) s = .next u ∧ (u.lane l).bit (Reg.hstEvent p) 1 = true ∧ u.port p = s.framedPort p f
        ∧ (u.lane l).fld (Reg.hstCnt p) 16 16 = min (L.fld (Reg.hstCnt p) 16 16 + 1) 0xFFFF ∧ s.keeps u (hidePort p) (inLane l regs))
    ∧ (frameOf c = some (p.val, op, f) → L.on = true → x.awake s.now = false →
      ∃ u, exec c s = .next u ∧ (u.lane l).bit (Reg.hstEvent p) 7 = true ∧ (u.port p).doze = false ∧ (u.port p).reqs = x.reqs
        ∧ (u.port p).queue = x.queue ∧ s.keeps u (hidePort p) (inLane l [Reg.hstEvent p]))
    ∧ (s.takesFrame p 0 f →
      ∃ u, exec (.nop p f) s = .next u ∧ u.port p = s.framedPort p f
        ∧ (u.lane l).fld (Reg.hstCnt p) 16 16 = min (L.fld (Reg.hstCnt p) 16 16 + 1) 0xFFFF ∧ s.keeps u (hidePort p) (inLane l [Reg.hstCnt p]))
    ∧ (s.takesFrame p 5 f →
      let y := s.framedPort p f
      ∃ u, exec (.doze p f) s = .next u ∧ (u.lane l).bit (Reg.hstEvent p) 5 = true ∧ s.keeps u (hidePort p) (inLane l regs)
        ∧ u.port p = (if L.bit (Reg.hstWdog p) 30 then { y with doze := true, wdEnd := (y.wdLeft.map (s.now + ·)).or y.wdEnd, wdLeft := none }
            else { y with doze := true, wdLeft := (y.wdEnd.map (· - s.now)).or y.wdLeft, wdEnd := none }))
    ∧ (s.takesFrame p 4 f →
      let k := min (bits f.arg 0 8) x.lastDel
      let w := x.queue.drop k
      let n := if bits f.arg 8 8 = 0 then w.length else min (bits f.arg 8 8) w.length
      let head : List Byte := [BitVec.ofNat 8 n, BitVec.ofNat 8 ((w.drop n).filter (!·.sent)).length, if L.bit (Reg.hstEvent p) 8 then 1 else 0, 0]
      ∃ u, exec (.readResp p f taken) s = .next u ∧ (u.port p).queue = respSent w n (min taken n) ∧ (u.port p).reqs = x.reqs ∧ (u.port p).lastDel = min taken n
        ∧ (u.port p).out = head ++ leBytes (crc32c head).toNat 4 ++ ((w.take n).map Resp.bytes).flatten
        ∧ (w = [] → (u.port p).respSig = false ∧ (u.port p).modEnd = none) ∧ (w ≠ [] → (u.port p).respSig = x.respSig)
        ∧ s.keeps u (hidePort p) (inLane l [Reg.hstCnt p]))
    ∧ (s.takesFrame p 1 f → (x.reqs.any Req.isHeld) = true ∨ isActionWrite 1 f = true ∧ (x.reqs.any Req.isWrite) = true ∨ L.reqWaits 1 f = true →
      ∃ u, exec (.write p f) s = .next u ∧ (u.port p).reqs = x.reqs ++ [⟨frameTag f, .held 1 f⟩] ∧ (u.port p).queue = x.queue
        ∧ s.keeps u (hidePort p) (inLane l [Reg.hstCnt p]))
    ∧ (s.takesFrame p 2 f → (x.reqs.any Req.isHeld) = true ∨ f.addr.getLsbD 31 = false ∧ (x.reqs.any Req.comesBack) = true ∨ L.reqWaits 2 f = true →
      ∃ u, exec (.read p f) s = .next u ∧ (u.port p).reqs = x.reqs ++ [⟨frameTag f, .held 2 f⟩] ∧ (u.port p).queue = x.queue
        ∧ s.keeps u (hidePort p) (inLane l [Reg.hstCnt p]))
    ∧ (∀ e, x.modEnd = some e → e ≤ s.now →
      ∃ u, exec (.moderationTimeout p) s = .next u ∧ u.port p = { x with respSig := true, modEnd := none, unsig := 0 }
        ∧ s.keeps u (hidePort p) (inBoth []))
    ∧ (∃ u, exec (.portWake p) s = .next u
        ∧ (x.doze = true → (u.lane l).bit (Reg.hstEvent p) 6 = true ∧ (u.port p).doze = false ∧ (u.port p).wakeTo = some (s.now + 2000)
            ∧ (L.run ≠ .standby → u.port p = { x with
                doze := false, wakeTo := some (s.now + 2000), wdEnd := (x.wdLeft.map (s.now + ·)).or x.wdEnd, wdLeft := none }))
        ∧ (x.doze = false → L.run ≠ .standby → s.keeps u hideNone (inBoth []))
        ∧ (L.run = .standby → L.bit Reg.icuWake 2 = true → L.power.entry = none → (u.lane l).power.waking = true)
        ∧ (L.run ≠ .standby → s.keeps u (hidePort p) (inLane l [Reg.hstEvent p])))
    ∧ (∀ e, x.wakeTo = some e →
      ∃ u, exec (.portReady p) s = .next u ∧ u.port p = (if e ≤ s.now then { x with wakeTo := none } else x)
        ∧ s.keeps u (hidePort p) (inBoth []))
    ∧ (soon = true → exec (.hostWdog p) s = .next s.settle)
    ∧ (∀ e, x.wdEnd = some e → e ≤ s.now → L.on = true → soon = false →
      ∃ u, exec (.hostWdog p) s = .next u ∧ u.port p = { x with wdEnd := none, wdLeft := none, expired := true }
        ∧ (u.lane l).bit (Reg.hstEvent p) 4 = true ∧ policy l u p
        ∧ (s.reaches l → ((u.lane (otherLane l)).xwk.rx.any fun m => m == .silence p) = true)
        ∧ s.keeps u (hidePort p ∘ hideFaults ∘ hideXwk ∘ hideIn l fun L => { L with sched := {} }) (inLane l [Reg.hstEvent p, Reg.fltLost]))
    ∧ ((L.xwk.rx.head?.bind fun m => match m with | .silence n => some n | _ => none) = some q.val → L.on = true →
      ∃ u, exec (.hostSilenceNotice l) s = .next u ∧ policy l u q
        ∧ s.keeps u (hideXwk ∘ hideIn l fun L => { L with sched := {} }) (inBoth []))
    ∧ (s.takesWrite l (Reg.hstWdog p) →
      let time := max 1 (min (bits (L.written (Reg.hstWdog p) v) 0 14) 10000) * 400000
      let hold := x.doze && !v.getLsbD 30
      ∃ u, exec (.watchdogEnable p v) s = .next u ∧ (u.lane l).reg (Reg.hstWdog p) = L.written (Reg.hstWdog p) v
        ∧ (v.getLsbD 31 = false → u.port p = { x with wdEnd := none, wdLeft := none })
        ∧ (v.getLsbD 31 = true → L.bit (Reg.hstWdog p) 31 = false →
            u.port p = { x with
              wdEnd := if hold then none else some (s.now + time), wdLeft := if hold then some time else none, expired := false })
        ∧ (v.getLsbD 31 = true → L.bit (Reg.hstWdog p) 31 = true →
            u.port p = { x with
              wdEnd := if hold then none else (x.wdLeft.map (s.now + ·)).or x.wdEnd
              wdLeft := if hold then (x.wdEnd.map (· - s.now)).or x.wdLeft else none })
        ∧ s.keeps u (hidePort p) (inLane l [Reg.hstWdog p]))

/-- No request is held. READ of the own lane: the block is read, after the writes to it that wait in the cycle, and
answered with its status. WRITE: a plain register takes the word, OK; an unmapped address is answered DECODE; a block
of main SRAM is written and answered, with the single-lane mark where it is given alone in SOLO, else waits for the
other lane, to which it is forwarded, or is answered BUSY. READ or WRITE of the other lane: ABSENT with the link not
UP, else sent. FENCE waits for the earlier WRITEs of its port; FENCE_COMPLETE with none left flushes the merge buffers
and answers. STREAM takes what its queue has with WAIT 0, with WAIT 1 only LEN bytes, else it waits, as one behind it
does; STREAM_WAIT_COMPLETE answers the first that waits. That a FENCE flushes the buffers of both lanes is the model's
reading (log entry 70). -/
def Obligations.RequestsOfAPort : Prop :=
  ∀ (s : State) (p q : Fin 4) (f : Frame) (tag : Fin 64), s.fitted (portLane p) = true → s.nothingHeld →
    let l := portLane p
    let L := s.lane l
    let x := s.port p
    let t := s.framed p f
    let id := frameTag f
    let a := f.addr.toNat % 2 ^ 31
    let n := f.len.toNat
    let far := f.addr.getLsbD 31
    let count := [Reg.hstCnt p]
    let absent := s.variantS = true ∨ s.link ≠ .up
    let sent := fun (u : State) (isW : Bool) => (u.port p).reqs = x.reqs ++ [⟨id, .remote isW a⟩] ∧ (u.port p).queue = x.queue
      ∧ (s.reaches l → ((u.lane (otherLane l)).xwk.rx.any fun m => m == .remote ⟨p, id, isW, a, n, if isW then f.payload else []⟩) = true)
      ∧ s.keeps u (hidePort p ∘ hideXwk) (inLane l count)
    let words := vget x.streams q []
    let first := fun (k : Nat) => ((words.take (k / 4)).map fun w => leBytes w.1.toNat 4).flatten
    let info := fun (k : Nat) => BitVec.ofNat 32 (q.val * 2 ^ 16 + 4 * (words.drop (k / 4)).length)
    let resp := fun (i k : Nat) => if (words.take (k / 4)).any (·.2) then answer i 4 [] (info k) else answer i 0 (first k) (info k)
    (s.takesFrame p 2 f → far = false → L.waitsInit a n = false → (x.reqs.any Req.comesBack) = false →
      let r := (t.writesFirst l a n).readBlock l a n (1 + p)
      let ans := readAnswer r.2.2.1 r.2.1 r.2.2.2
      ∃ u, exec (.read p f) s = .next u ∧ r.1.answered u p (answer id ans.1 ans.2.1 ans.2.2) ∧ r.1.keeps u (hidePort p) (inBoth [])
        ∧ (a = Reg.cfgStage ∨ a = Reg.clkSupwarn → n = 4 → ans = (0, leBytes (L.reg a).toNat 4, 0))
        ∧ (arrayOf a = none → mapped a = false → ans = (1, [], 0)))
    ∧ (s.takesFrame p 2 f → far = true →
      ∃ u, exec (.read p f) s = .next u ∧ (absent → t.answered u p (answer id 5 [] 0) ∧ s.keeps u (hidePort p) (inLane l count))
        ∧ (¬ absent → sent u false))
    ∧ (s.takesFrame p 1 f → far = true → isActionWrite 1 f = false ∨ (x.reqs.any Req.isWrite) = false →
      ∃ u, exec (.write p f) s = .next u ∧ (absent → t.answered u p (answer id 5 [] 0) ∧ s.keeps u (hidePort p) (inLane l count))
        ∧ (¬ absent → sent u true))
    ∧ (∀ g ∈ [Reg.cfgStage, Reg.clkSupwarn], s.takesFrame p 1 f → f.addr.toNat = g → n = 4 → s.takesWrite l g →
      ∃ u, exec (.write p f) s = .next u ∧ t.answered u p (answer id 0 [] 0)
        ∧ (u.lane l).reg g = L.written g (BitVec.ofNat 32 (leNat f.payload)) ∧ s.keeps u (hidePort p) (inLane l (g :: count)))
    ∧ (s.takesFrame p 1 f → far = false → mirrored a = false → mapped a = false →
      ∃ u, exec (.write p f) s = .next u ∧ t.answered u p (answer id 1 [] 0) ∧ s.keeps u (hidePort p) (inLane l count))
    ∧ (s.takesFrame p 1 f → far = false → arrayOf a = some 0 → n ≤ 64 → L.waitsInit a n = false →
      ∃ u, exec (.write p f) s = .next u
        ∧ (L.ready = false → t.answered u p (answer id 2 [] 0) ∧ s.keeps u (hidePort p) (inLane l count))
        ∧ (L.ready = true → s.mirrorWay l a = .busy → t.answered u p (answer id 2 [] 0) ∧ s.keeps u (hidePort p) (inLane l count))
        ∧ (L.ready = true → s.mirrorWay l a ≠ .busy → s.wrote u l a f.payload)
        ∧ (L.ready = true → s.variantS = true → t.answered u p (answer id 0 [] 0))
        ∧ (L.ready = true → s.mirrorWay l a = .marked → t.answered u p (answer id 0 [] 1)
            ∧ (u.lane l).fld (Reg.hstSolo p) 0 16 = min (L.fld (Reg.hstSolo p) 0 16 + 1) 0xFFFF)
        ∧ (L.ready = true → s.variantS = false → s.mirror = .linked → (u.port p).queue = x.queue
            ∧ (u.port p).reqs = x.reqs ++ [(⟨id, .mirrored a n⟩ : Req)]
            ∧ (s.reaches l → ((u.lane (otherLane l)).xwk.rx.any fun m => m == .fwdWrite L.xwk.nextNum p a f.payload) = true)))
    ∧ (s.takesFrame p 3 f →
      ∃ u, exec (.fence p f) s = .next u ∧ (u.port p).queue = x.queue
        ∧ (u.port p).reqs = x.reqs ++ [⟨id, .fence ((x.reqs.filter Req.isWrite).map Req.tag) false⟩] ∧ s.keeps u (hidePort p) (inLane l count))
    ∧ (∀ r, x.reqs.find? (fun r => r.tag == tag.val) = some r → ∀ m : Bool, r.kind = .fence [] m →
      ∃ u, exec (.fenceComplete p tag) s = .next u ∧ (∀ o, (s.lane o).on = true → (u.lane o).mem.merge = [])
        ∧ s.answered u p (answer tag 0 [] (if m || (s.mirror == .solo && !s.variantS) then 1 else 0))
        ∧ s.keeps u (hidePort p ∘ hideMem .a ∘ hideMem .b ∘ hideFaults) (inBoth (Reg.hstSolo p :: memRegs)))
    ∧ (s.takesFrame p 6 f → a = q.val → x.streamHead q = none →
      let k := if f.arg.getLsbD 0 then n else min n (4 * words.length)
      ∃ u, exec (.stream p f) s = .next u ∧ s.keeps u (hidePort p) (inLane l count)
        ∧ (f.arg.getLsbD 0 = true → 4 * words.length < n → (u.port p).queue = x.queue ∧ (u.port p).streams = x.streams
            ∧ (u.port p).reqs = x.reqs ++ [(⟨id, .stream q n true⟩ : Req)])
        ∧ (f.arg.getLsbD 0 = false ∨ n ≤ 4 * words.length → t.answered u p (resp id k)
            ∧ (u.port p).streams = vmod x.streams q fun w => w.drop (k / 4)))
    ∧ (∀ h, x.streamHead q = some h → h.2.2 = true →
      (4 * words.length < h.2.1 → exec (.streamWaitComplete p q) s = .next s.settle
        ∧ (s.takesFrame p 6 f → a = q.val →
          ∃ u, exec (.stream p f) s = .next u ∧ (u.port p).queue = x.queue ∧ (u.port p).streams = x.streams
            ∧ (u.port p).reqs = x.reqs ++ [(⟨id, .stream q n (f.arg.getLsbD 0)⟩ : Req)]))
      ∧ (h.2.1 ≤ 4 * words.length →
        ∃ u, exec (.streamWaitComplete p q) s = .next u ∧ ((u.port p).queue[x.queue.length]?).map (fun r => { r with num := 0 }) = some (resp h.1 h.2.1)
          ∧ s.keeps u (hidePort p) (inBoth [])))

/-- SOURCE_ARRIVAL for a source that is neither reserved nor of the always-on part: an arrival is a rise of the signal
since it was last sensed in level and rising mode, a fall in falling mode, any change in the mode of both edges. The
source's field of ICU_CNTk rises by 1 with an arrival, saturating at 15, and stays without one, whatever is pending,
masked or in service: no premise names these. -/
def Obligations.ArrivalsAreCounted : Prop :=
  ∀ (s : State) (l : LaneId) (k : Fin 256), s.runs l → srcReserved k = false → ¬ (8 ≤ k.val ∧ k.val ≤ 13) →
    let L := s.lane l
    let sig := L.srcSignal k
    let was := L.icu.last.getLsbD k
    let mode := L.srcMode k
    let arrival := if mode = 2 then was && !sig else if mode = 3 then was != sig else sig && !was
    let n := L.fld (Reg.icuCnt (k / 8)) (4 * (k % 8)) 4
    ∃ u, exec (.sourceArrival l k) s = .next u
      ∧ (u.lane l).fld (Reg.icuCnt (k / 8)) (4 * (k % 8)) 4 = (if arrival then min (n + 1) 15 else n)

/-- SOURCE_ARRIVAL of a reserved source changes nothing; an arrival makes an edge-sensed source pending, each command for
a source of the always-on part is one (log entry 59), and nothing else changes. CLAIM with an empty record and an
eligible source records the lowest and clears its pending bit unless it arrived in this cycle; else it changes
nothing; a source that a target of lower number claims in the cycle is passed over. COMPLETE with the record's source,
or CLR_REC with its key, empties the record; 0x3FF with an empty record does nothing; else COMP_ORDER is set and
counted. MODE_WRITE: from the next PCLK each mode but of reserved and privileged sources, with the present signal as
last level. PENDING_CLEAR: the edge-sensed bits written 1. MASK_WRITE: from the next PCLK the enables but of reserved
sources. SW_SET and SW_CLR: a set wins. REMOTE_LINE: the line of the other lane's target for the port. The last level,
set before clear, and a pending bit after a change of mode are the model's (log entries 101 and 103); what a PCLK
holds back is log entry 50. -/
def Obligations.ClaimsAndSettingsOfTheController : Prop :=
  ∀ (s : State) (l : LaneId) (t : Fin 5) (k : Fin 192) (kf : Fin 256) (m : Fin 16) (w : Fin 8) (v : Word), s.runs l →
    let L := s.lane l
    let hide := hideIn l fun L => { L with icu := {} }
    let recIs := fun (u : State) (c : Vector (Option Nat) 5) => ({ (u.lane l).icu with sent := 0 } : Icu) = { L.icu with recs := c, sent := 0 }
    (srcReserved kf = true → exec (.sourceArrival l kf) s = .next s.settle)
    ∧ (∃ u, exec (.sourceArrival l kf) s = .next u
        ∧ (srcReserved kf = false → L.srcMode kf = 1 → L.srcSignal kf = true → L.icu.last.getLsbD kf = false → (u.lane l).icu.pend.getLsbD kf = true)
        ∧ (8 ≤ kf.val → kf.val ≤ 13 → (u.lane l).fld (Reg.icuCnt (kf / 8)) (4 * (kf % 8)) 4 = min (L.fld (Reg.icuCnt (kf / 8)) (4 * (kf % 8)) 4 + 1) 15)
        ∧ (L.srcMode kf = 0 → (u.lane l).icu.pend = L.icu.pend) ∧ (u.lane l).icu.recs = L.icu.recs
        ∧ (srcReserved kf = false → ¬ (8 ≤ kf.val ∧ kf.val ≤ 13) → (u.lane l).icu.last.getLsbD kf = L.srcSignal kf)
        ∧ s.keeps u hide (inLane l [Reg.icuCnt (kf / 8)]))
    ∧ (s.takesWrite l (Reg.tgtClaim t) → L.icuRec t = none → L.srcEligible t k = true → (∀ j : Fin 192, j < k → L.srcEligible t j = false) → (∀ o ∈ s.claimsSoon l, t.val ≤ o) →
      ∃ u, exec (.claim l t) s = .next u ∧ (u.lane l).icuRec t = some k.val
        ∧ (∀ j : Fin 256, (u.lane l).icu.pend.getLsbD j =
            (L.icu.pend.getLsbD j && (decide (j.val ≠ k.val) || (L.freshMask (Reg.icuPend (k / 32))).getLsbD (k % 32))))
        ∧ (∀ j : Fin 5, j ≠ t → (u.lane l).icuRec j = L.icuRec j) ∧ s.keeps u hide (inBoth []))
    ∧ (∀ o : Fin 5, o < t → Instr.claim l o ∈ s.pending → L.icuRec o = none → L.srcNext o = some k.val → L.icuRec t = none →
      ∃ u, exec (.claim l t) s = .next u ∧ (u.lane l).icuRec t ≠ some k.val ∧ s.keeps u hide (inBoth []))
    ∧ ((L.icuRec t).isSome = true ∨ (∀ j : Fin 192, L.srcEligible t j = false) → exec (.claim l t) s = .next s.settle)
    ∧ (s.takesWrite l (Reg.tgtComplete t) →
      let x := bits v 0 10
      ∃ u, exec (.complete l t v) s = .next u
        ∧ (L.icuRec t = some x → recIs u (vmod L.icu.recs t fun _ => none) ∧ s.keeps u hide (inBoth []))
        ∧ (L.icuRec t = none → x = 0x3FF → recIs u L.icu.recs ∧ s.keeps u hide (inBoth []))
        ∧ (L.icuRec t ≠ some x → (L.icuRec t).isSome = true ∨ x ≠ 0x3FF → (u.lane l).icuRec t = L.icuRec t
            ∧ (u.lane l).bit Reg.icuEvent 0 = true ∧ (u.lane l).fld (Reg.tgtCtrl t) 0 8 = min (L.fld (Reg.tgtCtrl t) 0 8 + 1) 0xFF
            ∧ s.keeps u (hide ∘ hideFaults) (inLane l [Reg.icuEvent, Reg.tgtCtrl t, Reg.fltLost])))
    ∧ (s.takesWrite l (Reg.tgtCtrl t) →
      ∃ u, exec (.clrRec l t v) s = .next u ∧ (u.lane l).reg (Reg.tgtCtrl t) = L.written (Reg.tgtCtrl t) v
        ∧ (bits v 16 16 = 0x3E5A → (u.lane l).icuRec t = none) ∧ (bits v 16 16 ≠ 0x3E5A → (u.lane l).icuRec t = L.icuRec t)
        ∧ s.keeps u hide (inLane l [Reg.tgtCtrl t]))
    ∧ (s.takesWrite l (Reg.icuMode m) →
      ∃ u, exec (.modeWrite l m v) s = .next u ∧ s.keeps u hide (inLane l [Reg.icuMode m])
        ∧ (u.lane l).icu.pend = L.icu.pend ∧ (u.lane l).icu.last = L.icu.last ∧ (u.lane l).icu.recs = L.icu.recs
        ∧ (∀ j : Fin 16, let src := 16 * m.val + j
            let fixed := srcReserved src = true ∨ 8 ≤ src ∧ src ≤ 13
            let N := (u.lane l).icuLand
            let new := if fixed then L.fld (Reg.icuMode m) (2 * j) 2 else bits v (2 * j) 2
            (u.lane l).srcMode src = L.srcMode src ∧ N.srcMode src = new
              ∧ (L.icu.old = [] → new ≠ L.srcMode src → N.icu.last.getLsbD src = L.srcSignal src)
              ∧ (L.icu.old = [] → new = L.srcMode src → N.icu.last.getLsbD src = L.icu.last.getLsbD src
                  ∧ N.icu.pend.getLsbD src = L.icu.pend.getLsbD src)))
    ∧ (s.takesWrite l (Reg.icuPend w) →
      ∃ u, exec (.pendingClear l w v) s = .next u ∧ s.keeps u hide (inBoth [])
        ∧ (∀ j : Fin 256, (u.lane l).icu.pend.getLsbD j = (L.icu.pend.getLsbD j && !(decide (j.val / 32 = w.val) && v.getLsbD (j % 32)
            && !(L.freshMask (Reg.icuPend w)).getLsbD (j % 32) && decide (L.srcMode j ≠ 0))))
        ∧ (u.lane l).icu.last = L.icu.last ∧ (u.lane l).icu.recs = L.icu.recs)
    ∧ (s.takesWrite l (Reg.tgtEn t w) →
      ∃ u, exec (.maskWrite l t w v) s = .next u ∧ s.keeps u hide (inLane l [Reg.tgtEn t w])
        ∧ (u.lane l).icu.pend = L.icu.pend ∧ (u.lane l).icu.recs = L.icu.recs ∧ (u.lane l).srcEligible t k = L.srcEligible t k
        ∧ (∀ j : Fin 32, ((u.lane l).icuLand.icuEff (Reg.tgtEn t w)).getLsbD j = (v.getLsbD j && !srcReserved (32 * w + j))))
    ∧ (s.takesWrite l Reg.icuSw →
      ∃ u, exec (.swSet l v) s = .next u ∧ exec (.swClr l v) s = .next u ∧ s.keeps u hideNone (inLane l [Reg.icuSw])
        ∧ (∀ j : Fin 8, (u.lane l).bit Reg.icuSw j = (v.getLsbD j || (L.bit Reg.icuSw j && !v.getLsbD (8 + j)))))
    ∧ (∀ x, (L.xwk.rx.head?.bind fun m => match m with | .line n on => some (n, on) | _ => none) = some x →
      ∃ u, exec (.remoteLine l) s = .next u ∧ s.keeps u (hide ∘ hideXwk) (inBoth [])
        ∧ (∀ i : Fin 2, x.1 = remoteTarget (otherLane l) i → (u.lane l).icu.remote.getLsbD i = x.2 ∧ (u.lane l).icu.recs = L.icu.recs))

/-- DMA_GO in IDLE fetches at DMAc_DESC, else CFG_REJ; DMA_STOP of a channel that runs ends it. DESCRIPTOR_FETCH: beyond
the limit of fetches CHAIN, a poisoned or invalid descriptor BAD_DESC, else its words are held and it waits, or moves
with REQ 0. DMA_REQUEST takes one count of its source, the lowest waiting channel first, or the threshold. DMA_BURST,
the channel's turn: the read engine takes up to 64 bytes of the source into the buffer, at most 2 KiB of it the
channel's, and into the checksum, an unmapped source is DECODE, poison is flagged; then up to 64 bytes of the buffer
stand at the destination, memory or stream queue, with nothing to write WAIT_FLOW, and the turn goes to the next
channel (how a turn is one command: log entry 24). DMA_FLOW_RESUME once both allow. DESCRIPTOR_DONE: result, status
and sequence words, EOC, then the end or the next fetch. DMA_TIMEOUT stops a waiting access unless its response waits.
DMA_DESC_WRITE is taken in IDLE only. RESULT only with CHK_EN, ERRADDR of a stop, the checksum seed, and GO beside
STOP are the model's (log entries 25, 45, 101 and 103). -/
def Obligations.DmaChannelsMoveData : Prop :=
  ∀ (s : State) (l : LaneId) (c : Fin 16) (w : Writer) (v : Word) (addr : BitVec 32), s.runs l →
    let L := s.lane l
    let d := L.dch c
    let hide := hideIn l fun L => { L with dma := vmod L.dma c fun _ => {}, dmaTurn := 0 }
    let hideAll := hide ∘ hideMem l ∘ hideFaults
    let regs := Reg.dmaEvent c :: Reg.dmaErraddr c :: Reg.dmaHops c :: memRegs
    let stopped := fun (u : State) (cause a : Nat) => (u.lane l).dch c = { (u.lane l).dch c with state := .idle, cause := cause }
      ∧ (u.lane l).reg (Reg.dmaErraddr c) = BitVec.ofNat 32 a ∧ (u.lane l).bit (Reg.dmaEvent c) 1 = true
    let mid := 0x10 + c.val
    (s.takesWrite l (Reg.dmaStart c) →
      ∃ u, exec (.dmaGo l c w v) s = .next u
        ∧ (d.state = .idle → v.getLsbD 0 = true → (u.lane l).dch c = { d with
            state := .fetch, cur := (L.reg (Reg.dmaDesc c)).toNat % 2 ^ 21 / 32 * 32, byCore := writerCore w, poison := false, moved := d.total
            chk := Config.chainSeed (16 * L.time + c) }
            ∧ (u.lane l).reg (Reg.dmaHops c) = 0)
        ∧ (d.state = .idle → v.getLsbD 0 = false → s.keeps u hideNone (inBoth []))
        ∧ (d.state ≠ .idle → v.getLsbD 0 = true → (u.lane l).bit (Reg.dmaEvent c) 6 = true)
        ∧ (d.state ≠ .idle → v.getLsbD 1 = false → (u.lane l).dch c = d)
        ∧ s.keeps u hide (inLane l [Reg.dmaEvent c, Reg.dmaErraddr c, Reg.dmaHops c]))
    ∧ (s.takesWrite l (Reg.dmaStart c) → v.getLsbD 0 = false → v.getLsbD 1 = true →
      ∃ u, exec (.dmaStop l c v) s = .next u ∧ (d.state = .idle → s.keeps u hideNone (inBoth []))
        ∧ (d.state ≠ .idle → stopped u 2 d.cur ∧ (u.lane l).dch c = { d with state := .idle, cause := 2, buf := [] })
        ∧ s.keeps u hide (inLane l [Reg.dmaEvent c, Reg.dmaErraddr c]))
    ∧ (d.state = .fetch → L.initing = false →
      let Q := (s.writesFirst l d.cur 32).lane l
      let hops := (L.reg (Reg.dmaHops c)).toNat
      let tooLong := decide (max 1 (L.fld (Reg.dmaCtrl c) 0 16) < hops + 1)
      let r := (Q.setReg (Reg.dmaHops c) (BitVec.ofNat 32 (hops + 1))).readBytes d.cur 32 mid 1
      let x := fun (i : Nat) => (BitVec.ofNat 32 (leNat ((r.2.1.drop (4 * i)).take 4)) : Word)
      let good := !tooLong && !r.2.2 && descValid l d.byCore x
      ∃ u, exec (.descriptorFetch l c) s = .next u ∧ s.keeps u hideAll (inLane l regs)
        ∧ (tooLong = true → stopped u 3 d.cur ∧ (u.lane l).bit (Reg.dmaEvent c) 2 = true ∧ (u.lane l).mem = Q.mem)
        ∧ (tooLong = false → good = false → stopped u 6 d.cur ∧ (u.lane l).bit (Reg.dmaEvent c) 5 = true)
        ∧ (good = true → (∀ i : Fin 5, ((u.lane l).dch c).word i = x i) ∧ (u.lane l).reg (Reg.dmaHops c) = BitVec.ofNat 32 (hops + 1)
            ∧ ((u.lane l).dch c).state = (if bits (x 0) 24 6 = 0 then .move else .waitReq) ∧ ((u.lane l).dch c).moved = 0
            ∧ (bits (x 0) 24 6 = 0 → (x 0).getLsbD 2 = false → ((u.lane l).dch c).chk = if (x 0).getLsbD 3 then 0 else 0xFFFFFFFF)))
    ∧ (d.state = .waitReq →
      let first := (List.range c).all fun e => !((L.dch e).state == .waitReq && (L.dch e).req == d.req)
      ∃ u, exec (.dmaRequest l c) s = .next u
        ∧ (∀ k, reqSource d.req = some k →
            let cnt := Reg.dmaReqcnt (k / 8)
            let n := L.fld cnt (4 * (k % 8)) 4
            (0 < n → first = true → ((u.lane l).dch c).state = .move ∧ ((u.lane l).dch c).moved = 0 ∧ (u.lane l).fld cnt (4 * (k % 8)) 4 = n - 1
                ∧ (u.lane l).reg (Reg.dmaHops c) = 0 ∧ s.keeps u hide (inLane l [cnt, Reg.dmaHops c]))
              ∧ (n = 0 ∨ first = false → s.keeps u hideNone (inBoth [])))
        ∧ (reqSource d.req = none → ((u.lane l).dch c).state = (if L.scThr (d.req - 0x20) then .move else .waitReq)
            ∧ s.keeps u hide (inLane l [Reg.dmaHops c])))
    ∧ (d.state = .move → d.moved < d.total → L.initing = false → (∀ e ∈ L.dmaBefore c, s.dmaReady l e = false) →
      let S := s.dmaFirst l c
      let S := if d.srcT = 1 then S.qrdAhead l (d.word 2).toNat else S
      let Q := S.lane l
      let n := Q.dmaReads c
      let r := Q.dmaRead c n
      let bad := r.2.any DmaWord.poison
      let off := Q.dmaOff d n
      let buf := d.buf ++ r.2
      let m := min 64 (min (4 * buf.length) (S.dmaRoom d)) / 4 * 4
      let sum := chkStep ((d.word 0).getLsbD 3) d.chk (dmaBytes r.2)
      let goes := off = none ∧ (d.dstT ≠ 2 ∨ bad = false)
      ∃ u, exec (.dmaBurst l c) s = .next u ∧ (u.lane l).dmaTurn = (c + 1) % 16 ∧ n ≤ 64 ∧ 4 * d.buf.length + n ≤ max 2048 (4 * d.buf.length)
        ∧ S.keeps u (hideAll ∘ hideAcq l ∘ (hideIn l fun L => { L with store := { L.store with page := [] } }) ∘ fun s => { s with ports := Vector.replicate 4 {} })
            (inLane l (regs ++ [Reg.scQrd (d.word 2).toNat, Reg.scEvent (d.word 2).toNat]))
        ∧ (d.dstT = 0 → S.keeps u (hideAll ∘ hideAcq l) (inLane l (regs ++ [Reg.scQrd (d.word 2).toNat, Reg.scEvent (d.word 2).toNat])))
        ∧ (∀ a, off = some a → stopped u 5 a ∧ (u.lane l).dch c = { d with state := .idle, cause := 5, buf := [] })
        ∧ (off = none → bad = true → (u.lane l).bit (Reg.dmaEvent c) 4 = true)
        ∧ (off = none → bad = true → d.dstT = 2 → stopped u 6 ((r.2.find? DmaWord.poison).elim 0 DmaWord.addr))
        ∧ (goes → m = 0 → (u.lane l).dch c = { d with
              state := .waitFlow, buf := buf, chk := sum, poison := d.poison || bad, answerAt := if n = 0 then d.answerAt else some L.time })
        ∧ (goes → 0 < m → (u.lane l).dch c =
            { d with moved := d.moved + m, buf := buf.drop (m / 4), answerAt := some L.time, chk := sum, poison := d.poison || bad })
        ∧ (goes → 0 < m → (buf.take (m / 4)).all (fun p => !p.poison) = true → d.dstT = 0 → (d.word 3).toNat + d.moved + m ≤ 0x00200000 →
            (S.setLane l r.1).wrote u l ((d.word 3).toNat + d.moved) (dmaBytes (buf.take (m / 4))))
        ∧ (goes → d.dstT = 3 → ∀ p q : Fin 4, (d.word 3).toNat = 4 * p.val + q → vget (u.port p).streams q [] =
            vget (s.port p).streams q [] ++ (buf.take (m / 4)).map fun w => (w.word, w.poison))
        ∧ (goes → 0 < m → d.srcT = 1 → (u.lane l).reg (Reg.scQrd (d.word 2).toNat) =
            Q.reg (Reg.scQrd (d.word 2).toNat) + BitVec.ofNat 32 ((d.moved + m) / 8 - d.moved / 8)))
    ∧ (d.state = .waitFlow →
      ∃ u, exec (.dmaFlowResume l c) s = .next u ∧ s.keeps u hide (inBoth [])
        ∧ (u.lane l).dch c = if (d.buf ≠ [] ∨ 0 < L.dmaReads c) ∧ 4 ≤ s.dmaRoom d then { d with state := .move } else d)
    ∧ (d.state = .move → d.total ≤ d.moved →
      let w0 := d.word 0
      let seq := L.reg (Reg.dmaDonecnt c) + 1
      let st : Word := BitVec.ofNat 32 (2 ^ 31 + (if d.poison then 2 ^ 30 else 0) + d.moved)
      ∃ u, exec (.descriptorDone l c) s = .next u ∧ (u.lane l).reg (Reg.dmaDonecnt c) = seq
        ∧ (d.cur + 32 ≤ 0x00200000 → d.cur % 32 = 0 → L.initing = false →
            if w0.getLsbD 4 then s.wrote u l (d.cur + 20) (wordBytes [chkFinal (w0.getLsbD 3) d.chk, st, seq])
            else s.wrote u l (d.cur + 24) (wordBytes [st, seq]))
        ∧ (w0.getLsbD 5 = true → (u.lane l).bit (Reg.dmaEvent c) 0 = true)
        ∧ (w0.getLsbD 6 = true → stopped u 1 d.cur)
        ∧ (w0.getLsbD 6 = false → (u.lane l).dch c = { d with state := .fetch, cur := (d.word 4).toNat % 2 ^ 21 / 32 * 32, answerAt := some L.time })
        ∧ s.keeps u hideAll (inLane l (Reg.dmaDonecnt c :: regs)))
    ∧ (Instr.dmaBurst l c ∈ s.pending ∨ Instr.descriptorFetch l c ∈ s.pending ∨ Instr.descriptorDone l c ∈ s.pending → exec (.dmaTimeout l c addr) s = .next s.settle)
    ∧ (Instr.dmaBurst l c ∉ s.pending → Instr.descriptorFetch l c ∉ s.pending → Instr.descriptorDone l c ∉ s.pending →
      ∃ u, exec (.dmaTimeout l c addr) s = .next u
        ∧ (d.state = .fetch ∨ d.state = .move → d.answerAt ≠ some L.time → stopped u 4 addr.toNat ∧ (u.lane l).bit (Reg.dmaEvent c) 3 = true)
        ∧ (d.state ≠ .fetch → d.state ≠ .move → s.keeps u hideNone (inBoth []))
        ∧ (d.answerAt = some L.time → s.keeps u hideNone (inBoth []))
        ∧ s.keeps u (hide ∘ hideFaults) (inLane l [Reg.dmaEvent c, Reg.dmaErraddr c, Reg.fltLost]))
    ∧ (s.takesWrite l (Reg.dmaDesc c) →
      ∃ u, exec (.dmaDescWrite l c v) s = .next u ∧ s.keeps u hideNone (inLane l [Reg.dmaDesc c, Reg.dmaEvent c])
        ∧ (d.state = .idle → (u.lane l).reg (Reg.dmaDesc c) = L.written (Reg.dmaDesc c) v)
        ∧ (d.state ≠ .idle → (u.lane l).reg (Reg.dmaDesc c) = L.reg (Reg.dmaDesc c) ∧ (u.lane l).bit (Reg.dmaEvent c) 6 = true))

/-- An engine cycle with the instruction at PC, after the host accesses to its queues that wait in the cycle. It takes the
cycle and decrements LT; a completed instruction moves PC on, or to where it branches, applies its side-set and idles
for DELAY; a stalled one keeps PC and latch; an invalid one clears EN and sets BAD_OP. BRANCH, WAIT, SHIFT with its
links, MOVE, COUNT, TIME, MARK, CAPTURE and ANGLE have the conditions and results of R374, R376 and R378.
STALL_RELEASE: a stalled instruction whose condition holds completes. ENGINE_CYCLE: it idles, stays stalled, or halts
on an OP without operation. BYWAY_INJECT: on the next PCLK (Lane.bywInjTurn, which the passing of time runs) the
instruction acts without a cycle but that of a stalled engine, or only INJ_FAIL is set. The order of host and engine
accesses, and two injections of one PCLK, are the model's (log entries 50 and 101). -/
def Obligations.BywayInstructions : Prop :=
  ∀ (s : State) (l : LaneId) (e : Fin 8) (v : Word), s.runs l →
    let H := s.hostAhead l e
    let L := H.lane l
    let b := L.eng e
    let i := L.fetchImem e
    let lt1 := if b.lt = 0 then 0 else b.lt - 1
    let hide := hideFaults ∘ hideIn l fun L => { L with byw := vmod L.byw e fun _ => {}, pinOwn := [], flagWas := 0 }
    let free := fun (dir : Bool) (p : Nat) => decide (L.pinOwner dir p ≤ e + 1)
    let regs := [Reg.bywCtrl e, Reg.bywEvent e, Reg.bywPinout, Reg.bywPindir, Reg.bywFlags, Reg.bywPirq, Reg.fltLost]
    let wide := min (L.fld (Reg.bywPincfg e) 24 3) 4
    let sides := fun (u : State) => ∀ k : Fin 4, k.val < wide → ¬ (L.bit (Reg.bywPincfg e) 27 = true ∧ i.toNat / 16 % 16 = L.fld (Reg.bywPincfg e) 28 4) →
      free false ((L.fld (Reg.bywPincfg e) 20 4 + k) % 16) = true → (u.lane l).bit Reg.bywPinout ((L.fld (Reg.bywPincfg e) 20 4 + k) % 16) = i.getLsbD (4 + k)
    let n : Byw := { b with pc := (b.pc + 1) % 32, lt := lt1 }
    let after := fun (u : State) (x : Byw) => ((u.lane l).eng e).turn =
      Byw.turn { x with due := b.due - 1, stalled := false, seen := false, idle := i.toNat % 16, latch := i } ∧ sides u ∧ H.keeps u hide (inLane l regs)
    let stalls := fun (u : State) => (u.lane l).eng e = { b with lt := lt1, due := b.due - 1, latch := i, stalled := true, seen := false }
      ∧ sides u ∧ H.keeps u hide (inLane l [Reg.bywPinout])
    let halts := fun (u : State) => (u.lane l).eng e = { b with lt := lt1, due := 0, latch := i, stalled := false, halted := true }
      ∧ (u.lane l).bit (Reg.bywCtrl e) 0 = false ∧ (u.lane l).bit (Reg.bywEvent e) 7 = true
      ∧ H.keeps u hide (inLane l [Reg.bywCtrl e, Reg.bywEvent e])
    let push := fun (u : State) (x : Byw) (w : Word) => if L.rxFull e then stalls u else after u { x with rx := x.rx ++ [w] }
    (H.fetches l e 1 →
      let r := argOf i 5 3 % 4
      let o := b.gr (if r % 2 = 0 then r + 1 else r - 1)
      let ok : Bool := match argOf i 8 4 with
        | 1 | 2 | 3 | 4 | 5 => decide (argOf i 5 3 < 4) | 6 | 7 | 8 | 9 => true | 0 | 10 | 11 | 12 => argOf i 5 3 == 0 | _ => false
      let taken : Bool := match argOf i 8 4 with
        | 0 => true | 1 => b.gr r == 0 | 2 => b.gr r != 0 | 3 => decide (b.gr r < o) | 4 => decide (o ≤ b.gr r) | 5 => b.gr r != 0
        | 6 => L.inPin e (argOf i 5 3) | 7 => !L.inPin e (argOf i 5 3) | 8 => L.bit Reg.bywFlags (argOf i 5 3)
        | 9 => !L.bit Reg.bywFlags (argOf i 5 3) | 10 => L.rxFull e | 11 => b.tx.isEmpty | _ => L.odo.valid
      ∃ u, exec (.branch l e) s = .next u ∧ (ok = false → halts u)
        ∧ (ok = true → after u { n with pc := (if taken then argOf i 0 5 else n.pc), g := if argOf i 8 4 = 5 ∧ taken = true then (b.setG r (b.gr r - 1)).g else b.g }))
    ∧ (H.fetches l e 2 →
      let pol := argOf i 8 1 == 1
      let x := argOf i 0 8
      let ok : Bool := match argOf i 9 3 with | 0 | 1 | 2 => decide (x < 16) | 3 => true | 4 => decide (x < 10) && !pol | _ => false
      let holds : Bool := match argOf i 9 3 with
        | 0 => L.inPin e x == pol | 2 => (L.bit Reg.bywFlags (x % 8) || L.flagWas.getLsbD (x % 8)) == pol | 3 => L.srcPending x == pol | _ => false
      ∃ u, exec (.waitInstr l e) s = .next u ∧ (ok = false → halts u) ∧ (ok = true → holds = false → stalls u)
        ∧ (ok = true → holds = true → after u n
            ∧ (argOf i 9 3 = 2 → 8 ≤ x → pol = true → (u.lane l).bit Reg.bywFlags (x % 8) = (L.freshMask Reg.bywFlags).getLsbD (x % 8))))
    ∧ (H.fetches l e 3 →
      let r := argOf i 8 2
      let p := argOf i 5 3
      let k := if argOf i 0 5 = 0 then 32 else argOf i 0 5
      let low : Word := BitVec.ofNat 32 (2 ^ k - 1)
      let top := argOf i 10 1 == 0
      let new : Word := low &&& (match p with | 0 => L.inWord e | 1 => 0 | 2 => 0xFFFFFFFF | _ => b.gr (p - 4))
      let g1 := if top then b.gr r >>> k ||| new <<< (32 - k) else b.gr r <<< k ||| new
      let c2 := if r = 2 then min 32 (b.c2 + k) else b.c2
      let full := r == 2 && L.bit (Reg.bywQcfg e) 0 && decide ((if L.fld (Reg.bywQcfg e) 16 5 = 0 then 32 else L.fld (Reg.bywQcfg e) 16 5) ≤ c2)
      let pull := r == 3 && L.bit (Reg.bywQcfg e) 1 && decide (b.c3 < k)
      let m := if pull then { n.setG 3 (b.tx.headD 0) with c3 := 32, tx := b.tx.tail } else n
      let out := if top then m.gr r &&& low else m.gr r >>> (32 - k)
      let m1 := { m.setG r (if top then m.gr r >>> k else m.gr r <<< k) with c3 := if r = 3 then m.c3 - k else m.c3 }
      ∃ u, exec (.shift l e) s = .next u ∧ (p = 3 ∨ p = 4 + r → halts u)
        ∧ (p ≠ 3 → p ≠ 4 + r → argOf i 11 1 = 0 → full = false → after u { n.setG r g1 with c2 := c2 })
        ∧ (p ≠ 3 → p ≠ 4 + r → argOf i 11 1 = 0 → full = true → push u { n.setG 2 0 with c2 := 0 } g1)
        ∧ (p ≠ 3 → p ≠ 4 + r → argOf i 11 1 = 1 → pull = true → b.tx = [] → stalls u)
        ∧ (p ≠ 3 → p ≠ 4 + r → argOf i 11 1 = 1 → pull = false ∨ b.tx ≠ [] →
            after u (if p < 3 then m1 else m1.setG (p - 4) (b.gr (p - 4) <<< k ||| out))
              ∧ (wide = 0 → p < 2 → ∀ j : Fin 16, j.val < min k (L.fld (Reg.bywPincfg e) 12 5) →
                  free (p == 1) ((L.fld (Reg.bywPincfg e) 8 4 + j) % 16) = true →
                  (u.lane l).bit (if p = 0 then Reg.bywPinout else Reg.bywPindir) ((L.fld (Reg.bywPincfg e) 8 4 + j) % 16) = out.getLsbD j)))
    ∧ (H.fetches l e 4 →
      let dst := argOf i 8 4
      let src := argOf i 4 4
      let ok := argOf i 0 1 == 0 && decide (dst ≤ 7) && decide (src ≤ 8)
      let wait := argOf i 1 1 == 1 && (src == 5 && b.tx.isEmpty || dst == 6 && L.rxFull e)
      let w := if src = 5 ∧ b.tx = [] then 0 else bywFn (argOf i 2 2) (match src with
        | 4 => L.inWord e | 5 => b.tx.headD 0 | 6 => 0 | 7 => 0xFFFFFFFF | 8 => b.statusWord | r => b.gr r)
      let m := if src = 5 then { n with tx := b.tx.tail } else n
      ∃ u, exec (.move l e) s = .next u ∧ (ok = false → halts u) ∧ (ok = true → wait = true → stalls u)
        ∧ (ok = true → wait = false →
            after u (match dst with
              | 0 | 1 => m.setG dst w | 2 => { m.setG 2 w with c2 := 0 } | 3 => { m.setG 3 w with c3 := 32 }
              | 6 => if L.rxFull e then m else { m with rx := m.rx ++ [w] } | 7 => { m with pc := bits w 0 5 } | _ => m)
            ∧ (src = 5 → b.tx = [] → (u.lane l).bit (Reg.bywEvent e) 5 = true)
            ∧ (dst = 6 → L.rxFull e = true → (u.lane l).bit (Reg.bywEvent e) 2 = true)
            ∧ (wide = 0 → dst = 4 ∨ dst = 5 → ∀ j : Fin 16, j.val < L.fld (Reg.bywPincfg e) 12 5 →
                free (dst == 5) ((L.fld (Reg.bywPincfg e) 8 4 + j) % 16) = true →
                (u.lane l).bit (if dst = 4 then Reg.bywPinout else Reg.bywPindir) ((L.fld (Reg.bywPincfg e) 8 4 + j) % 16) = w.getLsbD j)))
    ∧ (H.fetches l e 5 →
      let scale := 8 ^ argOf i 7 2
      let imm := argOf i 0 7
      let r := argOf i 10 2
      ∃ u, exec (.count l e) s = .next u ∧ after u (n.setG r
        (if argOf i 9 1 = 0 then BitVec.ofNat 32 (imm * scale) else b.gr r + BitVec.ofInt 32 ((if 64 ≤ imm then (imm : Int) - 128 else imm) * scale))))
    ∧ (H.fetches l e 6 →
      let r := argOf i 0 2
      let mode := argOf i 10 2
      let ok := mode == 0 || (if mode = 2 then argOf i 0 10 == 0 else argOf i 2 8 == 0)
      ∃ u, exec (.time l e) s = .next u ∧ (ok = false → halts u) ∧ (ok = true → mode = 2 → lt1 ≠ 0 → stalls u)
        ∧ (ok = true → mode ≠ 2 ∨ lt1 = 0 → after u (match mode with
            | 0 => { n with lt := BitVec.ofNat 32 (argOf i 0 10) } | 1 => { n with lt := b.gr r } | 2 => n | _ => { n.setG r lt1 with lt := 0xFFFFFFFF })))
    ∧ (H.fetches l e 7 →
      let f := argOf i 0 3
      let fop := argOf i 10 2
      let fresh := (L.freshMask Reg.bywFlags).getLsbD f
      ∃ u, exec (.markInstr l e) s = .next u ∧ (argOf i 3 6 ≠ 0 → halts u)
        ∧ (argOf i 3 6 = 0 → after u n ∧ (argOf i 9 1 = 1 → (u.lane l).bit Reg.bywPirq e = true)
            ∧ ∀ j : Fin 8, (u.lane l).bit Reg.bywFlags j = if j.val = f then (match fop with
                | 0 => L.bit Reg.bywFlags f | 1 => true | 2 => L.bit Reg.bywFlags f && fresh | _ => !L.bit Reg.bywFlags f || fresh)
              else L.bit Reg.bywFlags j))
    ∧ (H.fetches l e 8 →
      let p := L.rdPin e (argOf i 0 4)
      let w := if argOf i 4 1 = 1 then vget L.rises p 0 else vget L.falls p 0
      let dst := argOf i 5 3
      let ok := argOf i 8 4 == 0 && decide (dst ≤ 4)
      ∃ u, exec (.capture l e) s = .next u ∧ (ok = false → halts u) ∧ (ok = true → dst < 4 → after u (n.setG dst w)) ∧ (ok = true → dst = 4 → push u n w))
    ∧ (H.fetches l e 9 →
      let dst := argOf i 5 3
      let ok := argOf i 8 4 == 0 && argOf i 0 5 == 0 && decide (dst ≤ 4)
      ∃ u, exec (.angle l e) s = .next u ∧ (ok = false → halts u) ∧ (ok = true → dst < 4 → after u (n.setG dst L.angleRecord))
        ∧ (ok = true → dst = 4 → push u n L.angleRecord))
    ∧ (L.bywReady e = true → b.stalled = true →
      let M := L.cycleTake e
      let r := (M.bywExec e b.latch b.seen).completes
      (∀ x, r = some x →
        ∃ u, exec (.stallRelease l e) s = .next u ∧ exec (.engineCycle l e) s = .next H.settle ∧ H.keeps u hide (inLane l regs)
          ∧ (u.lane l).eng e = { x.1.eng e with
              pc := x.2.getD (((x.1.eng e).pc + 1) % 32), stalled := false, seen := false, idle := b.latch.toNat % 16, latch := b.latch })
      ∧ (r = none → exec (.stallRelease l e) s = .next H.settle ∧ ∃ u, exec (.engineCycle l e) s = .next u
          ∧ (u.lane l).eng e = { b with lt := lt1, due := b.due - 1 } ∧ H.keeps u hide (inBoth [])))
    ∧ (L.bywReady e = true → b.stalled = false → 0 < b.idle →
      ∃ u, exec (.engineCycle l e) s = .next u ∧ (u.lane l).eng e = { b with lt := lt1, due := b.due - 1, idle := b.idle - 1 }
        ∧ H.keeps u hide (inBoth []))
    ∧ (L.bywReady e = true → b.stalled = false → b.idle = 0 → opOf i = 0 ∨ 9 < opOf i →
      ∃ u, exec (.engineCycle l e) s = .next u ∧ halts u)
    ∧ ((∀ x ∈ s.pending.filterMap (s.accessSoon l), x.txWords e = [] ∧ x.rxReads e = 0) → H = s)
    ∧ (s.takesWrite l (Reg.bywInj e) →
      let S := s.lane l
      ∃ u, exec (.bywayInject l e v) s = .next u ∧ s.keeps u hide (inBoth []) ∧ (u.lane l).eng e = { S.eng e with inj := some (v.setWidth 24) }
        ∧ (let I := (u.lane l).engUpd e fun b => { b with inj := none }
          let T := (u.lane l).bywInjTurn e
          let r := (I.bywExec e (v.setWidth 24) false).completes
          let spent := fun (b : Byw) => if (S.eng e).stalled && S.bywReady e then { b with due := b.due - 1, lt := if b.lt = 0 then 0 else b.lt - 1 } else b
          (r = none → T.eng e = spent (I.eng e) ∧ T.bit (Reg.bywEvent e) 6 = true)
            ∧ (∀ x, r = some x → T.eng e = spent (match x.2 with
              | some p => { x.1.eng e with pc := p, stalled := false, seen := false } | none => x.1.eng e))))

/-- ENGINE_ENABLE starts the engine at its PC; ENGINE_DISABLE keeps its state; ENGINE_CLR clears PC, registers, timer and
accumulator, not the queues. ENGINE_CONFIG_WRITE is taken only with EN 0, and of BYWe_QCFG empties the queues, else
CFG_REJ. TXQ_WRITE appends the word, or sets TX_OVR where TX is full; a word that an engine access of the PCLK already
found stays. RXQ_READ takes the first word, or sets RX_UNF. IMEM_WRITE: the word is held, and a fetch of the same PCLK
reads the old one. BYW_SYNC clears the named accumulators. FLAG_SET and FLAG_CLEAR: a set wins. PIN_WRITE writes a
latch, where no engine wrote it in this PCLK. BYWAY_PIN_EDGE that the filter passes changes the level, is stamped
without the delays, and is seen by a WAIT for it; a shorter one changes nothing. Which access of a PCLK comes first is
the model's reading (log entry 101), and so is that a set wins (log entry 103). -/
def Obligations.BywaySettingsAndPins : Prop :=
  ∀ (s : State) (l : LaneId) (e : Fin 8) (w : Writer) (v : Word) (k : Fin 32) (p : Fin 16) (dir level : Bool) (held : Nat), s.runs l →
    let L := s.lane l
    let b := L.eng e
    let hide := hideIn l fun L => { L with byw := vmod L.byw e fun _ => {} }
    let eng := fun (u : State) (x : Byw) => (u.lane l).eng e = x
    (s.takesWrite l (Reg.bywCtrl e) →
      ∃ u, exec (.engineEnable l e v) s = .next u ∧ exec (.engineDisable l e v) s = .next u ∧ exec (.engineClr l e v) s = .next u
        ∧ (u.lane l).reg (Reg.bywCtrl e) = L.written (Reg.bywCtrl e) v ∧ s.keeps u hide (inLane l [Reg.bywCtrl e])
        ∧ (v.getLsbD 0 = true → v.getLsbD 1 = false → eng u { b with halted := false })
        ∧ (v.getLsbD 0 = false → v.getLsbD 1 = false → eng u b)
        ∧ (v.getLsbD 1 = true → eng u { rx := b.rx, tx := b.tx, halted := b.halted && !v.getLsbD 0, txEarly := b.txEarly, rxEarly := b.rxEarly, inj := b.inj }))
    ∧ (∀ r ∈ [BywCfgReg.raten, .rated, .pincfg, .qcfg], s.takesWrite l (bywCfgAddr e r) →
      let a := bywCfgAddr e r
      ∃ u, exec (.engineConfigWrite l e r v) s = .next u ∧ s.keeps u hide (inLane l [a, Reg.bywEvent e])
        ∧ (L.bit (Reg.bywCtrl e) 0 = false → (u.lane l).reg a = L.written a v ∧ eng u (if r = .qcfg then { b with rx := [], tx := [] } else b))
        ∧ (L.bit (Reg.bywCtrl e) 0 = true → (u.lane l).bit (Reg.bywEvent e) 8 = true ∧ eng u b ∧ s.keeps u hideNone (inLane l [Reg.bywEvent e])))
    ∧ (s.takesWrite l (Reg.bywTxq e) →
      let full := decide ((L.bywCap e).2 ≤ b.tx.length + b.pulled)
      ∃ u, exec (.txqWrite l w e v) s = .next u
        ∧ (0 < b.txEarly → eng u { b with txEarly := b.txEarly - 1 } ∧ s.keeps u hide (inBoth []))
        ∧ (b.txEarly = 0 → full = false → eng u { b with tx := b.tx ++ [v] } ∧ s.keeps u hide (inBoth []))
        ∧ (b.txEarly = 0 → full = true → (u.lane l).bit (Reg.bywEvent e) 3 = true ∧ s.keeps u hideFaults (inLane l [Reg.bywEvent e, Reg.fltLost])))
    ∧ (∃ u, exec (.rxqRead l e) s = .next u
        ∧ (b.pushed < b.rx.length → s.takesWrite l (Reg.bywRxq e) → eng u { b with rx := b.rx.tail, rxEarly := b.rxEarly - 1 } ∧ s.keeps u hide (inBoth []))
        ∧ (b.rx.length ≤ b.pushed → s.takesWrite l (Reg.bywRxq e) → (u.lane l).bit (Reg.bywEvent e) 4 = true ∧ s.keeps u hideNone (inLane l [Reg.bywEvent e])))
    ∧ (s.takesWrite l (Reg.bywImem e k) → (L.imemOld.lookup (Reg.bywImem e k)) = none →
      ∃ u, exec (.imemWrite l e k v) s = .next u ∧ (u.lane l).reg (Reg.bywImem e k) = L.written (Reg.bywImem e k) v
        ∧ (b.pc = k.val → (u.lane l).fetchImem e = L.fetchImem e)
        ∧ s.keeps u (hideIn l fun L => { L with imemOld := [] }) (inLane l [Reg.bywImem e k]))
    ∧ (s.takesWrite l Reg.bywSync →
      ∃ u, exec (.bywSync l v) s = .next u ∧ (∀ x : Fin 8, (u.lane l).eng x = if v.getLsbD x then { L.eng x with acc := 0 } else L.eng x)
        ∧ s.keeps u (hideIn l fun L => { L with byw := Vector.replicate 8 {} }) (inBoth []))
    ∧ (s.takesWrite l Reg.bywFlags →
      ∃ u, exec (.flagSet l v) s = .next u ∧ exec (.flagClear l v) s = .next u ∧ s.keeps u hideNone (inLane l [Reg.bywFlags])
        ∧ ∀ x : Fin 8, (u.lane l).bit Reg.bywFlags x = (v.getLsbD x || L.bit Reg.bywFlags x && (!v.getLsbD (8 + x) || (L.freshMask Reg.bywFlags).getLsbD x)))
    ∧ (s.takesWrite l (pinLatchAddr dir) →
      ∃ u, exec (.pinWrite l dir v) s = .next u ∧ (∀ x : Fin 16, (u.lane l).bit (pinLatchAddr dir) x = if L.pinOwner dir x = 0 then v.getLsbD x else L.bit (pinLatchAddr dir) x)
        ∧ s.keeps u hideNone (inLane l [pinLatchAddr dir]))
    ∧ (let flt := L.fld (if p.val < 8 then Reg.bywPinflt0 else Reg.bywPinflt1) (4 * (p % 8)) 4
      let stamp := BitVec.ofNat 32 (L.time - 4 * (2 + flt))
      let awaits := fun (x : Fin 8) =>
        let i := (L.eng x).latch
        (L.eng x).stalled && opOf i == 2 && argOf i 9 3 == 1 && L.rdPin x (argOf i 0 8) == p.val && decide ((argOf i 8 1 = 1) = (level = true))
      ∃ u, exec (.bywayPinEdge l p level held) s = .next u
        ∧ (held < 4 * flt ∨ L.pins.getLsbD p = level → s.keeps u hideNone (inBoth []))
        ∧ (4 * flt ≤ held → L.pins.getLsbD p ≠ level →
            (u.lane l).pins = putBit L.pins p level ∧ vget (if level then (u.lane l).rises else (u.lane l).falls) p 0 = stamp
              ∧ (if level then (u.lane l).falls = L.falls else (u.lane l).rises = L.rises)
              ∧ (∀ x : Fin 8, (u.lane l).eng x = { L.eng x with seen := (L.eng x).seen || awaits x })
              ∧ s.keeps u (hideIn l fun L => { L with pins := 0, rises := Vector.replicate 16 0, falls := Vector.replicate 16 0, byw := Vector.replicate 8 {} })
                  (inBoth [])))

/-- TWI_GO starts a command, on a free bus with the check of the lines, else it waits for the bus; it is refused with
CFG_REJ while one runs (that GO without CTL_EN is refused, and how a check passes, is the model's reading, log entry
27). TWI_COMMAND_END: DONE, NACK or ARB_LOST with its figures and the bytes read; a loss with retries left waits for
TWI_RETRY. That DONE counts written and read bytes is the model's reading (log entry 28). TWI_BUS_FREE ends a wait or
a check. CTL_EN written 1 in IDLE begins the check. BUS_STUCK ends a check, and the command that it precedes.
TWI_TIMEOUT ends a command, after a number of bytes that is a free value (log entry 110), and a transfer of the
target, unless the end of either is in time (in one PCLK, log entry 49). TARGET_WRITE and TARGET_READ make the bus
busy; with a matching address the one sets the pointer and writes its page, or only the pointer with WP, the other
sends the bytes from the pointer and moves it. TWI_CONFIG_WRITE is taken only while disabled, else CFG_REJ. The bus is
free at reset by the model's choice (log entry 5). A GO that is ignored stores its fields, and MATCH under a mask, are
the model's (log entry 103). -/
def Obligations.TwoWireCommandsAndTarget : Prop :=
  ∀ (s : State) (l : LaneId) (v : Word) (o : TwiOutcome) (addr : BitVec 7) (bs : List Byte) (n : Nat) (sda : Bool), s.runs l →
    let L := s.lane l
    let t := L.twi
    let hide := hideIn l fun L => { L with twi := {} }
    let cbuf := (List.range 16).map Reg.twiCbuf
    let ended := fun (u : State) (w : Twi) (cause : Nat) => (u.lane l).twi = { w with state := .idle, go := false, retries := 0 }
      ∧ (u.lane l).fld Reg.twiCstat 25 4 = cause ∧ (u.lane l).bit Reg.twiEvent 0 = true
    let got := fun (u : State) (rd : List Byte) => ∀ i : Fin 64, i.val < rd.length → i.val < t.rlen →
      (u.lane l).fld (Reg.twiCbuf (i / 4)) (8 * (i % 4)) 8 = (rd.getD i 0).toNat
    let same := s.settle
    let finished := match o with | .done r => some r | _ => none
    let refused := match o with | .nack k r => some (k, r) | _ => none
    let lost := match o with | .arbLost k b rd => some (k, b, rd) | _ => none
    let regs := [Reg.twiCstat, Reg.twiEvent]
    let sent := { t with wrote := L.cbufGet (t.sentBytes o) }
    let heard := { t with free := false, heardAt := some L.time }
    let acts := t.state = .active ∨ t.state = .check ∧ t.go = true
    let ctl := s.twiSoon l = false ∧ t.runs = true
    let tgt := s.targetSoon l = false ∧ L.bit Reg.twiCtrl 1 = true ∧ ∀ x, t.heardAt = some x → x / 4 ≠ L.time / 4
    (s.takesWrite l Reg.twiCcmd →
      let new := L.written Reg.twiCcmd v
      let no := t.state ≠ .idle ∧ (t.state = .check → t.go = true) ∨ L.bit Reg.twiCtrl 0 = false ∨ 64 < bits new 8 7 ∨ 64 < bits new 16 7
      ∃ u, exec (.twiGo l v) s = .next u ∧ (u.lane l).reg Reg.twiCcmd = new ∧ s.keeps u hide (inLane l [Reg.twiCcmd, Reg.twiEvent])
        ∧ (v.getLsbD 31 = false → (u.lane l).twi = t ∧ (u.lane l).reg Reg.twiEvent = L.reg Reg.twiEvent)
        ∧ (v.getLsbD 31 = true → no → (u.lane l).twi = t ∧ (u.lane l).bit Reg.twiEvent 5 = true)
        ∧ (v.getLsbD 31 = true → ¬ no → (u.lane l).twi = { t with
            cmd := new, retries := L.fld Reg.twiCtrl 3 3, free := false, go := t.free && decide (t.state = .idle)
            state := if t.free = true ∧ t.state = .idle then .check else .waitBus }))
    ∧ (¬ acts → exec (.twiCommandEnd l o) s = .next same)
    ∧ (acts →
      ∃ u, exec (.twiCommandEnd l o) s = .next u ∧ s.keeps u hide (inLane l (regs ++ cbuf))
        ∧ (∀ rd, finished = some rd → ended u sent 1 ∧ got u rd ∧ (u.lane l).fld Reg.twiCstat 0 8 = t.wlen + t.rlen)
        ∧ (∀ x, refused = some x → ended u sent 2 ∧ got u x.2 ∧ (u.lane l).bit Reg.twiEvent 1 = true
            ∧ (u.lane l).fld Reg.twiCstat 8 8 = x.1 % 256 ∧ (u.lane l).fld Reg.twiCstat 0 8 = t.bytesBefore x.1 % 256)
        ∧ (∀ x, lost = some x → (u.lane l).bit Reg.twiEvent 2 = true ∧ got u x.2.2
            ∧ (u.lane l).fld Reg.twiCstat 8 8 = x.1 % 256 ∧ (u.lane l).fld Reg.twiCstat 16 4 = x.2.1.toNat
            ∧ (u.lane l).fld Reg.twiCstat 0 8 = t.bytesBefore x.1 % 256
            ∧ (0 < t.retries → (u.lane l).twi = { sent with state := .arbWait, go := false, retries := t.retries - 1 })
            ∧ (t.retries = 0 → ended u sent 3)))
    ∧ (∃ u, exec (.twiRetry l) s = .next u ∧ s.keeps u hide (inBoth [])
        ∧ (u.lane l).twi = if t.state = .arbWait then { t with state := .active, free := false } else t)
    ∧ (∃ u, exec (.twiBusFree l) s = .next u ∧ s.keeps u hide (inBoth [])
        ∧ (t.state = .waitBus → (u.lane l).twi = { t with state := .check, go := true, free := false })
        ∧ (t.state = .check → (u.lane l).twi =
            if t.go = true then { t with state := .active, go := false, free := false } else { t with state := .idle, free := true })
        ∧ (t.state = .active → (u.lane l).twi = t)
        ∧ (t.state = .idle ∨ t.state = .arbWait → (u.lane l).twi = { t with free := true }))
    ∧ (s.takesWrite l Reg.twiCtrl →
      let begins := v.getLsbD 0 = true ∧ t.state = .idle
      ∃ u, exec (.ctlEn l v) s = .next u ∧ (u.lane l).reg Reg.twiCtrl = L.written Reg.twiCtrl v ∧ s.keeps u hide (inLane l [Reg.twiCtrl])
        ∧ (begins → (u.lane l).twi = { t with state := .check, free := false }) ∧ (¬ begins → (u.lane l).twi = t))
    ∧ (s.twiSoon l = true ∨ t.state ≠ .check ∨ L.bit Reg.twiCtrl 0 = false → exec (.busStuck l sda) s = .next same)
    ∧ (s.twiSoon l = false → t.state = .check → L.bit Reg.twiCtrl 0 = true →
      ∃ u, exec (.busStuck l sda) s = .next u ∧ (u.lane l).bit Reg.twiEvent 3 = true ∧ s.keeps u (hide ∘ hideFaults) (inLane l (Reg.fltLost :: regs))
        ∧ (t.go = false → (u.lane l).twi = { t with state := .idle, free := false } ∧ (u.lane l).reg Reg.twiCstat = L.reg Reg.twiCstat)
        ∧ (t.go = true → ended u { t with wrote := [] } 4 ∧ (u.lane l).fld Reg.twiCstat 0 8 = 0)
        ∧ (sda = false → (u.lane l).fltQ = L.fltQ))
    ∧ (L.bit Reg.twiCtrl 2 = false ∨ ¬ ctl ∧ ¬ tgt → exec (.twiTimeout l) s = .next same)
    ∧ (L.bit Reg.twiCtrl 2 = true → ctl ∨ tgt →
      ∃ u, exec (.twiTimeout l) s = .next u ∧ s.keeps u (hide ∘ hideFaults ∘ hideFree) (inLane l (Reg.fltLost :: regs ++ cbuf))
        ∧ (let moved := (u.lane l).fld Reg.twiCstat 0 8
          ctl → ended u { t with wrote := L.cbufGet (min t.wlen moved) } 5 ∧ (u.lane l).bit Reg.twiEvent 4 = true
            ∧ moved ≤ t.wlen + t.rlen ∧ (¬ acts → moved = 0)
            ∧ ∀ i : Fin 64, moved - t.wlen ≤ i.val →
                (u.lane l).fld (Reg.twiCbuf (i / 4)) (8 * (i % 4)) 8 = L.fld (Reg.twiCbuf (i / 4)) (8 * (i % 4)) 8)
        ∧ (¬ ctl → (u.lane l).twi = t ∧ u.freeCount = s.freeCount ∧ ∀ a ∈ Reg.twiCstat :: cbuf, (u.lane l).reg a = L.reg a)
        ∧ (tgt → (u.lane l).bit Reg.twiEvent 11 = true)
        ∧ (¬ tgt → (u.lane l).bit Reg.twiEvent 11 = L.bit Reg.twiEvent 11))
    ∧ (L.twiMatch addr.toNat = none → exec (.targetWrite l addr bs) s = .next (s.upd l Lane.twiHeard).settle
        ∧ exec (.targetRead l addr n) s = .next (s.upd l Lane.twiHeard).settle)
    ∧ (∀ m, L.twiMatch addr.toNat = some m → L.initing = false →
      let p := ((bs.getD 0 0).toNat * 256 + (bs.getD 1 0).toNat) % L.twiSize
      let data := bs.drop 2
      let page := L.twiBase + p / 64 * 64
      let wp := L.bit Reg.twiTwin 31
      ∃ u, exec (.targetWrite l addr bs) s = .next u ∧ (u.lane l).fld Reg.twiTstat 30 2 = m
        ∧ s.keeps u (hide ∘ hideMem l ∘ hideFaults) (inLane l (Reg.twiTstat :: Reg.twiEvent :: memRegs))
        ∧ (bs.length < 2 → (u.lane l).twi = heard) ∧ (2 ≤ bs.length → data = [] ∨ wp = true → (u.lane l).twi = { heard with ptr := p })
        ∧ (data = [] ∨ wp = true → (u.lane l).mem = L.mem) ∧ (data ≠ [] → wp = true → (u.lane l).bit Reg.twiEvent 10 = true)
        ∧ (data ≠ [] → wp = false → (u.lane l).twi = { heard with ptr := p / 64 * 64 + (p + data.length) % 64 } ∧ (u.lane l).bit Reg.twiEvent 8 = true
            ∧ (data.length ≤ 64 → ∀ i : Fin 64, i.val < data.length → (u.lane l).peekByte (page + (p + i) % 64) = data.getD i 0)
            ∧ (L.mem.merge.length + 4 ≤ 8 → ∀ b, b < page ∨ page + 64 ≤ b → (u.lane l).peekByte b = L.peekByte b)))
    ∧ (∀ m, L.twiMatch addr.toNat = some m →
      ∃ u, exec (.targetRead l addr n) s = .next u ∧ (u.lane l).fld Reg.twiTstat 30 2 = m ∧ (u.lane l).bit Reg.twiEvent 9 = true
        ∧ (u.lane l).twi = { heard with ptr := (t.ptr % L.twiSize + n) % L.twiSize, sent := (L.targetFetch (t.ptr % L.twiSize) n n).2.2.2 }
        ∧ ((L.targetFetch (t.ptr % L.twiSize) n n).2.1 = true → (u.lane l).bit Reg.twiEvent 12 = true)
        ∧ s.keeps u (hide ∘ hideMem l ∘ hideFaults) (inLane l (Reg.twiTstat :: Reg.twiEvent :: memRegs)))
    ∧ (∀ r ∈ [TwiCfgReg.tim0, .tim1, .tout, .taddr, .twin], s.takesWrite l (twiCfgAddr r) →
      let busy := L.bit Reg.twiCtrl 0 || L.bit Reg.twiCtrl 1
      ∃ u, exec (.twiConfigWrite l r v) s = .next u ∧ s.keeps u hideNone (inLane l [twiCfgAddr r, Reg.twiEvent])
        ∧ (busy = false → (u.lane l).reg (twiCfgAddr r) = L.written (twiCfgAddr r) v)
        ∧ (busy = true → (u.lane l).reg (twiCfgAddr r) = L.reg (twiCfgAddr r) ∧ (u.lane l).bit Reg.twiEvent 5 = true))

/-- SEALED: no line changes anything. A framing error sets FRAME_ERR and loses the line, as an empty or too long one is
lost; an unknown command replies ER 01, bad syntax ER 02. A command of another lock state replies ER 03 and no more.
ID, in OPEN and LOCKED: serial number as item 1 is voted, lane letter and MON_LOCK. RD: ER 02 unless 1 to 8 words; the
words, or ER 05, after the writes of the same cycle (log entry 99); poison raises CORE_POISON. WR: ER 04 for a
mirrored address of a READY lane of the D variant, else the write, and OK, ER 04 (BUSY, NOT_OWNER) or ER 05 by its
status. An access to an array that is being initialised waits. BAUD: MON_UART, OK. KEY: ER 02 by length, ER 04 if
present, else stored, with its CRC-32C (an all-zero key is absent: the model's reading, log entry 62). OPT: the fuse
row, all three copies, TMODE_MAX only once (what a second OPT T does is the model's reading, log entry 109). LOCK: ER
04 without KC, else LOCKED, flagged. SEAL: SEALED where the fuse reads back, else the lane stays LOCKED. RESTART: OK
and a lane restart. How a line came is an operand (log entry 72); the replies to WR are log entry 101, to RD of a bad
count log entry 103. -/
def Obligations.MonitorCommands : Prop :=
  ∀ (s : State) (l : LaneId) (addr : BitVec 32) (n : Nat) (v : Word) (bs : List Byte) (fuse : Bool) (k : KeyName) (o : OptArg) (line : MonLine) (done : Bool), s.runs l →
    let L := s.lane l
    let m := L.mon
    let hide := hideIn l fun L => { L with mon := {} }
    let inOpen : List Instr := [.monRd l addr n, .monWr l addr v, .monKey l k bs, .monOpt l o, .monLock l, .monRestart l]
    let inLocked : List Instr := [.monSeal l fuse, .monChal l, .monResp l ⟨bs, done⟩]
    let anyLine := fun (x : MonLine) => [Instr.monId l x, .monBaud l v x]
    let refused := (s.reply l (.er 3)).settle
    let old : List Byte := match k with | .a => m.ka | .e => m.ke | .c => m.kc
    let size : Nat := match k with | .e => 16 | _ => 32
    let key : List Byte := if bs.all (· == 0) then [] else bs
    let store : Mon → Mon := fun m => match k with | .a => { m with ka := key } | .e => { m with ke := key } | .c => { m with kc := key }
    let fused : FuseCopy → FuseCopy := fun c => match o with
      | .p => { c with opt := setBits c.opt 7 1 1 }
      | .e => { c with opt := setBits c.opt 5 1 1 }
      | .t x => if c.tmodeSet = true then c else { c with opt := setBits c.opt 0 3 x.val, tmodeSet := true }
    let serial := (L.item 1 >>> 32).setWidth 32
    let waits := fun (k : Nat) => L.waitsInit addr.toNat (4 * k)
    let held := fun (k : Nat) (w : Option Word) => { m with wait := some ⟨addr.toNat, k, w⟩, reply := .none }
    let first := fun (k : Nat) => (s.writesFirst l addr.toNat (4 * k)).readWord l addr.toNat 0
    let read := first 1
    let write := s.writeWord l .core addr.toNat v
    let shut := mapped addr.toNat && decide (addr.toNat < 0x10080000) && L.ready && !s.variantS
    (m.lock = .sealed → ∀ c ∈ inOpen ++ inLocked ++ anyLine line, exec c s = .next s.settle)
    ∧ (m.lock ≠ .sealed → ∀ c ∈ anyLine .unknown, exec c s = .next (s.reply l (.er 1)).settle)
    ∧ (m.lock ≠ .sealed → ∀ c ∈ anyLine .misspelt, exec c s = .next (s.reply l (.er 2)).settle)
    ∧ (m.lock ≠ .sealed → ∀ c ∈ anyLine .discarded, exec c s = .next s.settle)
    ∧ (m.lock ≠ .sealed → ∀ c ∈ anyLine .framing,
      ∃ u, exec c s = .next u ∧ (u.lane l).bit Reg.monEvent 4 = true ∧ s.keeps u hideNone (inLane l [Reg.monEvent]))
    ∧ (m.lock = .locked → ∀ c ∈ inOpen, exec c s = .next refused)
    ∧ (m.lock = .opened → ∀ c ∈ inLocked, exec c s = .next refused)
    ∧ (m.lock = .opened ∨ m.lock = .locked →
      let flag := fun (b : Bool) (i : Nat) => if b = true then 2 ^ i else 0
      exec (.monId l .good) s = .next ((s.upd l fun L => L.readTriple 1).reply l (.ok [serial, if l = .a then 0x41 else 0x42,
        BitVec.ofNat 32 ((if m.lock = .locked then 1 else 0) * 2 ^ 30 + m.fails * 2 ^ 8 + flag m.hold 3 + flag (!m.ka.isEmpty) 2
          + flag (!m.ke.isEmpty) 1 + flag (!m.kc.isEmpty) 0)])).settle)
    ∧ (m.lock = .opened ∨ m.lock = .locked →
      ∃ u, exec (.monBaud l v .good) s = .next u ∧ (u.lane l).mon = { m with reply := .ok [] } ∧ (u.lane l).reg Reg.monUart = L.written Reg.monUart v
        ∧ s.keeps u hide (inLane l [Reg.monUart]))
    ∧ (m.lock = .opened → n = 0 ∨ 8 < n → exec (.monRd l addr n) s = .next (s.reply l (.er 2)).settle)
    ∧ (m.lock = .opened → 1 ≤ n → n ≤ 8 → waits n = true →
      ∃ u, exec (.monRd l addr n) s = .next u ∧ (u.lane l).mon = held n none
        ∧ s.keeps u (hide ∘ hideMem l ∘ hideFaults) (inLane l memRegs))
    ∧ (m.lock = .opened → 1 ≤ n → n ≤ 8 → waits n = false →
      let fits : MonReply → Bool := fun r => match r with | .ok ws => ws.length == n && ws.head? == some (first n).2.1 | r => r == .er 5
      ∃ u, exec (.monRd l addr n) s = .next u ∧ fits (u.lane l).mon.reply = true)
    ∧ (m.lock = .opened → waits 1 = false → read.2.2 ≠ .decode → read.2.2 ≠ .poison →
      exec (.monRd l addr 1) s = .next (read.1.reply l (if read.2.2 = .ok then .ok [read.2.1] else .er 5)).settle)
    ∧ (m.lock = .opened → waits 1 = false → read.2.2 = .poison →
      exec (.monRd l addr 1) s = .next ((read.1.upd l fun L => L.raiseBy .memCorePoison 0x3FFF addr.toNat 0 1).reply l (.er 5)).settle)
    ∧ (m.lock = .opened → shut = true → exec (.monWr l addr v) s = .next (s.reply l (.er 4)).settle)
    ∧ (m.lock = .opened → shut = false → waits 1 = true →
      ∃ u, exec (.monWr l addr v) s = .next u ∧ (u.lane l).mon = held 1 (some v) ∧ s.keeps u hide (inBoth []))
    ∧ (m.lock = .opened → shut = false → waits 1 = false → write.2 ≠ .decode →
      exec (.monWr l addr v) s
        = .next (write.1.reply l (if write.2 = .ok then .ok [] else if write.2 = .busy ∨ write.2 = .notOwner then .er 4 else .er 5)).settle)
    ∧ (m.lock = .opened → mapped addr.toNat = false → (arrayOf addr.toNat).isSome = false →
      ∀ c ∈ [Instr.monRd l addr 1, .monWr l addr v],
      ∃ u, exec c s = .next u ∧ (u.lane l).mon = { m with reply := .er 5 } ∧ s.keeps u (hide ∘ hideFaults) (inLane l [Reg.fltLost]))
    ∧ (m.lock = .opened →
      ∃ u, exec (.monKey l k bs) s = .next u ∧ s.keeps u hide (inBoth [])
        ∧ (bs.length ≠ size → (u.lane l).mon = { m with reply := .er 2 })
        ∧ (bs.length = size → old ≠ [] → (u.lane l).mon = { m with reply := .er 4 })
        ∧ (bs.length = size → old = [] → (u.lane l).mon = { store m with reply := .ok [crc32c bs] }))
    ∧ (m.lock = .opened →
      ∃ u, exec (.monOpt l o) s = .next u ∧ (u.lane l).mon = { m with fuse := m.fuse.map fused, reply := .ok [] } ∧ s.keeps u hide (inBoth []))
    ∧ (m.lock = .opened → m.kc = [] → exec (.monLock l) s = .next (s.reply l (.er 4)).settle)
    ∧ (m.lock = .opened → m.kc ≠ [] →
      ∃ u, exec (.monLock l) s = .next u ∧ (u.lane l).mon = { m with lock := .locked, reply := .ok [] } ∧ (u.lane l).bit Reg.monEvent 3 = true
        ∧ s.keeps u hide (inLane l [Reg.monEvent]))
    ∧ (m.lock = .locked →
      ∃ u, exec (.monSeal l fuse) s = .next u ∧ (u.lane l).mon = (if fuse then { m with fuse := m.fuse.map (fun c => { c with sealed := true }), lock := .sealed, reply := .ok [] } else m)
        ∧ s.keeps u hide (inBoth []))
    ∧ (m.lock = .opened →
      ∃ u, exec (.monRestart l) s = .next u ∧ (u.lane l).mon = { m with nonce := none, reply := .ok [] } ∧ (u.lane l).run = .stopped
        ∧ (u.lane l).ready = false ∧ (u.lane l).odo = {} ∧ (u.lane l).power.cold = false ∧ (u.lane l).time = L.time
        ∧ (u.lane l).fld Reg.clkRst 8 4 = 1 ∧ (u.lane l).fld Reg.clkRst 0 8 = min (L.fld Reg.clkRst 0 8 + 1) 255
        ∧ u.chans = s.chans ∧ u.gates = s.gates ∧ u.rails = s.rails ∧ (u.lane l).store.nand = L.store.nand)

/-- CHAL while LOCKED: ER 06 during the delay, else four fresh words as the nonce (their values are free, log entry 2).
RESP: ER 02 without a valid nonce (older than 60 s is invalid) or of a wrong length. A wrong RESP consumes the nonce:
ER 03, CHAL_FAIL, FAILS rises to at most 8, and the delay of 10 s times 2 to the FAILS less 1 runs. A right one, the
first 16 bytes of the HMAC under KC over nonce, serial number and lane letter: ER 04 while the Odometer is not
STOPPED; else the keys are erased, FAILS is 0, the lane is OPEN under HOLD, leaves READY and drops what its links had
not sent, with OPENED, KEY_ERASED and OK; if the erasure is cut short the lane is ERASING under HOLD, out of READY.
CHALLENGE_DELAY_END ends a delay whose time is over. NONCE_EXPIRY ends the nonce after 60 s unless a RESP of the same
cycle waits. That the end of the erasure is an operand is log entry 102; a RESP of a wrong length is log entry 103. -/
def Obligations.ChallengeAndOpening : Prop :=
  ∀ (s : State) (l : LaneId) (r : List Byte) (done : Bool), s.runs l →
    let L := s.lane l
    let m := L.mon
    let hide := hideIn l fun L => { L with mon := {} }
    let letter : Byte := if l = .a then 0x41 else 0x42
    let running : Bool := match m.delay with | some t => decide (s.now < t) | none => false
    let words := (List.range 4).map fun i => Config.freeWord (s.freeCount + i)
    let drawn := (words.map fun w => (leBytes w.toNat 4).reverse).flatten
    let answer := fun (q : List Byte) => (hmac m.kc (q ++ leBytes ((L.item 1 >>> 32).setWidth 32 : Word).toNat 4 ++ [letter])).take 16
    let waits := s.pending.any fun i => match i with | .monResp p _ => p == l | _ => false
    let fails := min (m.fails + 1) 8
    (m.lock = .locked → running = true → exec (.monChal l) s = .next (s.reply l (.er 6)).settle)
    ∧ (m.lock = .locked → running = false →
      ∃ u, exec (.monChal l) s = .next u ∧ (u.lane l).mon = { m with nonce := some (drawn, s.now), reply := .ok words }
        ∧ u.freeCount = s.freeCount + 4 ∧ s.keeps u (hide ∘ hideFree) (inBoth []))
    ∧ (m.lock = .locked → m.nonce = none → exec (.monResp l ⟨r, done⟩) s = .next (s.reply l (.er 2)).settle)
    ∧ (∀ q, m.nonce = some q → m.lock = .locked →
        (q.2 + 24000000000 < s.now ∨ r.length ≠ 16 → exec (.monResp l ⟨r, done⟩) s = .next (s.reply l (.er 2)).settle)
        ∧ (s.now ≤ q.2 + 24000000000 → r.length = 16 → r ≠ answer q.1 →
          ∃ u, exec (.monResp l ⟨r, done⟩) s = .next u
            ∧ (u.lane l).mon = { m with nonce := none, fails := fails, delay := some (s.now + 4000000000 * 2 ^ (fails - 1)), reply := .er 3 }
            ∧ (u.lane l).bit Reg.monEvent 1 = true ∧ s.keeps u (hide ∘ hideFaults ∘ hideTriples) (inLane l (Reg.monEvent :: tripleRegs)))
        ∧ (s.now ≤ q.2 + 24000000000 → r.length = 16 → r = answer q.1 → L.odo.state ≠ .stopped →
          ∃ u, exec (.monResp l ⟨r, done⟩) s = .next u ∧ (u.lane l).mon = { m with nonce := none, reply := .er 4 } ∧ s.keeps u (hide ∘ hideFaults ∘ hideTriples) (inLane l tripleRegs))
        ∧ (s.now ≤ q.2 + 24000000000 → r.length = 16 → r = answer q.1 → L.odo.state = .stopped → done = true →
          ∃ u, exec (.monResp l ⟨r, done⟩) s = .next u ∧ (u.lane l).ready = false
            ∧ (u.lane l).mon = { m with nonce := none, ka := [], ke := [], kc := [], fails := 0, lock := .opened, hold := true, delay := none, reply := .ok [] }
            ∧ (u.lane l).bit Reg.monEvent 2 = true ∧ (u.lane l).bit Reg.monEvent 0 = true ∧ (u.lane l).sched.held = []
            ∧ (∀ d : Fin 12, vget (u.lane l).sched.links d [] = (vget L.sched.links d []).filter fun e => decide (e.slotAt + 50 ≤ s.now))
            ∧ s.keeps u (hideIn l (fun L => { L with mon := {}, ready := false, sched := {} }) ∘ hideFaults ∘ hideTriples) (inLane l (Reg.monEvent :: tripleRegs)))
        ∧ (s.now ≤ q.2 + 24000000000 → r.length = 16 → r = answer q.1 → L.odo.state = .stopped → done = false →
          ∃ u, exec (.monResp l ⟨r, done⟩) s = .next u ∧ (u.lane l).ready = false
            ∧ (u.lane l).mon = { m with nonce := none, lock := .erasing, hold := true }
            ∧ s.keeps u (hideIn l (fun L => { L with mon := {}, ready := false, sched := {} }) ∘ hideFaults ∘ hideTriples) (inLane l tripleRegs)))
    ∧ (∃ u, exec (.challengeDelayEnd l) s = .next u ∧ (u.lane l).mon = (if running then m else { m with delay := none }) ∧ s.keeps u hide (inBoth []))
    ∧ (∃ u, exec (.nonceExpiry l) s = .next u ∧ s.keeps u hide (inBoth [])
        ∧ (m.nonce = none → (u.lane l).mon = m)
        ∧ (∀ q, m.nonce = some q → (u.lane l).mon = if waits || decide (s.now < q.2 + 24000000000) then m else { m with nonce := none }))
end

