-- ==== Sys2Proof/Laws/Crypto.lean ====
section
/-! SUPPORT. The lengths of digests (21_monitor.md R416): a correct response exists for every nonce. -/

namespace Sys2Proof.Machine

theorem leBytes_length (n : Nat) : ∀ x, (leBytes x n).length = n := by
  induction n with
  | zero => exact fun _ => rfl
  | succ n ih => exact fun x => congrArg Nat.succ (ih (x / 256))

/-- A SHA-256 digest is 32 bytes. -/
theorem sha256_length (m : List Byte) : (sha256 m).length = 32 := by
  simp [sha256, leBytes_length]

/-- An HMAC is 32 bytes, so the first 16 that R416 takes are 16. -/
theorem hmac_length (k m : List Byte) : (hmac k m).length = 32 := sha256_length _

end Sys2Proof.Machine
end

