-- ==== Sys2Proof/Laws/State.lean ====
section
/-! SUPPORT. One lemma per field and update of the states: what an update sets and what it leaves. -/

namespace Sys2Proof.Machine

/-! ### Lanes of the module -/

@[simp] theorem State.lane_setLane (s : State) (l : LaneId) (x : Lane) : (s.setLane l x).lane l = x := by cases l <;> rfl
@[simp] theorem State.lane_setLane_other (s : State) (l : LaneId) (x : Lane) :
    (s.setLane l x).lane (otherLane l) = s.lane (otherLane l) := by cases l <;> rfl
@[simp] theorem State.lane_upd (s : State) (l : LaneId) (f : Lane → Lane) : (s.upd l f).lane l = f (s.lane l) := by
  cases l <;> rfl
@[simp] theorem State.lane_upd_other (s : State) (l : LaneId) (f : Lane → Lane) :
    (s.upd l f).lane (otherLane l) = s.lane (otherLane l) := by cases l <;> rfl
@[simp] theorem State.upd_upd (s : State) (l : LaneId) (f g : Lane → Lane) : (s.upd l f).upd l g = s.upd l (fun L => g (f L)) :=
  by
  cases l <;> rfl
@[simp] theorem State.fitted_upd (s : State) (l m : LaneId) (f : Lane → Lane) : (s.upd l f).fitted m = s.fitted m := by
  cases l <;> rfl
@[simp] theorem otherLane_otherLane (l : LaneId) : otherLane (otherLane l) = l := by cases l <;> rfl

@[simp] theorem State.upd_now (s : State) (l : LaneId) (f : Lane → Lane) : (s.upd l f).now = s.now := by cases l <;> rfl
@[simp] theorem State.setLane_now (s : State) (l : LaneId) (x : Lane) : (s.setLane l x).now = s.now := by cases l <;> rfl
@[simp] theorem State.upd_variantS (s : State) (l : LaneId) (f : Lane → Lane) : (s.upd l f).variantS = s.variantS :=
  by cases l <;> rfl
@[simp] theorem State.setLane_variantS (s : State) (l : LaneId) (x : Lane) : (s.setLane l x).variantS = s.variantS :=
  by cases l <;> rfl
@[simp] theorem State.upd_chans (s : State) (l : LaneId) (f : Lane → Lane) : (s.upd l f).chans = s.chans :=
  by cases l <;> rfl
@[simp] theorem State.setLane_chans (s : State) (l : LaneId) (x : Lane) : (s.setLane l x).chans = s.chans :=
  by cases l <;> rfl
@[simp] theorem State.upd_quads (s : State) (l : LaneId) (f : Lane → Lane) : (s.upd l f).quads = s.quads :=
  by cases l <;> rfl
@[simp] theorem State.setLane_quads (s : State) (l : LaneId) (x : Lane) : (s.setLane l x).quads = s.quads :=
  by cases l <;> rfl
@[simp] theorem State.upd_gates (s : State) (l : LaneId) (f : Lane → Lane) : (s.upd l f).gates = s.gates :=
  by cases l <;> rfl
@[simp] theorem State.setLane_gates (s : State) (l : LaneId) (x : Lane) : (s.setLane l x).gates = s.gates :=
  by cases l <;> rfl
@[simp] theorem State.upd_rails (s : State) (l : LaneId) (f : Lane → Lane) : (s.upd l f).rails = s.rails :=
  by cases l <;> rfl
@[simp] theorem State.setLane_rails (s : State) (l : LaneId) (x : Lane) : (s.setLane l x).rails = s.rails :=
  by cases l <;> rfl
@[simp] theorem State.upd_dies (s : State) (l : LaneId) (f : Lane → Lane) : (s.upd l f).dies = s.dies := by cases l <;> rfl
@[simp] theorem State.setLane_dies (s : State) (l : LaneId) (x : Lane) : (s.setLane l x).dies = s.dies := by cases l <;> rfl
@[simp] theorem State.upd_sups (s : State) (l : LaneId) (f : Lane → Lane) : (s.upd l f).sups = s.sups := by cases l <;> rfl
@[simp] theorem State.setLane_sups (s : State) (l : LaneId) (x : Lane) : (s.setLane l x).sups = s.sups := by cases l <;> rfl
@[simp] theorem State.upd_vsupLow (s : State) (l : LaneId) (f : Lane → Lane) : (s.upd l f).vsupLow = s.vsupLow :=
  by cases l <;> rfl
@[simp] theorem State.setLane_vsupLow (s : State) (l : LaneId) (x : Lane) : (s.setLane l x).vsupLow = s.vsupLow :=
  by cases l <;> rfl
@[simp] theorem State.upd_ports (s : State) (l : LaneId) (f : Lane → Lane) : (s.upd l f).ports = s.ports :=
  by cases l <;> rfl
@[simp] theorem State.setLane_ports (s : State) (l : LaneId) (x : Lane) : (s.setLane l x).ports = s.ports :=
  by cases l <;> rfl
@[simp] theorem State.upd_jct (s : State) (l : LaneId) (f : Lane → Lane) : (s.upd l f).jct = s.jct := by cases l <;> rfl
@[simp] theorem State.setLane_jct (s : State) (l : LaneId) (x : Lane) : (s.setLane l x).jct = s.jct := by cases l <;> rfl
@[simp] theorem State.upd_pref (s : State) (l : LaneId) (f : Lane → Lane) : (s.upd l f).pref = s.pref := by cases l <;> rfl
@[simp] theorem State.setLane_pref (s : State) (l : LaneId) (x : Lane) : (s.setLane l x).pref = s.pref := by cases l <;> rfl
@[simp] theorem State.upd_link (s : State) (l : LaneId) (f : Lane → Lane) : (s.upd l f).link = s.link := by cases l <;> rfl
@[simp] theorem State.setLane_link (s : State) (l : LaneId) (x : Lane) : (s.setLane l x).link = s.link := by cases l <;> rfl
@[simp] theorem State.upd_mirror (s : State) (l : LaneId) (f : Lane → Lane) : (s.upd l f).mirror = s.mirror :=
  by cases l <;> rfl
@[simp] theorem State.setLane_mirror (s : State) (l : LaneId) (x : Lane) : (s.setLane l x).mirror = s.mirror :=
  by cases l <;> rfl
@[simp] theorem State.upd_freeCount (s : State) (l : LaneId) (f : Lane → Lane) : (s.upd l f).freeCount = s.freeCount :=
  by cases l <;> rfl
@[simp] theorem State.setLane_freeCount (s : State) (l : LaneId) (x : Lane) : (s.setLane l x).freeCount = s.freeCount :=
  by cases l <;> rfl
@[simp] theorem State.upd_pending (s : State) (l : LaneId) (f : Lane → Lane) : (s.upd l f).pending = s.pending :=
  by cases l <;> rfl
@[simp] theorem State.setLane_pending (s : State) (l : LaneId) (x : Lane) : (s.setLane l x).pending = s.pending :=
  by cases l <;> rfl

/-! ### State.chanUpd -/

@[simp] theorem State.chanUpd_now (s : State) (n : Nat) (f : Chan → Chan) : (s.chanUpd n f).now = s.now := rfl
@[simp] theorem State.chanUpd_variantS (s : State) (n : Nat) (f : Chan → Chan) : (s.chanUpd n f).variantS = s.variantS := rfl
@[simp] theorem State.chanUpd_laneA (s : State) (n : Nat) (f : Chan → Chan) : (s.chanUpd n f).laneA = s.laneA := rfl
@[simp] theorem State.chanUpd_laneB (s : State) (n : Nat) (f : Chan → Chan) : (s.chanUpd n f).laneB = s.laneB := rfl
@[simp] theorem State.chanUpd_chans (s : State) (n : Nat) (f : Chan → Chan) : (s.chanUpd n f).chans = vmod s.chans n f := rfl
@[simp] theorem State.chanUpd_quads (s : State) (n : Nat) (f : Chan → Chan) : (s.chanUpd n f).quads = s.quads := rfl
@[simp] theorem State.chanUpd_gates (s : State) (n : Nat) (f : Chan → Chan) : (s.chanUpd n f).gates = s.gates := rfl
@[simp] theorem State.chanUpd_rails (s : State) (n : Nat) (f : Chan → Chan) : (s.chanUpd n f).rails = s.rails := rfl
@[simp] theorem State.chanUpd_dies (s : State) (n : Nat) (f : Chan → Chan) : (s.chanUpd n f).dies = s.dies := rfl
@[simp] theorem State.chanUpd_sups (s : State) (n : Nat) (f : Chan → Chan) : (s.chanUpd n f).sups = s.sups := rfl
@[simp] theorem State.chanUpd_vsupLow (s : State) (n : Nat) (f : Chan → Chan) : (s.chanUpd n f).vsupLow = s.vsupLow := rfl
@[simp] theorem State.chanUpd_ports (s : State) (n : Nat) (f : Chan → Chan) : (s.chanUpd n f).ports = s.ports := rfl
@[simp] theorem State.chanUpd_jct (s : State) (n : Nat) (f : Chan → Chan) : (s.chanUpd n f).jct = s.jct := rfl
@[simp] theorem State.chanUpd_pref (s : State) (n : Nat) (f : Chan → Chan) : (s.chanUpd n f).pref = s.pref := rfl
@[simp] theorem State.chanUpd_link (s : State) (n : Nat) (f : Chan → Chan) : (s.chanUpd n f).link = s.link := rfl
@[simp] theorem State.chanUpd_mirror (s : State) (n : Nat) (f : Chan → Chan) : (s.chanUpd n f).mirror = s.mirror := rfl
@[simp] theorem State.chanUpd_freeCount (s : State) (n : Nat) (f : Chan → Chan) : (s.chanUpd n f).freeCount = s.freeCount :=
  rfl
@[simp] theorem State.chanUpd_pending (s : State) (n : Nat) (f : Chan → Chan) : (s.chanUpd n f).pending = s.pending := rfl
@[simp] theorem State.chanUpd_lane (s : State) (n : Nat) (f : Chan → Chan) (l : LaneId) : (s.chanUpd n f).lane l = s.lane l :=
  by
  cases l <;> rfl

/-! ### State.dieUpd -/

@[simp] theorem State.dieUpd_now (s : State) (d : Nat) (f : Die → Die) : (s.dieUpd d f).now = s.now := rfl
@[simp] theorem State.dieUpd_variantS (s : State) (d : Nat) (f : Die → Die) : (s.dieUpd d f).variantS = s.variantS := rfl
@[simp] theorem State.dieUpd_laneA (s : State) (d : Nat) (f : Die → Die) : (s.dieUpd d f).laneA = s.laneA := rfl
@[simp] theorem State.dieUpd_laneB (s : State) (d : Nat) (f : Die → Die) : (s.dieUpd d f).laneB = s.laneB := rfl
@[simp] theorem State.dieUpd_chans (s : State) (d : Nat) (f : Die → Die) : (s.dieUpd d f).chans = s.chans := rfl
@[simp] theorem State.dieUpd_quads (s : State) (d : Nat) (f : Die → Die) : (s.dieUpd d f).quads = s.quads := rfl
@[simp] theorem State.dieUpd_gates (s : State) (d : Nat) (f : Die → Die) : (s.dieUpd d f).gates = s.gates := rfl
@[simp] theorem State.dieUpd_rails (s : State) (d : Nat) (f : Die → Die) : (s.dieUpd d f).rails = s.rails := rfl
@[simp] theorem State.dieUpd_dies (s : State) (d : Nat) (f : Die → Die) : (s.dieUpd d f).dies = vmod s.dies d f := rfl
@[simp] theorem State.dieUpd_sups (s : State) (d : Nat) (f : Die → Die) : (s.dieUpd d f).sups = s.sups := rfl
@[simp] theorem State.dieUpd_vsupLow (s : State) (d : Nat) (f : Die → Die) : (s.dieUpd d f).vsupLow = s.vsupLow := rfl
@[simp] theorem State.dieUpd_ports (s : State) (d : Nat) (f : Die → Die) : (s.dieUpd d f).ports = s.ports := rfl
@[simp] theorem State.dieUpd_jct (s : State) (d : Nat) (f : Die → Die) : (s.dieUpd d f).jct = s.jct := rfl
@[simp] theorem State.dieUpd_pref (s : State) (d : Nat) (f : Die → Die) : (s.dieUpd d f).pref = s.pref := rfl
@[simp] theorem State.dieUpd_link (s : State) (d : Nat) (f : Die → Die) : (s.dieUpd d f).link = s.link := rfl
@[simp] theorem State.dieUpd_mirror (s : State) (d : Nat) (f : Die → Die) : (s.dieUpd d f).mirror = s.mirror := rfl
@[simp] theorem State.dieUpd_freeCount (s : State) (d : Nat) (f : Die → Die) : (s.dieUpd d f).freeCount = s.freeCount := rfl
@[simp] theorem State.dieUpd_pending (s : State) (d : Nat) (f : Die → Die) : (s.dieUpd d f).pending = s.pending := rfl
@[simp] theorem State.dieUpd_lane (s : State) (d : Nat) (f : Die → Die) (l : LaneId) : (s.dieUpd d f).lane l = s.lane l := by
  cases l <;> rfl

/-! ### State.gateUpd -/

@[simp] theorem State.gateUpd_now (s : State) (g : Nat) (f : Gate → Gate) : (s.gateUpd g f).now = s.now := rfl
@[simp] theorem State.gateUpd_variantS (s : State) (g : Nat) (f : Gate → Gate) : (s.gateUpd g f).variantS = s.variantS := rfl
@[simp] theorem State.gateUpd_laneA (s : State) (g : Nat) (f : Gate → Gate) : (s.gateUpd g f).laneA = s.laneA := rfl
@[simp] theorem State.gateUpd_laneB (s : State) (g : Nat) (f : Gate → Gate) : (s.gateUpd g f).laneB = s.laneB := rfl
@[simp] theorem State.gateUpd_chans (s : State) (g : Nat) (f : Gate → Gate) : (s.gateUpd g f).chans = s.chans := rfl
@[simp] theorem State.gateUpd_quads (s : State) (g : Nat) (f : Gate → Gate) : (s.gateUpd g f).quads = s.quads := rfl
@[simp] theorem State.gateUpd_gates (s : State) (g : Nat) (f : Gate → Gate) : (s.gateUpd g f).gates = vmod s.gates g fun x => x.becomes (f x) s.now :=
  rfl
@[simp] theorem State.gateUpd_rails (s : State) (g : Nat) (f : Gate → Gate) : (s.gateUpd g f).rails = s.rails := rfl
@[simp] theorem State.gateUpd_dies (s : State) (g : Nat) (f : Gate → Gate) : (s.gateUpd g f).dies = s.dies := rfl
@[simp] theorem State.gateUpd_sups (s : State) (g : Nat) (f : Gate → Gate) : (s.gateUpd g f).sups = s.sups := rfl
@[simp] theorem State.gateUpd_vsupLow (s : State) (g : Nat) (f : Gate → Gate) : (s.gateUpd g f).vsupLow = s.vsupLow := rfl
@[simp] theorem State.gateUpd_ports (s : State) (g : Nat) (f : Gate → Gate) : (s.gateUpd g f).ports = s.ports := rfl
@[simp] theorem State.gateUpd_jct (s : State) (g : Nat) (f : Gate → Gate) : (s.gateUpd g f).jct = s.jct := rfl
@[simp] theorem State.gateUpd_pref (s : State) (g : Nat) (f : Gate → Gate) : (s.gateUpd g f).pref = s.pref := rfl
@[simp] theorem State.gateUpd_link (s : State) (g : Nat) (f : Gate → Gate) : (s.gateUpd g f).link = s.link := rfl
@[simp] theorem State.gateUpd_mirror (s : State) (g : Nat) (f : Gate → Gate) : (s.gateUpd g f).mirror = s.mirror := rfl
@[simp] theorem State.gateUpd_freeCount (s : State) (g : Nat) (f : Gate → Gate) : (s.gateUpd g f).freeCount = s.freeCount :=
  rfl
@[simp] theorem State.gateUpd_pending (s : State) (g : Nat) (f : Gate → Gate) : (s.gateUpd g f).pending = s.pending := rfl
@[simp] theorem State.gateUpd_lane (s : State) (g : Nat) (f : Gate → Gate) (l : LaneId) : (s.gateUpd g f).lane l = s.lane l :=
  by
  cases l <;> rfl

/-! ### State.railUpd -/

@[simp] theorem State.railUpd_now (s : State) (k : Nat) (f : Rail → Rail) : (s.railUpd k f).now = s.now := rfl
@[simp] theorem State.railUpd_variantS (s : State) (k : Nat) (f : Rail → Rail) : (s.railUpd k f).variantS = s.variantS := rfl
@[simp] theorem State.railUpd_laneA (s : State) (k : Nat) (f : Rail → Rail) : (s.railUpd k f).laneA = s.laneA := rfl
@[simp] theorem State.railUpd_laneB (s : State) (k : Nat) (f : Rail → Rail) : (s.railUpd k f).laneB = s.laneB := rfl
@[simp] theorem State.railUpd_chans (s : State) (k : Nat) (f : Rail → Rail) : (s.railUpd k f).chans = s.chans := rfl
@[simp] theorem State.railUpd_quads (s : State) (k : Nat) (f : Rail → Rail) : (s.railUpd k f).quads = s.quads := rfl
@[simp] theorem State.railUpd_gates (s : State) (k : Nat) (f : Rail → Rail) : (s.railUpd k f).gates = s.gates := rfl
@[simp] theorem State.railUpd_rails (s : State) (k : Nat) (f : Rail → Rail) : (s.railUpd k f).rails = vmod s.rails k f := rfl
@[simp] theorem State.railUpd_dies (s : State) (k : Nat) (f : Rail → Rail) : (s.railUpd k f).dies = s.dies := rfl
@[simp] theorem State.railUpd_sups (s : State) (k : Nat) (f : Rail → Rail) : (s.railUpd k f).sups = s.sups := rfl
@[simp] theorem State.railUpd_vsupLow (s : State) (k : Nat) (f : Rail → Rail) : (s.railUpd k f).vsupLow = s.vsupLow := rfl
@[simp] theorem State.railUpd_ports (s : State) (k : Nat) (f : Rail → Rail) : (s.railUpd k f).ports = s.ports := rfl
@[simp] theorem State.railUpd_jct (s : State) (k : Nat) (f : Rail → Rail) : (s.railUpd k f).jct = s.jct := rfl
@[simp] theorem State.railUpd_pref (s : State) (k : Nat) (f : Rail → Rail) : (s.railUpd k f).pref = s.pref := rfl
@[simp] theorem State.railUpd_link (s : State) (k : Nat) (f : Rail → Rail) : (s.railUpd k f).link = s.link := rfl
@[simp] theorem State.railUpd_mirror (s : State) (k : Nat) (f : Rail → Rail) : (s.railUpd k f).mirror = s.mirror := rfl
@[simp] theorem State.railUpd_freeCount (s : State) (k : Nat) (f : Rail → Rail) : (s.railUpd k f).freeCount = s.freeCount :=
  rfl
@[simp] theorem State.railUpd_pending (s : State) (k : Nat) (f : Rail → Rail) : (s.railUpd k f).pending = s.pending := rfl
@[simp] theorem State.railUpd_lane (s : State) (k : Nat) (f : Rail → Rail) (l : LaneId) : (s.railUpd k f).lane l = s.lane l :=
  by
  cases l <;> rfl

/-! ### State.portUpd -/

@[simp] theorem State.portUpd_now (s : State) (p : Nat) (f : Port → Port) : (s.portUpd p f).now = s.now := rfl
@[simp] theorem State.portUpd_variantS (s : State) (p : Nat) (f : Port → Port) : (s.portUpd p f).variantS = s.variantS := rfl
@[simp] theorem State.portUpd_laneA (s : State) (p : Nat) (f : Port → Port) : (s.portUpd p f).laneA = s.laneA := rfl
@[simp] theorem State.portUpd_laneB (s : State) (p : Nat) (f : Port → Port) : (s.portUpd p f).laneB = s.laneB := rfl
@[simp] theorem State.portUpd_chans (s : State) (p : Nat) (f : Port → Port) : (s.portUpd p f).chans = s.chans := rfl
@[simp] theorem State.portUpd_quads (s : State) (p : Nat) (f : Port → Port) : (s.portUpd p f).quads = s.quads := rfl
@[simp] theorem State.portUpd_gates (s : State) (p : Nat) (f : Port → Port) : (s.portUpd p f).gates = s.gates := rfl
@[simp] theorem State.portUpd_rails (s : State) (p : Nat) (f : Port → Port) : (s.portUpd p f).rails = s.rails := rfl
@[simp] theorem State.portUpd_dies (s : State) (p : Nat) (f : Port → Port) : (s.portUpd p f).dies = s.dies := rfl
@[simp] theorem State.portUpd_sups (s : State) (p : Nat) (f : Port → Port) : (s.portUpd p f).sups = s.sups := rfl
@[simp] theorem State.portUpd_vsupLow (s : State) (p : Nat) (f : Port → Port) : (s.portUpd p f).vsupLow = s.vsupLow := rfl
@[simp] theorem State.portUpd_ports (s : State) (p : Nat) (f : Port → Port) : (s.portUpd p f).ports = vmod s.ports p f := rfl
@[simp] theorem State.portUpd_jct (s : State) (p : Nat) (f : Port → Port) : (s.portUpd p f).jct = s.jct := rfl
@[simp] theorem State.portUpd_pref (s : State) (p : Nat) (f : Port → Port) : (s.portUpd p f).pref = s.pref := rfl
@[simp] theorem State.portUpd_link (s : State) (p : Nat) (f : Port → Port) : (s.portUpd p f).link = s.link := rfl
@[simp] theorem State.portUpd_mirror (s : State) (p : Nat) (f : Port → Port) : (s.portUpd p f).mirror = s.mirror := rfl
@[simp] theorem State.portUpd_freeCount (s : State) (p : Nat) (f : Port → Port) : (s.portUpd p f).freeCount = s.freeCount :=
  rfl
@[simp] theorem State.portUpd_pending (s : State) (p : Nat) (f : Port → Port) : (s.portUpd p f).pending = s.pending := rfl
@[simp] theorem State.portUpd_lane (s : State) (p : Nat) (f : Port → Port) (l : LaneId) : (s.portUpd p f).lane l = s.lane l :=
  by
  cases l <;> rfl

/-! ### State.jctUpd -/

@[simp] theorem State.jctUpd_now (s : State) (f : Junction → Junction) : (s.jctUpd f).now = s.now := rfl
@[simp] theorem State.jctUpd_variantS (s : State) (f : Junction → Junction) : (s.jctUpd f).variantS = s.variantS := rfl
@[simp] theorem State.jctUpd_laneA (s : State) (f : Junction → Junction) : (s.jctUpd f).laneA = s.laneA := rfl
@[simp] theorem State.jctUpd_laneB (s : State) (f : Junction → Junction) : (s.jctUpd f).laneB = s.laneB := rfl
@[simp] theorem State.jctUpd_chans (s : State) (f : Junction → Junction) : (s.jctUpd f).chans = s.chans := rfl
@[simp] theorem State.jctUpd_quads (s : State) (f : Junction → Junction) : (s.jctUpd f).quads = s.quads := rfl
@[simp] theorem State.jctUpd_gates (s : State) (f : Junction → Junction) : (s.jctUpd f).gates = s.gates := rfl
@[simp] theorem State.jctUpd_rails (s : State) (f : Junction → Junction) : (s.jctUpd f).rails = s.rails := rfl
@[simp] theorem State.jctUpd_dies (s : State) (f : Junction → Junction) : (s.jctUpd f).dies = s.dies := rfl
@[simp] theorem State.jctUpd_sups (s : State) (f : Junction → Junction) : (s.jctUpd f).sups = s.sups := rfl
@[simp] theorem State.jctUpd_vsupLow (s : State) (f : Junction → Junction) : (s.jctUpd f).vsupLow = s.vsupLow := rfl
@[simp] theorem State.jctUpd_ports (s : State) (f : Junction → Junction) : (s.jctUpd f).ports = s.ports := rfl
@[simp] theorem State.jctUpd_jct (s : State) (f : Junction → Junction) : (s.jctUpd f).jct = f s.jct := rfl
@[simp] theorem State.jctUpd_pref (s : State) (f : Junction → Junction) : (s.jctUpd f).pref = s.pref := rfl
@[simp] theorem State.jctUpd_link (s : State) (f : Junction → Junction) : (s.jctUpd f).link = s.link := rfl
@[simp] theorem State.jctUpd_mirror (s : State) (f : Junction → Junction) : (s.jctUpd f).mirror = s.mirror := rfl
@[simp] theorem State.jctUpd_freeCount (s : State) (f : Junction → Junction) : (s.jctUpd f).freeCount = s.freeCount := rfl
@[simp] theorem State.jctUpd_pending (s : State) (f : Junction → Junction) : (s.jctUpd f).pending = s.pending := rfl
@[simp] theorem State.jctUpd_lane (s : State) (f : Junction → Junction) (l : LaneId) : (s.jctUpd f).lane l = s.lane l := by
  cases l <;> rfl

/-! ### Lane.odoUpd -/

@[simp] theorem Lane.odoUpd_run (L : Lane) (f : Odo → Odo) : (L.odoUpd f).run = L.run := rfl
@[simp] theorem Lane.odoUpd_time (L : Lane) (f : Odo → Odo) : (L.odoUpd f).time = L.time := rfl
@[simp] theorem Lane.odoUpd_regs (L : Lane) (f : Odo → Odo) : (L.odoUpd f).regs = L.regs := rfl
@[simp] theorem Lane.odoUpd_locked (L : Lane) (f : Odo → Odo) : (L.odoUpd f).locked = L.locked := rfl
@[simp] theorem Lane.odoUpd_fresh (L : Lane) (f : Odo → Odo) : (L.odoUpd f).fresh = L.fresh := rfl
@[simp] theorem Lane.odoUpd_odo (L : Lane) (f : Odo → Odo) : (L.odoUpd f).odo = f L.odo := rfl
@[simp] theorem Lane.odoUpd_sched (L : Lane) (f : Odo → Odo) : (L.odoUpd f).sched = L.sched := rfl
@[simp] theorem Lane.odoUpd_mem (L : Lane) (f : Odo → Odo) : (L.odoUpd f).mem = L.mem := rfl
@[simp] theorem Lane.odoUpd_ready (L : Lane) (f : Odo → Odo) : (L.odoUpd f).ready = L.ready := rfl
@[simp] theorem Lane.odoUpd_silenced (L : Lane) (f : Odo → Odo) : (L.odoUpd f).silenced = L.silenced := rfl
@[simp] theorem Lane.odoUpd_standby (L : Lane) (f : Odo → Odo) : (L.odoUpd f).standby = L.standby := rfl
@[simp] theorem Lane.odoUpd_triples (L : Lane) (f : Odo → Odo) : (L.odoUpd f).triples = L.triples := rfl
@[simp] theorem Lane.odoUpd_tripleBad (L : Lane) (f : Odo → Odo) : (L.odoUpd f).tripleBad = L.tripleBad := rfl
@[simp] theorem Lane.odoUpd_safeW (L : Lane) (f : Odo → Odo) : (L.odoUpd f).safeW = L.safeW := rfl
@[simp] theorem Lane.odoUpd_trim (L : Lane) (f : Odo → Odo) : (L.odoUpd f).trim = L.trim := rfl
@[simp] theorem Lane.odoUpd_sdTrim (L : Lane) (f : Odo → Odo) : (L.odoUpd f).sdTrim = L.sdTrim := rfl
@[simp] theorem Lane.odoUpd_reported (L : Lane) (f : Odo → Odo) : (L.odoUpd f).reported = L.reported := rfl
@[simp] theorem Lane.odoUpd_xwk (L : Lane) (f : Odo → Odo) : (L.odoUpd f).xwk = L.xwk := rfl
@[simp] theorem Lane.odoUpd_cuts (L : Lane) (f : Odo → Odo) : (L.odoUpd f).cuts = L.cuts := rfl
@[simp] theorem Lane.odoUpd_cutWait (L : Lane) (f : Odo → Odo) : (L.odoUpd f).cutWait = L.cutWait := rfl
@[simp] theorem Lane.odoUpd_estOld (L : Lane) (f : Odo → Odo) : (L.odoUpd f).estOld = L.estOld := rfl
@[simp] theorem Lane.odoUpd_imemOld (L : Lane) (f : Odo → Odo) : (L.odoUpd f).imemOld = L.imemOld := rfl
@[simp] theorem Lane.odoUpd_pinOwn (L : Lane) (f : Odo → Odo) : (L.odoUpd f).pinOwn = L.pinOwn := rfl
@[simp] theorem Lane.odoUpd_flagWas (L : Lane) (f : Odo → Odo) : (L.odoUpd f).flagWas = L.flagWas := rfl
@[simp] theorem Lane.odoUpd_landingQ (L : Lane) (f : Odo → Odo) : (L.odoUpd f).landingQ = L.landingQ := rfl
@[simp] theorem Lane.odoUpd_chargeQ (L : Lane) (f : Odo → Odo) : (L.odoUpd f).chargeQ = L.chargeQ := rfl
@[simp] theorem Lane.odoUpd_viewAt (L : Lane) (f : Odo → Odo) : (L.odoUpd f).viewAt = L.viewAt := rfl
@[simp] theorem Lane.odoUpd_dieWrites (L : Lane) (f : Odo → Odo) : (L.odoUpd f).dieWrites = L.dieWrites := rfl
@[simp] theorem Lane.odoUpd_pdQ (L : Lane) (f : Odo → Odo) : (L.odoUpd f).pdQ = L.pdQ := rfl
@[simp] theorem Lane.odoUpd_railSent (L : Lane) (f : Odo → Odo) : (L.odoUpd f).railSent = L.railSent := rfl
@[simp] theorem Lane.odoUpd_icu (L : Lane) (f : Odo → Odo) : (L.odoUpd f).icu = L.icu := rfl
@[simp] theorem Lane.odoUpd_acq (L : Lane) (f : Odo → Odo) : (L.odoUpd f).acq = L.acq := rfl
@[simp] theorem Lane.odoUpd_dma (L : Lane) (f : Odo → Odo) : (L.odoUpd f).dma = L.dma := rfl
@[simp] theorem Lane.odoUpd_dmaTurn (L : Lane) (f : Odo → Odo) : (L.odoUpd f).dmaTurn = L.dmaTurn := rfl
@[simp] theorem Lane.odoUpd_byw (L : Lane) (f : Odo → Odo) : (L.odoUpd f).byw = L.byw := rfl
@[simp] theorem Lane.odoUpd_pins (L : Lane) (f : Odo → Odo) : (L.odoUpd f).pins = L.pins := rfl
@[simp] theorem Lane.odoUpd_rises (L : Lane) (f : Odo → Odo) : (L.odoUpd f).rises = L.rises := rfl
@[simp] theorem Lane.odoUpd_falls (L : Lane) (f : Odo → Odo) : (L.odoUpd f).falls = L.falls := rfl
@[simp] theorem Lane.odoUpd_twi (L : Lane) (f : Odo → Odo) : (L.odoUpd f).twi = L.twi := rfl
@[simp] theorem Lane.odoUpd_store (L : Lane) (f : Odo → Odo) : (L.odoUpd f).store = L.store := rfl
@[simp] theorem Lane.odoUpd_mon (L : Lane) (f : Odo → Odo) : (L.odoUpd f).mon = L.mon := rfl
@[simp] theorem Lane.odoUpd_power (L : Lane) (f : Odo → Odo) : (L.odoUpd f).power = L.power := rfl
@[simp] theorem Lane.odoUpd_bistDone (L : Lane) (f : Odo → Odo) : (L.odoUpd f).bistDone = L.bistDone := rfl
@[simp] theorem Lane.odoUpd_bistAt (L : Lane) (f : Odo → Odo) : (L.odoUpd f).bistAt = L.bistAt := rfl
@[simp] theorem Lane.odoUpd_fltQ (L : Lane) (f : Odo → Odo) : (L.odoUpd f).fltQ = L.fltQ := rfl
@[simp] theorem Lane.odoUpd_fltHeld (L : Lane) (f : Odo → Odo) : (L.odoUpd f).fltHeld = L.fltHeld := rfl

/-! ### Lane.schedUpd -/

@[simp] theorem Lane.schedUpd_run (L : Lane) (f : Sched → Sched) : (L.schedUpd f).run = L.run := rfl
@[simp] theorem Lane.schedUpd_time (L : Lane) (f : Sched → Sched) : (L.schedUpd f).time = L.time := rfl
@[simp] theorem Lane.schedUpd_regs (L : Lane) (f : Sched → Sched) : (L.schedUpd f).regs = L.regs := rfl
@[simp] theorem Lane.schedUpd_locked (L : Lane) (f : Sched → Sched) : (L.schedUpd f).locked = L.locked := rfl
@[simp] theorem Lane.schedUpd_fresh (L : Lane) (f : Sched → Sched) : (L.schedUpd f).fresh = L.fresh := rfl
@[simp] theorem Lane.schedUpd_odo (L : Lane) (f : Sched → Sched) : (L.schedUpd f).odo = L.odo := rfl
@[simp] theorem Lane.schedUpd_sched (L : Lane) (f : Sched → Sched) : (L.schedUpd f).sched = f L.sched := rfl
@[simp] theorem Lane.schedUpd_mem (L : Lane) (f : Sched → Sched) : (L.schedUpd f).mem = L.mem := rfl
@[simp] theorem Lane.schedUpd_ready (L : Lane) (f : Sched → Sched) : (L.schedUpd f).ready = L.ready := rfl
@[simp] theorem Lane.schedUpd_silenced (L : Lane) (f : Sched → Sched) : (L.schedUpd f).silenced = L.silenced := rfl
@[simp] theorem Lane.schedUpd_standby (L : Lane) (f : Sched → Sched) : (L.schedUpd f).standby = L.standby := rfl
@[simp] theorem Lane.schedUpd_triples (L : Lane) (f : Sched → Sched) : (L.schedUpd f).triples = L.triples := rfl
@[simp] theorem Lane.schedUpd_tripleBad (L : Lane) (f : Sched → Sched) : (L.schedUpd f).tripleBad = L.tripleBad := rfl
@[simp] theorem Lane.schedUpd_safeW (L : Lane) (f : Sched → Sched) : (L.schedUpd f).safeW = L.safeW := rfl
@[simp] theorem Lane.schedUpd_trim (L : Lane) (f : Sched → Sched) : (L.schedUpd f).trim = L.trim := rfl
@[simp] theorem Lane.schedUpd_sdTrim (L : Lane) (f : Sched → Sched) : (L.schedUpd f).sdTrim = L.sdTrim := rfl
@[simp] theorem Lane.schedUpd_reported (L : Lane) (f : Sched → Sched) : (L.schedUpd f).reported = L.reported := rfl
@[simp] theorem Lane.schedUpd_xwk (L : Lane) (f : Sched → Sched) : (L.schedUpd f).xwk = L.xwk := rfl
@[simp] theorem Lane.schedUpd_cuts (L : Lane) (f : Sched → Sched) : (L.schedUpd f).cuts = L.cuts := rfl
@[simp] theorem Lane.schedUpd_cutWait (L : Lane) (f : Sched → Sched) : (L.schedUpd f).cutWait = L.cutWait := rfl
@[simp] theorem Lane.schedUpd_estOld (L : Lane) (f : Sched → Sched) : (L.schedUpd f).estOld = L.estOld := rfl
@[simp] theorem Lane.schedUpd_imemOld (L : Lane) (f : Sched → Sched) : (L.schedUpd f).imemOld = L.imemOld := rfl
@[simp] theorem Lane.schedUpd_pinOwn (L : Lane) (f : Sched → Sched) : (L.schedUpd f).pinOwn = L.pinOwn := rfl
@[simp] theorem Lane.schedUpd_flagWas (L : Lane) (f : Sched → Sched) : (L.schedUpd f).flagWas = L.flagWas := rfl
@[simp] theorem Lane.schedUpd_landingQ (L : Lane) (f : Sched → Sched) : (L.schedUpd f).landingQ = L.landingQ := rfl
@[simp] theorem Lane.schedUpd_chargeQ (L : Lane) (f : Sched → Sched) : (L.schedUpd f).chargeQ = L.chargeQ := rfl
@[simp] theorem Lane.schedUpd_viewAt (L : Lane) (f : Sched → Sched) : (L.schedUpd f).viewAt = L.viewAt := rfl
@[simp] theorem Lane.schedUpd_dieWrites (L : Lane) (f : Sched → Sched) : (L.schedUpd f).dieWrites = L.dieWrites := rfl
@[simp] theorem Lane.schedUpd_pdQ (L : Lane) (f : Sched → Sched) : (L.schedUpd f).pdQ = L.pdQ := rfl
@[simp] theorem Lane.schedUpd_railSent (L : Lane) (f : Sched → Sched) : (L.schedUpd f).railSent = L.railSent := rfl
@[simp] theorem Lane.schedUpd_icu (L : Lane) (f : Sched → Sched) : (L.schedUpd f).icu = L.icu := rfl
@[simp] theorem Lane.schedUpd_acq (L : Lane) (f : Sched → Sched) : (L.schedUpd f).acq = L.acq := rfl
@[simp] theorem Lane.schedUpd_dma (L : Lane) (f : Sched → Sched) : (L.schedUpd f).dma = L.dma := rfl
@[simp] theorem Lane.schedUpd_dmaTurn (L : Lane) (f : Sched → Sched) : (L.schedUpd f).dmaTurn = L.dmaTurn := rfl
@[simp] theorem Lane.schedUpd_byw (L : Lane) (f : Sched → Sched) : (L.schedUpd f).byw = L.byw := rfl
@[simp] theorem Lane.schedUpd_pins (L : Lane) (f : Sched → Sched) : (L.schedUpd f).pins = L.pins := rfl
@[simp] theorem Lane.schedUpd_rises (L : Lane) (f : Sched → Sched) : (L.schedUpd f).rises = L.rises := rfl
@[simp] theorem Lane.schedUpd_falls (L : Lane) (f : Sched → Sched) : (L.schedUpd f).falls = L.falls := rfl
@[simp] theorem Lane.schedUpd_twi (L : Lane) (f : Sched → Sched) : (L.schedUpd f).twi = L.twi := rfl
@[simp] theorem Lane.schedUpd_store (L : Lane) (f : Sched → Sched) : (L.schedUpd f).store = L.store := rfl
@[simp] theorem Lane.schedUpd_mon (L : Lane) (f : Sched → Sched) : (L.schedUpd f).mon = L.mon := rfl
@[simp] theorem Lane.schedUpd_power (L : Lane) (f : Sched → Sched) : (L.schedUpd f).power = L.power := rfl
@[simp] theorem Lane.schedUpd_bistDone (L : Lane) (f : Sched → Sched) : (L.schedUpd f).bistDone = L.bistDone := rfl
@[simp] theorem Lane.schedUpd_bistAt (L : Lane) (f : Sched → Sched) : (L.schedUpd f).bistAt = L.bistAt := rfl
@[simp] theorem Lane.schedUpd_fltQ (L : Lane) (f : Sched → Sched) : (L.schedUpd f).fltQ = L.fltQ := rfl
@[simp] theorem Lane.schedUpd_fltHeld (L : Lane) (f : Sched → Sched) : (L.schedUpd f).fltHeld = L.fltHeld := rfl

/-! ### Lane.icuUpd -/

@[simp] theorem Lane.icuUpd_run (L : Lane) (f : Icu → Icu) : (L.icuUpd f).run = L.run := rfl
@[simp] theorem Lane.icuUpd_time (L : Lane) (f : Icu → Icu) : (L.icuUpd f).time = L.time := rfl
@[simp] theorem Lane.icuUpd_regs (L : Lane) (f : Icu → Icu) : (L.icuUpd f).regs = L.regs := rfl
@[simp] theorem Lane.icuUpd_locked (L : Lane) (f : Icu → Icu) : (L.icuUpd f).locked = L.locked := rfl
@[simp] theorem Lane.icuUpd_fresh (L : Lane) (f : Icu → Icu) : (L.icuUpd f).fresh = L.fresh := rfl
@[simp] theorem Lane.icuUpd_odo (L : Lane) (f : Icu → Icu) : (L.icuUpd f).odo = L.odo := rfl
@[simp] theorem Lane.icuUpd_sched (L : Lane) (f : Icu → Icu) : (L.icuUpd f).sched = L.sched := rfl
@[simp] theorem Lane.icuUpd_mem (L : Lane) (f : Icu → Icu) : (L.icuUpd f).mem = L.mem := rfl
@[simp] theorem Lane.icuUpd_ready (L : Lane) (f : Icu → Icu) : (L.icuUpd f).ready = L.ready := rfl
@[simp] theorem Lane.icuUpd_silenced (L : Lane) (f : Icu → Icu) : (L.icuUpd f).silenced = L.silenced := rfl
@[simp] theorem Lane.icuUpd_standby (L : Lane) (f : Icu → Icu) : (L.icuUpd f).standby = L.standby := rfl
@[simp] theorem Lane.icuUpd_triples (L : Lane) (f : Icu → Icu) : (L.icuUpd f).triples = L.triples := rfl
@[simp] theorem Lane.icuUpd_tripleBad (L : Lane) (f : Icu → Icu) : (L.icuUpd f).tripleBad = L.tripleBad := rfl
@[simp] theorem Lane.icuUpd_safeW (L : Lane) (f : Icu → Icu) : (L.icuUpd f).safeW = L.safeW := rfl
@[simp] theorem Lane.icuUpd_trim (L : Lane) (f : Icu → Icu) : (L.icuUpd f).trim = L.trim := rfl
@[simp] theorem Lane.icuUpd_sdTrim (L : Lane) (f : Icu → Icu) : (L.icuUpd f).sdTrim = L.sdTrim := rfl
@[simp] theorem Lane.icuUpd_reported (L : Lane) (f : Icu → Icu) : (L.icuUpd f).reported = L.reported := rfl
@[simp] theorem Lane.icuUpd_xwk (L : Lane) (f : Icu → Icu) : (L.icuUpd f).xwk = L.xwk := rfl
@[simp] theorem Lane.icuUpd_cuts (L : Lane) (f : Icu → Icu) : (L.icuUpd f).cuts = L.cuts := rfl
@[simp] theorem Lane.icuUpd_cutWait (L : Lane) (f : Icu → Icu) : (L.icuUpd f).cutWait = L.cutWait := rfl
@[simp] theorem Lane.icuUpd_estOld (L : Lane) (f : Icu → Icu) : (L.icuUpd f).estOld = L.estOld := rfl
@[simp] theorem Lane.icuUpd_imemOld (L : Lane) (f : Icu → Icu) : (L.icuUpd f).imemOld = L.imemOld := rfl
@[simp] theorem Lane.icuUpd_pinOwn (L : Lane) (f : Icu → Icu) : (L.icuUpd f).pinOwn = L.pinOwn := rfl
@[simp] theorem Lane.icuUpd_flagWas (L : Lane) (f : Icu → Icu) : (L.icuUpd f).flagWas = L.flagWas := rfl
@[simp] theorem Lane.icuUpd_landingQ (L : Lane) (f : Icu → Icu) : (L.icuUpd f).landingQ = L.landingQ := rfl
@[simp] theorem Lane.icuUpd_chargeQ (L : Lane) (f : Icu → Icu) : (L.icuUpd f).chargeQ = L.chargeQ := rfl
@[simp] theorem Lane.icuUpd_viewAt (L : Lane) (f : Icu → Icu) : (L.icuUpd f).viewAt = L.viewAt := rfl
@[simp] theorem Lane.icuUpd_dieWrites (L : Lane) (f : Icu → Icu) : (L.icuUpd f).dieWrites = L.dieWrites := rfl
@[simp] theorem Lane.icuUpd_pdQ (L : Lane) (f : Icu → Icu) : (L.icuUpd f).pdQ = L.pdQ := rfl
@[simp] theorem Lane.icuUpd_railSent (L : Lane) (f : Icu → Icu) : (L.icuUpd f).railSent = L.railSent := rfl
@[simp] theorem Lane.icuUpd_icu (L : Lane) (f : Icu → Icu) : (L.icuUpd f).icu = f L.icu := rfl
@[simp] theorem Lane.icuUpd_acq (L : Lane) (f : Icu → Icu) : (L.icuUpd f).acq = L.acq := rfl
@[simp] theorem Lane.icuUpd_dma (L : Lane) (f : Icu → Icu) : (L.icuUpd f).dma = L.dma := rfl
@[simp] theorem Lane.icuUpd_dmaTurn (L : Lane) (f : Icu → Icu) : (L.icuUpd f).dmaTurn = L.dmaTurn := rfl
@[simp] theorem Lane.icuUpd_byw (L : Lane) (f : Icu → Icu) : (L.icuUpd f).byw = L.byw := rfl
@[simp] theorem Lane.icuUpd_pins (L : Lane) (f : Icu → Icu) : (L.icuUpd f).pins = L.pins := rfl
@[simp] theorem Lane.icuUpd_rises (L : Lane) (f : Icu → Icu) : (L.icuUpd f).rises = L.rises := rfl
@[simp] theorem Lane.icuUpd_falls (L : Lane) (f : Icu → Icu) : (L.icuUpd f).falls = L.falls := rfl
@[simp] theorem Lane.icuUpd_twi (L : Lane) (f : Icu → Icu) : (L.icuUpd f).twi = L.twi := rfl
@[simp] theorem Lane.icuUpd_store (L : Lane) (f : Icu → Icu) : (L.icuUpd f).store = L.store := rfl
@[simp] theorem Lane.icuUpd_mon (L : Lane) (f : Icu → Icu) : (L.icuUpd f).mon = L.mon := rfl
@[simp] theorem Lane.icuUpd_power (L : Lane) (f : Icu → Icu) : (L.icuUpd f).power = L.power := rfl
@[simp] theorem Lane.icuUpd_bistDone (L : Lane) (f : Icu → Icu) : (L.icuUpd f).bistDone = L.bistDone := rfl
@[simp] theorem Lane.icuUpd_bistAt (L : Lane) (f : Icu → Icu) : (L.icuUpd f).bistAt = L.bistAt := rfl
@[simp] theorem Lane.icuUpd_fltQ (L : Lane) (f : Icu → Icu) : (L.icuUpd f).fltQ = L.fltQ := rfl
@[simp] theorem Lane.icuUpd_fltHeld (L : Lane) (f : Icu → Icu) : (L.icuUpd f).fltHeld = L.fltHeld := rfl

/-! ### Lane.acqUpd -/

@[simp] theorem Lane.acqUpd_run (L : Lane) (f : Acq → Acq) : (L.acqUpd f).run = L.run := rfl
@[simp] theorem Lane.acqUpd_time (L : Lane) (f : Acq → Acq) : (L.acqUpd f).time = L.time := rfl
@[simp] theorem Lane.acqUpd_regs (L : Lane) (f : Acq → Acq) : (L.acqUpd f).regs = L.regs := rfl
@[simp] theorem Lane.acqUpd_locked (L : Lane) (f : Acq → Acq) : (L.acqUpd f).locked = L.locked := rfl
@[simp] theorem Lane.acqUpd_fresh (L : Lane) (f : Acq → Acq) : (L.acqUpd f).fresh = L.fresh := rfl
@[simp] theorem Lane.acqUpd_odo (L : Lane) (f : Acq → Acq) : (L.acqUpd f).odo = L.odo := rfl
@[simp] theorem Lane.acqUpd_sched (L : Lane) (f : Acq → Acq) : (L.acqUpd f).sched = L.sched := rfl
@[simp] theorem Lane.acqUpd_mem (L : Lane) (f : Acq → Acq) : (L.acqUpd f).mem = L.mem := rfl
@[simp] theorem Lane.acqUpd_ready (L : Lane) (f : Acq → Acq) : (L.acqUpd f).ready = L.ready := rfl
@[simp] theorem Lane.acqUpd_silenced (L : Lane) (f : Acq → Acq) : (L.acqUpd f).silenced = L.silenced := rfl
@[simp] theorem Lane.acqUpd_standby (L : Lane) (f : Acq → Acq) : (L.acqUpd f).standby = L.standby := rfl
@[simp] theorem Lane.acqUpd_triples (L : Lane) (f : Acq → Acq) : (L.acqUpd f).triples = L.triples := rfl
@[simp] theorem Lane.acqUpd_tripleBad (L : Lane) (f : Acq → Acq) : (L.acqUpd f).tripleBad = L.tripleBad := rfl
@[simp] theorem Lane.acqUpd_safeW (L : Lane) (f : Acq → Acq) : (L.acqUpd f).safeW = L.safeW := rfl
@[simp] theorem Lane.acqUpd_trim (L : Lane) (f : Acq → Acq) : (L.acqUpd f).trim = L.trim := rfl
@[simp] theorem Lane.acqUpd_sdTrim (L : Lane) (f : Acq → Acq) : (L.acqUpd f).sdTrim = L.sdTrim := rfl
@[simp] theorem Lane.acqUpd_reported (L : Lane) (f : Acq → Acq) : (L.acqUpd f).reported = L.reported := rfl
@[simp] theorem Lane.acqUpd_xwk (L : Lane) (f : Acq → Acq) : (L.acqUpd f).xwk = L.xwk := rfl
@[simp] theorem Lane.acqUpd_cuts (L : Lane) (f : Acq → Acq) : (L.acqUpd f).cuts = L.cuts := rfl
@[simp] theorem Lane.acqUpd_cutWait (L : Lane) (f : Acq → Acq) : (L.acqUpd f).cutWait = L.cutWait := rfl
@[simp] theorem Lane.acqUpd_estOld (L : Lane) (f : Acq → Acq) : (L.acqUpd f).estOld = L.estOld := rfl
@[simp] theorem Lane.acqUpd_imemOld (L : Lane) (f : Acq → Acq) : (L.acqUpd f).imemOld = L.imemOld := rfl
@[simp] theorem Lane.acqUpd_pinOwn (L : Lane) (f : Acq → Acq) : (L.acqUpd f).pinOwn = L.pinOwn := rfl
@[simp] theorem Lane.acqUpd_flagWas (L : Lane) (f : Acq → Acq) : (L.acqUpd f).flagWas = L.flagWas := rfl
@[simp] theorem Lane.acqUpd_landingQ (L : Lane) (f : Acq → Acq) : (L.acqUpd f).landingQ = L.landingQ := rfl
@[simp] theorem Lane.acqUpd_chargeQ (L : Lane) (f : Acq → Acq) : (L.acqUpd f).chargeQ = L.chargeQ := rfl
@[simp] theorem Lane.acqUpd_viewAt (L : Lane) (f : Acq → Acq) : (L.acqUpd f).viewAt = L.viewAt := rfl
@[simp] theorem Lane.acqUpd_dieWrites (L : Lane) (f : Acq → Acq) : (L.acqUpd f).dieWrites = L.dieWrites := rfl
@[simp] theorem Lane.acqUpd_pdQ (L : Lane) (f : Acq → Acq) : (L.acqUpd f).pdQ = L.pdQ := rfl
@[simp] theorem Lane.acqUpd_railSent (L : Lane) (f : Acq → Acq) : (L.acqUpd f).railSent = L.railSent := rfl
@[simp] theorem Lane.acqUpd_icu (L : Lane) (f : Acq → Acq) : (L.acqUpd f).icu = L.icu := rfl
@[simp] theorem Lane.acqUpd_acq (L : Lane) (f : Acq → Acq) : (L.acqUpd f).acq = f L.acq := rfl
@[simp] theorem Lane.acqUpd_dma (L : Lane) (f : Acq → Acq) : (L.acqUpd f).dma = L.dma := rfl
@[simp] theorem Lane.acqUpd_dmaTurn (L : Lane) (f : Acq → Acq) : (L.acqUpd f).dmaTurn = L.dmaTurn := rfl
@[simp] theorem Lane.acqUpd_byw (L : Lane) (f : Acq → Acq) : (L.acqUpd f).byw = L.byw := rfl
@[simp] theorem Lane.acqUpd_pins (L : Lane) (f : Acq → Acq) : (L.acqUpd f).pins = L.pins := rfl
@[simp] theorem Lane.acqUpd_rises (L : Lane) (f : Acq → Acq) : (L.acqUpd f).rises = L.rises := rfl
@[simp] theorem Lane.acqUpd_falls (L : Lane) (f : Acq → Acq) : (L.acqUpd f).falls = L.falls := rfl
@[simp] theorem Lane.acqUpd_twi (L : Lane) (f : Acq → Acq) : (L.acqUpd f).twi = L.twi := rfl
@[simp] theorem Lane.acqUpd_store (L : Lane) (f : Acq → Acq) : (L.acqUpd f).store = L.store := rfl
@[simp] theorem Lane.acqUpd_mon (L : Lane) (f : Acq → Acq) : (L.acqUpd f).mon = L.mon := rfl
@[simp] theorem Lane.acqUpd_power (L : Lane) (f : Acq → Acq) : (L.acqUpd f).power = L.power := rfl
@[simp] theorem Lane.acqUpd_bistDone (L : Lane) (f : Acq → Acq) : (L.acqUpd f).bistDone = L.bistDone := rfl
@[simp] theorem Lane.acqUpd_bistAt (L : Lane) (f : Acq → Acq) : (L.acqUpd f).bistAt = L.bistAt := rfl
@[simp] theorem Lane.acqUpd_fltQ (L : Lane) (f : Acq → Acq) : (L.acqUpd f).fltQ = L.fltQ := rfl
@[simp] theorem Lane.acqUpd_fltHeld (L : Lane) (f : Acq → Acq) : (L.acqUpd f).fltHeld = L.fltHeld := rfl

/-! ### Lane.twiUpd -/

@[simp] theorem Lane.twiUpd_run (L : Lane) (f : Twi → Twi) : (L.twiUpd f).run = L.run := rfl
@[simp] theorem Lane.twiUpd_time (L : Lane) (f : Twi → Twi) : (L.twiUpd f).time = L.time := rfl
@[simp] theorem Lane.twiUpd_regs (L : Lane) (f : Twi → Twi) : (L.twiUpd f).regs = L.regs := rfl
@[simp] theorem Lane.twiUpd_locked (L : Lane) (f : Twi → Twi) : (L.twiUpd f).locked = L.locked := rfl
@[simp] theorem Lane.twiUpd_fresh (L : Lane) (f : Twi → Twi) : (L.twiUpd f).fresh = L.fresh := rfl
@[simp] theorem Lane.twiUpd_odo (L : Lane) (f : Twi → Twi) : (L.twiUpd f).odo = L.odo := rfl
@[simp] theorem Lane.twiUpd_sched (L : Lane) (f : Twi → Twi) : (L.twiUpd f).sched = L.sched := rfl
@[simp] theorem Lane.twiUpd_mem (L : Lane) (f : Twi → Twi) : (L.twiUpd f).mem = L.mem := rfl
@[simp] theorem Lane.twiUpd_ready (L : Lane) (f : Twi → Twi) : (L.twiUpd f).ready = L.ready := rfl
@[simp] theorem Lane.twiUpd_silenced (L : Lane) (f : Twi → Twi) : (L.twiUpd f).silenced = L.silenced := rfl
@[simp] theorem Lane.twiUpd_standby (L : Lane) (f : Twi → Twi) : (L.twiUpd f).standby = L.standby := rfl
@[simp] theorem Lane.twiUpd_triples (L : Lane) (f : Twi → Twi) : (L.twiUpd f).triples = L.triples := rfl
@[simp] theorem Lane.twiUpd_tripleBad (L : Lane) (f : Twi → Twi) : (L.twiUpd f).tripleBad = L.tripleBad := rfl
@[simp] theorem Lane.twiUpd_safeW (L : Lane) (f : Twi → Twi) : (L.twiUpd f).safeW = L.safeW := rfl
@[simp] theorem Lane.twiUpd_trim (L : Lane) (f : Twi → Twi) : (L.twiUpd f).trim = L.trim := rfl
@[simp] theorem Lane.twiUpd_sdTrim (L : Lane) (f : Twi → Twi) : (L.twiUpd f).sdTrim = L.sdTrim := rfl
@[simp] theorem Lane.twiUpd_reported (L : Lane) (f : Twi → Twi) : (L.twiUpd f).reported = L.reported := rfl
@[simp] theorem Lane.twiUpd_xwk (L : Lane) (f : Twi → Twi) : (L.twiUpd f).xwk = L.xwk := rfl
@[simp] theorem Lane.twiUpd_cuts (L : Lane) (f : Twi → Twi) : (L.twiUpd f).cuts = L.cuts := rfl
@[simp] theorem Lane.twiUpd_cutWait (L : Lane) (f : Twi → Twi) : (L.twiUpd f).cutWait = L.cutWait := rfl
@[simp] theorem Lane.twiUpd_estOld (L : Lane) (f : Twi → Twi) : (L.twiUpd f).estOld = L.estOld := rfl
@[simp] theorem Lane.twiUpd_imemOld (L : Lane) (f : Twi → Twi) : (L.twiUpd f).imemOld = L.imemOld := rfl
@[simp] theorem Lane.twiUpd_pinOwn (L : Lane) (f : Twi → Twi) : (L.twiUpd f).pinOwn = L.pinOwn := rfl
@[simp] theorem Lane.twiUpd_flagWas (L : Lane) (f : Twi → Twi) : (L.twiUpd f).flagWas = L.flagWas := rfl
@[simp] theorem Lane.twiUpd_landingQ (L : Lane) (f : Twi → Twi) : (L.twiUpd f).landingQ = L.landingQ := rfl
@[simp] theorem Lane.twiUpd_chargeQ (L : Lane) (f : Twi → Twi) : (L.twiUpd f).chargeQ = L.chargeQ := rfl
@[simp] theorem Lane.twiUpd_viewAt (L : Lane) (f : Twi → Twi) : (L.twiUpd f).viewAt = L.viewAt := rfl
@[simp] theorem Lane.twiUpd_dieWrites (L : Lane) (f : Twi → Twi) : (L.twiUpd f).dieWrites = L.dieWrites := rfl
@[simp] theorem Lane.twiUpd_pdQ (L : Lane) (f : Twi → Twi) : (L.twiUpd f).pdQ = L.pdQ := rfl
@[simp] theorem Lane.twiUpd_railSent (L : Lane) (f : Twi → Twi) : (L.twiUpd f).railSent = L.railSent := rfl
@[simp] theorem Lane.twiUpd_icu (L : Lane) (f : Twi → Twi) : (L.twiUpd f).icu = L.icu := rfl
@[simp] theorem Lane.twiUpd_acq (L : Lane) (f : Twi → Twi) : (L.twiUpd f).acq = L.acq := rfl
@[simp] theorem Lane.twiUpd_dma (L : Lane) (f : Twi → Twi) : (L.twiUpd f).dma = L.dma := rfl
@[simp] theorem Lane.twiUpd_dmaTurn (L : Lane) (f : Twi → Twi) : (L.twiUpd f).dmaTurn = L.dmaTurn := rfl
@[simp] theorem Lane.twiUpd_byw (L : Lane) (f : Twi → Twi) : (L.twiUpd f).byw = L.byw := rfl
@[simp] theorem Lane.twiUpd_pins (L : Lane) (f : Twi → Twi) : (L.twiUpd f).pins = L.pins := rfl
@[simp] theorem Lane.twiUpd_rises (L : Lane) (f : Twi → Twi) : (L.twiUpd f).rises = L.rises := rfl
@[simp] theorem Lane.twiUpd_falls (L : Lane) (f : Twi → Twi) : (L.twiUpd f).falls = L.falls := rfl
@[simp] theorem Lane.twiUpd_twi (L : Lane) (f : Twi → Twi) : (L.twiUpd f).twi = f L.twi := rfl
@[simp] theorem Lane.twiUpd_store (L : Lane) (f : Twi → Twi) : (L.twiUpd f).store = L.store := rfl
@[simp] theorem Lane.twiUpd_mon (L : Lane) (f : Twi → Twi) : (L.twiUpd f).mon = L.mon := rfl
@[simp] theorem Lane.twiUpd_power (L : Lane) (f : Twi → Twi) : (L.twiUpd f).power = L.power := rfl
@[simp] theorem Lane.twiUpd_bistDone (L : Lane) (f : Twi → Twi) : (L.twiUpd f).bistDone = L.bistDone := rfl
@[simp] theorem Lane.twiUpd_bistAt (L : Lane) (f : Twi → Twi) : (L.twiUpd f).bistAt = L.bistAt := rfl
@[simp] theorem Lane.twiUpd_fltQ (L : Lane) (f : Twi → Twi) : (L.twiUpd f).fltQ = L.fltQ := rfl
@[simp] theorem Lane.twiUpd_fltHeld (L : Lane) (f : Twi → Twi) : (L.twiUpd f).fltHeld = L.fltHeld := rfl

/-! ### Lane.storeUpd -/

@[simp] theorem Lane.storeUpd_run (L : Lane) (f : Store → Store) : (L.storeUpd f).run = L.run := rfl
@[simp] theorem Lane.storeUpd_time (L : Lane) (f : Store → Store) : (L.storeUpd f).time = L.time := rfl
@[simp] theorem Lane.storeUpd_regs (L : Lane) (f : Store → Store) : (L.storeUpd f).regs = L.regs := rfl
@[simp] theorem Lane.storeUpd_locked (L : Lane) (f : Store → Store) : (L.storeUpd f).locked = L.locked := rfl
@[simp] theorem Lane.storeUpd_fresh (L : Lane) (f : Store → Store) : (L.storeUpd f).fresh = L.fresh := rfl
@[simp] theorem Lane.storeUpd_odo (L : Lane) (f : Store → Store) : (L.storeUpd f).odo = L.odo := rfl
@[simp] theorem Lane.storeUpd_sched (L : Lane) (f : Store → Store) : (L.storeUpd f).sched = L.sched := rfl
@[simp] theorem Lane.storeUpd_mem (L : Lane) (f : Store → Store) : (L.storeUpd f).mem = L.mem := rfl
@[simp] theorem Lane.storeUpd_ready (L : Lane) (f : Store → Store) : (L.storeUpd f).ready = L.ready := rfl
@[simp] theorem Lane.storeUpd_silenced (L : Lane) (f : Store → Store) : (L.storeUpd f).silenced = L.silenced := rfl
@[simp] theorem Lane.storeUpd_standby (L : Lane) (f : Store → Store) : (L.storeUpd f).standby = L.standby := rfl
@[simp] theorem Lane.storeUpd_triples (L : Lane) (f : Store → Store) : (L.storeUpd f).triples = L.triples := rfl
@[simp] theorem Lane.storeUpd_tripleBad (L : Lane) (f : Store → Store) : (L.storeUpd f).tripleBad = L.tripleBad := rfl
@[simp] theorem Lane.storeUpd_safeW (L : Lane) (f : Store → Store) : (L.storeUpd f).safeW = L.safeW := rfl
@[simp] theorem Lane.storeUpd_trim (L : Lane) (f : Store → Store) : (L.storeUpd f).trim = L.trim := rfl
@[simp] theorem Lane.storeUpd_sdTrim (L : Lane) (f : Store → Store) : (L.storeUpd f).sdTrim = L.sdTrim := rfl
@[simp] theorem Lane.storeUpd_reported (L : Lane) (f : Store → Store) : (L.storeUpd f).reported = L.reported := rfl
@[simp] theorem Lane.storeUpd_xwk (L : Lane) (f : Store → Store) : (L.storeUpd f).xwk = L.xwk := rfl
@[simp] theorem Lane.storeUpd_cuts (L : Lane) (f : Store → Store) : (L.storeUpd f).cuts = L.cuts := rfl
@[simp] theorem Lane.storeUpd_cutWait (L : Lane) (f : Store → Store) : (L.storeUpd f).cutWait = L.cutWait := rfl
@[simp] theorem Lane.storeUpd_estOld (L : Lane) (f : Store → Store) : (L.storeUpd f).estOld = L.estOld := rfl
@[simp] theorem Lane.storeUpd_imemOld (L : Lane) (f : Store → Store) : (L.storeUpd f).imemOld = L.imemOld := rfl
@[simp] theorem Lane.storeUpd_pinOwn (L : Lane) (f : Store → Store) : (L.storeUpd f).pinOwn = L.pinOwn := rfl
@[simp] theorem Lane.storeUpd_flagWas (L : Lane) (f : Store → Store) : (L.storeUpd f).flagWas = L.flagWas := rfl
@[simp] theorem Lane.storeUpd_landingQ (L : Lane) (f : Store → Store) : (L.storeUpd f).landingQ = L.landingQ := rfl
@[simp] theorem Lane.storeUpd_chargeQ (L : Lane) (f : Store → Store) : (L.storeUpd f).chargeQ = L.chargeQ := rfl
@[simp] theorem Lane.storeUpd_viewAt (L : Lane) (f : Store → Store) : (L.storeUpd f).viewAt = L.viewAt := rfl
@[simp] theorem Lane.storeUpd_dieWrites (L : Lane) (f : Store → Store) : (L.storeUpd f).dieWrites = L.dieWrites := rfl
@[simp] theorem Lane.storeUpd_pdQ (L : Lane) (f : Store → Store) : (L.storeUpd f).pdQ = L.pdQ := rfl
@[simp] theorem Lane.storeUpd_railSent (L : Lane) (f : Store → Store) : (L.storeUpd f).railSent = L.railSent := rfl
@[simp] theorem Lane.storeUpd_icu (L : Lane) (f : Store → Store) : (L.storeUpd f).icu = L.icu := rfl
@[simp] theorem Lane.storeUpd_acq (L : Lane) (f : Store → Store) : (L.storeUpd f).acq = L.acq := rfl
@[simp] theorem Lane.storeUpd_dma (L : Lane) (f : Store → Store) : (L.storeUpd f).dma = L.dma := rfl
@[simp] theorem Lane.storeUpd_dmaTurn (L : Lane) (f : Store → Store) : (L.storeUpd f).dmaTurn = L.dmaTurn := rfl
@[simp] theorem Lane.storeUpd_byw (L : Lane) (f : Store → Store) : (L.storeUpd f).byw = L.byw := rfl
@[simp] theorem Lane.storeUpd_pins (L : Lane) (f : Store → Store) : (L.storeUpd f).pins = L.pins := rfl
@[simp] theorem Lane.storeUpd_rises (L : Lane) (f : Store → Store) : (L.storeUpd f).rises = L.rises := rfl
@[simp] theorem Lane.storeUpd_falls (L : Lane) (f : Store → Store) : (L.storeUpd f).falls = L.falls := rfl
@[simp] theorem Lane.storeUpd_twi (L : Lane) (f : Store → Store) : (L.storeUpd f).twi = L.twi := rfl
@[simp] theorem Lane.storeUpd_store (L : Lane) (f : Store → Store) : (L.storeUpd f).store = f L.store := rfl
@[simp] theorem Lane.storeUpd_mon (L : Lane) (f : Store → Store) : (L.storeUpd f).mon = L.mon := rfl
@[simp] theorem Lane.storeUpd_power (L : Lane) (f : Store → Store) : (L.storeUpd f).power = L.power := rfl
@[simp] theorem Lane.storeUpd_bistDone (L : Lane) (f : Store → Store) : (L.storeUpd f).bistDone = L.bistDone := rfl
@[simp] theorem Lane.storeUpd_bistAt (L : Lane) (f : Store → Store) : (L.storeUpd f).bistAt = L.bistAt := rfl
@[simp] theorem Lane.storeUpd_fltQ (L : Lane) (f : Store → Store) : (L.storeUpd f).fltQ = L.fltQ := rfl
@[simp] theorem Lane.storeUpd_fltHeld (L : Lane) (f : Store → Store) : (L.storeUpd f).fltHeld = L.fltHeld := rfl

/-! ### Lane.monUpd -/

@[simp] theorem Lane.monUpd_run (L : Lane) (f : Mon → Mon) : (L.monUpd f).run = L.run := rfl
@[simp] theorem Lane.monUpd_time (L : Lane) (f : Mon → Mon) : (L.monUpd f).time = L.time := rfl
@[simp] theorem Lane.monUpd_regs (L : Lane) (f : Mon → Mon) : (L.monUpd f).regs = L.regs := rfl
@[simp] theorem Lane.monUpd_locked (L : Lane) (f : Mon → Mon) : (L.monUpd f).locked = L.locked := rfl
@[simp] theorem Lane.monUpd_fresh (L : Lane) (f : Mon → Mon) : (L.monUpd f).fresh = L.fresh := rfl
@[simp] theorem Lane.monUpd_odo (L : Lane) (f : Mon → Mon) : (L.monUpd f).odo = L.odo := rfl
@[simp] theorem Lane.monUpd_sched (L : Lane) (f : Mon → Mon) : (L.monUpd f).sched = L.sched := rfl
@[simp] theorem Lane.monUpd_mem (L : Lane) (f : Mon → Mon) : (L.monUpd f).mem = L.mem := rfl
@[simp] theorem Lane.monUpd_ready (L : Lane) (f : Mon → Mon) : (L.monUpd f).ready = L.ready := rfl
@[simp] theorem Lane.monUpd_silenced (L : Lane) (f : Mon → Mon) : (L.monUpd f).silenced = L.silenced := rfl
@[simp] theorem Lane.monUpd_standby (L : Lane) (f : Mon → Mon) : (L.monUpd f).standby = L.standby := rfl
@[simp] theorem Lane.monUpd_triples (L : Lane) (f : Mon → Mon) : (L.monUpd f).triples = L.triples := rfl
@[simp] theorem Lane.monUpd_tripleBad (L : Lane) (f : Mon → Mon) : (L.monUpd f).tripleBad = L.tripleBad := rfl
@[simp] theorem Lane.monUpd_safeW (L : Lane) (f : Mon → Mon) : (L.monUpd f).safeW = L.safeW := rfl
@[simp] theorem Lane.monUpd_trim (L : Lane) (f : Mon → Mon) : (L.monUpd f).trim = L.trim := rfl
@[simp] theorem Lane.monUpd_sdTrim (L : Lane) (f : Mon → Mon) : (L.monUpd f).sdTrim = L.sdTrim := rfl
@[simp] theorem Lane.monUpd_reported (L : Lane) (f : Mon → Mon) : (L.monUpd f).reported = L.reported := rfl
@[simp] theorem Lane.monUpd_xwk (L : Lane) (f : Mon → Mon) : (L.monUpd f).xwk = L.xwk := rfl
@[simp] theorem Lane.monUpd_cuts (L : Lane) (f : Mon → Mon) : (L.monUpd f).cuts = L.cuts := rfl
@[simp] theorem Lane.monUpd_cutWait (L : Lane) (f : Mon → Mon) : (L.monUpd f).cutWait = L.cutWait := rfl
@[simp] theorem Lane.monUpd_estOld (L : Lane) (f : Mon → Mon) : (L.monUpd f).estOld = L.estOld := rfl
@[simp] theorem Lane.monUpd_imemOld (L : Lane) (f : Mon → Mon) : (L.monUpd f).imemOld = L.imemOld := rfl
@[simp] theorem Lane.monUpd_pinOwn (L : Lane) (f : Mon → Mon) : (L.monUpd f).pinOwn = L.pinOwn := rfl
@[simp] theorem Lane.monUpd_flagWas (L : Lane) (f : Mon → Mon) : (L.monUpd f).flagWas = L.flagWas := rfl
@[simp] theorem Lane.monUpd_landingQ (L : Lane) (f : Mon → Mon) : (L.monUpd f).landingQ = L.landingQ := rfl
@[simp] theorem Lane.monUpd_chargeQ (L : Lane) (f : Mon → Mon) : (L.monUpd f).chargeQ = L.chargeQ := rfl
@[simp] theorem Lane.monUpd_viewAt (L : Lane) (f : Mon → Mon) : (L.monUpd f).viewAt = L.viewAt := rfl
@[simp] theorem Lane.monUpd_dieWrites (L : Lane) (f : Mon → Mon) : (L.monUpd f).dieWrites = L.dieWrites := rfl
@[simp] theorem Lane.monUpd_pdQ (L : Lane) (f : Mon → Mon) : (L.monUpd f).pdQ = L.pdQ := rfl
@[simp] theorem Lane.monUpd_railSent (L : Lane) (f : Mon → Mon) : (L.monUpd f).railSent = L.railSent := rfl
@[simp] theorem Lane.monUpd_icu (L : Lane) (f : Mon → Mon) : (L.monUpd f).icu = L.icu := rfl
@[simp] theorem Lane.monUpd_acq (L : Lane) (f : Mon → Mon) : (L.monUpd f).acq = L.acq := rfl
@[simp] theorem Lane.monUpd_dma (L : Lane) (f : Mon → Mon) : (L.monUpd f).dma = L.dma := rfl
@[simp] theorem Lane.monUpd_dmaTurn (L : Lane) (f : Mon → Mon) : (L.monUpd f).dmaTurn = L.dmaTurn := rfl
@[simp] theorem Lane.monUpd_byw (L : Lane) (f : Mon → Mon) : (L.monUpd f).byw = L.byw := rfl
@[simp] theorem Lane.monUpd_pins (L : Lane) (f : Mon → Mon) : (L.monUpd f).pins = L.pins := rfl
@[simp] theorem Lane.monUpd_rises (L : Lane) (f : Mon → Mon) : (L.monUpd f).rises = L.rises := rfl
@[simp] theorem Lane.monUpd_falls (L : Lane) (f : Mon → Mon) : (L.monUpd f).falls = L.falls := rfl
@[simp] theorem Lane.monUpd_twi (L : Lane) (f : Mon → Mon) : (L.monUpd f).twi = L.twi := rfl
@[simp] theorem Lane.monUpd_store (L : Lane) (f : Mon → Mon) : (L.monUpd f).store = L.store := rfl
@[simp] theorem Lane.monUpd_mon (L : Lane) (f : Mon → Mon) : (L.monUpd f).mon = f L.mon := rfl
@[simp] theorem Lane.monUpd_power (L : Lane) (f : Mon → Mon) : (L.monUpd f).power = L.power := rfl
@[simp] theorem Lane.monUpd_bistDone (L : Lane) (f : Mon → Mon) : (L.monUpd f).bistDone = L.bistDone := rfl
@[simp] theorem Lane.monUpd_bistAt (L : Lane) (f : Mon → Mon) : (L.monUpd f).bistAt = L.bistAt := rfl
@[simp] theorem Lane.monUpd_fltQ (L : Lane) (f : Mon → Mon) : (L.monUpd f).fltQ = L.fltQ := rfl
@[simp] theorem Lane.monUpd_fltHeld (L : Lane) (f : Mon → Mon) : (L.monUpd f).fltHeld = L.fltHeld := rfl

/-! ### Lane.pwrUpd -/

@[simp] theorem Lane.pwrUpd_run (L : Lane) (f : Power → Power) : (L.pwrUpd f).run = L.run := rfl
@[simp] theorem Lane.pwrUpd_time (L : Lane) (f : Power → Power) : (L.pwrUpd f).time = L.time := rfl
@[simp] theorem Lane.pwrUpd_regs (L : Lane) (f : Power → Power) : (L.pwrUpd f).regs = L.regs := rfl
@[simp] theorem Lane.pwrUpd_locked (L : Lane) (f : Power → Power) : (L.pwrUpd f).locked = L.locked := rfl
@[simp] theorem Lane.pwrUpd_fresh (L : Lane) (f : Power → Power) : (L.pwrUpd f).fresh = L.fresh := rfl
@[simp] theorem Lane.pwrUpd_odo (L : Lane) (f : Power → Power) : (L.pwrUpd f).odo = L.odo := rfl
@[simp] theorem Lane.pwrUpd_sched (L : Lane) (f : Power → Power) : (L.pwrUpd f).sched = L.sched := rfl
@[simp] theorem Lane.pwrUpd_mem (L : Lane) (f : Power → Power) : (L.pwrUpd f).mem = L.mem := rfl
@[simp] theorem Lane.pwrUpd_ready (L : Lane) (f : Power → Power) : (L.pwrUpd f).ready = L.ready := rfl
@[simp] theorem Lane.pwrUpd_silenced (L : Lane) (f : Power → Power) : (L.pwrUpd f).silenced = L.silenced := rfl
@[simp] theorem Lane.pwrUpd_standby (L : Lane) (f : Power → Power) : (L.pwrUpd f).standby = L.standby := rfl
@[simp] theorem Lane.pwrUpd_triples (L : Lane) (f : Power → Power) : (L.pwrUpd f).triples = L.triples := rfl
@[simp] theorem Lane.pwrUpd_tripleBad (L : Lane) (f : Power → Power) : (L.pwrUpd f).tripleBad = L.tripleBad := rfl
@[simp] theorem Lane.pwrUpd_safeW (L : Lane) (f : Power → Power) : (L.pwrUpd f).safeW = L.safeW := rfl
@[simp] theorem Lane.pwrUpd_trim (L : Lane) (f : Power → Power) : (L.pwrUpd f).trim = L.trim := rfl
@[simp] theorem Lane.pwrUpd_sdTrim (L : Lane) (f : Power → Power) : (L.pwrUpd f).sdTrim = L.sdTrim := rfl
@[simp] theorem Lane.pwrUpd_reported (L : Lane) (f : Power → Power) : (L.pwrUpd f).reported = L.reported := rfl
@[simp] theorem Lane.pwrUpd_xwk (L : Lane) (f : Power → Power) : (L.pwrUpd f).xwk = L.xwk := rfl
@[simp] theorem Lane.pwrUpd_cuts (L : Lane) (f : Power → Power) : (L.pwrUpd f).cuts = L.cuts := rfl
@[simp] theorem Lane.pwrUpd_cutWait (L : Lane) (f : Power → Power) : (L.pwrUpd f).cutWait = L.cutWait := rfl
@[simp] theorem Lane.pwrUpd_estOld (L : Lane) (f : Power → Power) : (L.pwrUpd f).estOld = L.estOld := rfl
@[simp] theorem Lane.pwrUpd_imemOld (L : Lane) (f : Power → Power) : (L.pwrUpd f).imemOld = L.imemOld := rfl
@[simp] theorem Lane.pwrUpd_pinOwn (L : Lane) (f : Power → Power) : (L.pwrUpd f).pinOwn = L.pinOwn := rfl
@[simp] theorem Lane.pwrUpd_flagWas (L : Lane) (f : Power → Power) : (L.pwrUpd f).flagWas = L.flagWas := rfl
@[simp] theorem Lane.pwrUpd_landingQ (L : Lane) (f : Power → Power) : (L.pwrUpd f).landingQ = L.landingQ := rfl
@[simp] theorem Lane.pwrUpd_chargeQ (L : Lane) (f : Power → Power) : (L.pwrUpd f).chargeQ = L.chargeQ := rfl
@[simp] theorem Lane.pwrUpd_viewAt (L : Lane) (f : Power → Power) : (L.pwrUpd f).viewAt = L.viewAt := rfl
@[simp] theorem Lane.pwrUpd_dieWrites (L : Lane) (f : Power → Power) : (L.pwrUpd f).dieWrites = L.dieWrites := rfl
@[simp] theorem Lane.pwrUpd_pdQ (L : Lane) (f : Power → Power) : (L.pwrUpd f).pdQ = L.pdQ := rfl
@[simp] theorem Lane.pwrUpd_railSent (L : Lane) (f : Power → Power) : (L.pwrUpd f).railSent = L.railSent := rfl
@[simp] theorem Lane.pwrUpd_icu (L : Lane) (f : Power → Power) : (L.pwrUpd f).icu = L.icu := rfl
@[simp] theorem Lane.pwrUpd_acq (L : Lane) (f : Power → Power) : (L.pwrUpd f).acq = L.acq := rfl
@[simp] theorem Lane.pwrUpd_dma (L : Lane) (f : Power → Power) : (L.pwrUpd f).dma = L.dma := rfl
@[simp] theorem Lane.pwrUpd_dmaTurn (L : Lane) (f : Power → Power) : (L.pwrUpd f).dmaTurn = L.dmaTurn := rfl
@[simp] theorem Lane.pwrUpd_byw (L : Lane) (f : Power → Power) : (L.pwrUpd f).byw = L.byw := rfl
@[simp] theorem Lane.pwrUpd_pins (L : Lane) (f : Power → Power) : (L.pwrUpd f).pins = L.pins := rfl
@[simp] theorem Lane.pwrUpd_rises (L : Lane) (f : Power → Power) : (L.pwrUpd f).rises = L.rises := rfl
@[simp] theorem Lane.pwrUpd_falls (L : Lane) (f : Power → Power) : (L.pwrUpd f).falls = L.falls := rfl
@[simp] theorem Lane.pwrUpd_twi (L : Lane) (f : Power → Power) : (L.pwrUpd f).twi = L.twi := rfl
@[simp] theorem Lane.pwrUpd_store (L : Lane) (f : Power → Power) : (L.pwrUpd f).store = L.store := rfl
@[simp] theorem Lane.pwrUpd_mon (L : Lane) (f : Power → Power) : (L.pwrUpd f).mon = L.mon := rfl
@[simp] theorem Lane.pwrUpd_power (L : Lane) (f : Power → Power) : (L.pwrUpd f).power = f L.power := rfl
@[simp] theorem Lane.pwrUpd_bistDone (L : Lane) (f : Power → Power) : (L.pwrUpd f).bistDone = L.bistDone := rfl
@[simp] theorem Lane.pwrUpd_bistAt (L : Lane) (f : Power → Power) : (L.pwrUpd f).bistAt = L.bistAt := rfl
@[simp] theorem Lane.pwrUpd_fltQ (L : Lane) (f : Power → Power) : (L.pwrUpd f).fltQ = L.fltQ := rfl
@[simp] theorem Lane.pwrUpd_fltHeld (L : Lane) (f : Power → Power) : (L.pwrUpd f).fltHeld = L.fltHeld := rfl

/-! ### Lane.xwkUpd -/

@[simp] theorem Lane.xwkUpd_run (L : Lane) (f : Xwk → Xwk) : (L.xwkUpd f).run = L.run := rfl
@[simp] theorem Lane.xwkUpd_time (L : Lane) (f : Xwk → Xwk) : (L.xwkUpd f).time = L.time := rfl
@[simp] theorem Lane.xwkUpd_regs (L : Lane) (f : Xwk → Xwk) : (L.xwkUpd f).regs = L.regs := rfl
@[simp] theorem Lane.xwkUpd_locked (L : Lane) (f : Xwk → Xwk) : (L.xwkUpd f).locked = L.locked := rfl
@[simp] theorem Lane.xwkUpd_fresh (L : Lane) (f : Xwk → Xwk) : (L.xwkUpd f).fresh = L.fresh := rfl
@[simp] theorem Lane.xwkUpd_odo (L : Lane) (f : Xwk → Xwk) : (L.xwkUpd f).odo = L.odo := rfl
@[simp] theorem Lane.xwkUpd_sched (L : Lane) (f : Xwk → Xwk) : (L.xwkUpd f).sched = L.sched := rfl
@[simp] theorem Lane.xwkUpd_mem (L : Lane) (f : Xwk → Xwk) : (L.xwkUpd f).mem = L.mem := rfl
@[simp] theorem Lane.xwkUpd_ready (L : Lane) (f : Xwk → Xwk) : (L.xwkUpd f).ready = L.ready := rfl
@[simp] theorem Lane.xwkUpd_silenced (L : Lane) (f : Xwk → Xwk) : (L.xwkUpd f).silenced = L.silenced := rfl
@[simp] theorem Lane.xwkUpd_standby (L : Lane) (f : Xwk → Xwk) : (L.xwkUpd f).standby = L.standby := rfl
@[simp] theorem Lane.xwkUpd_triples (L : Lane) (f : Xwk → Xwk) : (L.xwkUpd f).triples = L.triples := rfl
@[simp] theorem Lane.xwkUpd_tripleBad (L : Lane) (f : Xwk → Xwk) : (L.xwkUpd f).tripleBad = L.tripleBad := rfl
@[simp] theorem Lane.xwkUpd_safeW (L : Lane) (f : Xwk → Xwk) : (L.xwkUpd f).safeW = L.safeW := rfl
@[simp] theorem Lane.xwkUpd_trim (L : Lane) (f : Xwk → Xwk) : (L.xwkUpd f).trim = L.trim := rfl
@[simp] theorem Lane.xwkUpd_sdTrim (L : Lane) (f : Xwk → Xwk) : (L.xwkUpd f).sdTrim = L.sdTrim := rfl
@[simp] theorem Lane.xwkUpd_reported (L : Lane) (f : Xwk → Xwk) : (L.xwkUpd f).reported = L.reported := rfl
@[simp] theorem Lane.xwkUpd_xwk (L : Lane) (f : Xwk → Xwk) : (L.xwkUpd f).xwk = f L.xwk := rfl
@[simp] theorem Lane.xwkUpd_cuts (L : Lane) (f : Xwk → Xwk) : (L.xwkUpd f).cuts = L.cuts := rfl
@[simp] theorem Lane.xwkUpd_cutWait (L : Lane) (f : Xwk → Xwk) : (L.xwkUpd f).cutWait = L.cutWait := rfl
@[simp] theorem Lane.xwkUpd_estOld (L : Lane) (f : Xwk → Xwk) : (L.xwkUpd f).estOld = L.estOld := rfl
@[simp] theorem Lane.xwkUpd_imemOld (L : Lane) (f : Xwk → Xwk) : (L.xwkUpd f).imemOld = L.imemOld := rfl
@[simp] theorem Lane.xwkUpd_pinOwn (L : Lane) (f : Xwk → Xwk) : (L.xwkUpd f).pinOwn = L.pinOwn := rfl
@[simp] theorem Lane.xwkUpd_flagWas (L : Lane) (f : Xwk → Xwk) : (L.xwkUpd f).flagWas = L.flagWas := rfl
@[simp] theorem Lane.xwkUpd_landingQ (L : Lane) (f : Xwk → Xwk) : (L.xwkUpd f).landingQ = L.landingQ := rfl
@[simp] theorem Lane.xwkUpd_chargeQ (L : Lane) (f : Xwk → Xwk) : (L.xwkUpd f).chargeQ = L.chargeQ := rfl
@[simp] theorem Lane.xwkUpd_viewAt (L : Lane) (f : Xwk → Xwk) : (L.xwkUpd f).viewAt = L.viewAt := rfl
@[simp] theorem Lane.xwkUpd_dieWrites (L : Lane) (f : Xwk → Xwk) : (L.xwkUpd f).dieWrites = L.dieWrites := rfl
@[simp] theorem Lane.xwkUpd_pdQ (L : Lane) (f : Xwk → Xwk) : (L.xwkUpd f).pdQ = L.pdQ := rfl
@[simp] theorem Lane.xwkUpd_railSent (L : Lane) (f : Xwk → Xwk) : (L.xwkUpd f).railSent = L.railSent := rfl
@[simp] theorem Lane.xwkUpd_icu (L : Lane) (f : Xwk → Xwk) : (L.xwkUpd f).icu = L.icu := rfl
@[simp] theorem Lane.xwkUpd_acq (L : Lane) (f : Xwk → Xwk) : (L.xwkUpd f).acq = L.acq := rfl
@[simp] theorem Lane.xwkUpd_dma (L : Lane) (f : Xwk → Xwk) : (L.xwkUpd f).dma = L.dma := rfl
@[simp] theorem Lane.xwkUpd_dmaTurn (L : Lane) (f : Xwk → Xwk) : (L.xwkUpd f).dmaTurn = L.dmaTurn := rfl
@[simp] theorem Lane.xwkUpd_byw (L : Lane) (f : Xwk → Xwk) : (L.xwkUpd f).byw = L.byw := rfl
@[simp] theorem Lane.xwkUpd_pins (L : Lane) (f : Xwk → Xwk) : (L.xwkUpd f).pins = L.pins := rfl
@[simp] theorem Lane.xwkUpd_rises (L : Lane) (f : Xwk → Xwk) : (L.xwkUpd f).rises = L.rises := rfl
@[simp] theorem Lane.xwkUpd_falls (L : Lane) (f : Xwk → Xwk) : (L.xwkUpd f).falls = L.falls := rfl
@[simp] theorem Lane.xwkUpd_twi (L : Lane) (f : Xwk → Xwk) : (L.xwkUpd f).twi = L.twi := rfl
@[simp] theorem Lane.xwkUpd_store (L : Lane) (f : Xwk → Xwk) : (L.xwkUpd f).store = L.store := rfl
@[simp] theorem Lane.xwkUpd_mon (L : Lane) (f : Xwk → Xwk) : (L.xwkUpd f).mon = L.mon := rfl
@[simp] theorem Lane.xwkUpd_power (L : Lane) (f : Xwk → Xwk) : (L.xwkUpd f).power = L.power := rfl
@[simp] theorem Lane.xwkUpd_bistDone (L : Lane) (f : Xwk → Xwk) : (L.xwkUpd f).bistDone = L.bistDone := rfl
@[simp] theorem Lane.xwkUpd_bistAt (L : Lane) (f : Xwk → Xwk) : (L.xwkUpd f).bistAt = L.bistAt := rfl
@[simp] theorem Lane.xwkUpd_fltQ (L : Lane) (f : Xwk → Xwk) : (L.xwkUpd f).fltQ = L.fltQ := rfl
@[simp] theorem Lane.xwkUpd_fltHeld (L : Lane) (f : Xwk → Xwk) : (L.xwkUpd f).fltHeld = L.fltHeld := rfl

/-! ### Lane.dchUpd -/

@[simp] theorem Lane.dchUpd_run (L : Lane) (c : Nat) (f : DmaChan → DmaChan) : (L.dchUpd c f).run = L.run := rfl
@[simp] theorem Lane.dchUpd_time (L : Lane) (c : Nat) (f : DmaChan → DmaChan) : (L.dchUpd c f).time = L.time := rfl
@[simp] theorem Lane.dchUpd_regs (L : Lane) (c : Nat) (f : DmaChan → DmaChan) : (L.dchUpd c f).regs = L.regs := rfl
@[simp] theorem Lane.dchUpd_locked (L : Lane) (c : Nat) (f : DmaChan → DmaChan) : (L.dchUpd c f).locked = L.locked := rfl
@[simp] theorem Lane.dchUpd_fresh (L : Lane) (c : Nat) (f : DmaChan → DmaChan) : (L.dchUpd c f).fresh = L.fresh := rfl
@[simp] theorem Lane.dchUpd_odo (L : Lane) (c : Nat) (f : DmaChan → DmaChan) : (L.dchUpd c f).odo = L.odo := rfl
@[simp] theorem Lane.dchUpd_sched (L : Lane) (c : Nat) (f : DmaChan → DmaChan) : (L.dchUpd c f).sched = L.sched := rfl
@[simp] theorem Lane.dchUpd_mem (L : Lane) (c : Nat) (f : DmaChan → DmaChan) : (L.dchUpd c f).mem = L.mem := rfl
@[simp] theorem Lane.dchUpd_ready (L : Lane) (c : Nat) (f : DmaChan → DmaChan) : (L.dchUpd c f).ready = L.ready := rfl
@[simp] theorem Lane.dchUpd_silenced (L : Lane) (c : Nat) (f : DmaChan → DmaChan) : (L.dchUpd c f).silenced = L.silenced :=
  rfl
@[simp] theorem Lane.dchUpd_standby (L : Lane) (c : Nat) (f : DmaChan → DmaChan) : (L.dchUpd c f).standby = L.standby := rfl
@[simp] theorem Lane.dchUpd_triples (L : Lane) (c : Nat) (f : DmaChan → DmaChan) : (L.dchUpd c f).triples = L.triples := rfl
@[simp] theorem Lane.dchUpd_tripleBad (L : Lane) (c : Nat) (f : DmaChan → DmaChan) : (L.dchUpd c f).tripleBad = L.tripleBad :=
  rfl
@[simp] theorem Lane.dchUpd_safeW (L : Lane) (c : Nat) (f : DmaChan → DmaChan) : (L.dchUpd c f).safeW = L.safeW := rfl
@[simp] theorem Lane.dchUpd_trim (L : Lane) (c : Nat) (f : DmaChan → DmaChan) : (L.dchUpd c f).trim = L.trim := rfl
@[simp] theorem Lane.dchUpd_sdTrim (L : Lane) (c : Nat) (f : DmaChan → DmaChan) : (L.dchUpd c f).sdTrim = L.sdTrim := rfl
@[simp] theorem Lane.dchUpd_reported (L : Lane) (c : Nat) (f : DmaChan → DmaChan) : (L.dchUpd c f).reported = L.reported :=
  rfl
@[simp] theorem Lane.dchUpd_xwk (L : Lane) (c : Nat) (f : DmaChan → DmaChan) : (L.dchUpd c f).xwk = L.xwk := rfl
@[simp] theorem Lane.dchUpd_cuts (L : Lane) (c : Nat) (f : DmaChan → DmaChan) : (L.dchUpd c f).cuts = L.cuts := rfl
@[simp] theorem Lane.dchUpd_cutWait (L : Lane) (c : Nat) (f : DmaChan → DmaChan) : (L.dchUpd c f).cutWait = L.cutWait := rfl
@[simp] theorem Lane.dchUpd_estOld (L : Lane) (c : Nat) (f : DmaChan → DmaChan) : (L.dchUpd c f).estOld = L.estOld := rfl
@[simp] theorem Lane.dchUpd_imemOld (L : Lane) (c : Nat) (f : DmaChan → DmaChan) : (L.dchUpd c f).imemOld = L.imemOld := rfl
@[simp] theorem Lane.dchUpd_pinOwn (L : Lane) (c : Nat) (f : DmaChan → DmaChan) : (L.dchUpd c f).pinOwn = L.pinOwn := rfl
@[simp] theorem Lane.dchUpd_flagWas (L : Lane) (c : Nat) (f : DmaChan → DmaChan) : (L.dchUpd c f).flagWas = L.flagWas := rfl
@[simp] theorem Lane.dchUpd_landingQ (L : Lane) (c : Nat) (f : DmaChan → DmaChan) : (L.dchUpd c f).landingQ = L.landingQ :=
  rfl
@[simp] theorem Lane.dchUpd_chargeQ (L : Lane) (c : Nat) (f : DmaChan → DmaChan) : (L.dchUpd c f).chargeQ = L.chargeQ := rfl
@[simp] theorem Lane.dchUpd_viewAt (L : Lane) (c : Nat) (f : DmaChan → DmaChan) : (L.dchUpd c f).viewAt = L.viewAt := rfl
@[simp] theorem Lane.dchUpd_dieWrites (L : Lane) (c : Nat) (f : DmaChan → DmaChan) : (L.dchUpd c f).dieWrites = L.dieWrites :=
  rfl
@[simp] theorem Lane.dchUpd_pdQ (L : Lane) (c : Nat) (f : DmaChan → DmaChan) : (L.dchUpd c f).pdQ = L.pdQ := rfl
@[simp] theorem Lane.dchUpd_railSent (L : Lane) (c : Nat) (f : DmaChan → DmaChan) : (L.dchUpd c f).railSent = L.railSent :=
  rfl
@[simp] theorem Lane.dchUpd_icu (L : Lane) (c : Nat) (f : DmaChan → DmaChan) : (L.dchUpd c f).icu = L.icu := rfl
@[simp] theorem Lane.dchUpd_acq (L : Lane) (c : Nat) (f : DmaChan → DmaChan) : (L.dchUpd c f).acq = L.acq := rfl
@[simp] theorem Lane.dchUpd_dma (L : Lane) (c : Nat) (f : DmaChan → DmaChan) : (L.dchUpd c f).dma = vmod L.dma c f := rfl
@[simp] theorem Lane.dchUpd_dmaTurn (L : Lane) (c : Nat) (f : DmaChan → DmaChan) : (L.dchUpd c f).dmaTurn = L.dmaTurn := rfl
@[simp] theorem Lane.dchUpd_byw (L : Lane) (c : Nat) (f : DmaChan → DmaChan) : (L.dchUpd c f).byw = L.byw := rfl
@[simp] theorem Lane.dchUpd_pins (L : Lane) (c : Nat) (f : DmaChan → DmaChan) : (L.dchUpd c f).pins = L.pins := rfl
@[simp] theorem Lane.dchUpd_rises (L : Lane) (c : Nat) (f : DmaChan → DmaChan) : (L.dchUpd c f).rises = L.rises := rfl
@[simp] theorem Lane.dchUpd_falls (L : Lane) (c : Nat) (f : DmaChan → DmaChan) : (L.dchUpd c f).falls = L.falls := rfl
@[simp] theorem Lane.dchUpd_twi (L : Lane) (c : Nat) (f : DmaChan → DmaChan) : (L.dchUpd c f).twi = L.twi := rfl
@[simp] theorem Lane.dchUpd_store (L : Lane) (c : Nat) (f : DmaChan → DmaChan) : (L.dchUpd c f).store = L.store := rfl
@[simp] theorem Lane.dchUpd_mon (L : Lane) (c : Nat) (f : DmaChan → DmaChan) : (L.dchUpd c f).mon = L.mon := rfl
@[simp] theorem Lane.dchUpd_power (L : Lane) (c : Nat) (f : DmaChan → DmaChan) : (L.dchUpd c f).power = L.power := rfl
@[simp] theorem Lane.dchUpd_bistDone (L : Lane) (c : Nat) (f : DmaChan → DmaChan) : (L.dchUpd c f).bistDone = L.bistDone :=
  rfl
@[simp] theorem Lane.dchUpd_bistAt (L : Lane) (c : Nat) (f : DmaChan → DmaChan) : (L.dchUpd c f).bistAt = L.bistAt := rfl
@[simp] theorem Lane.dchUpd_fltQ (L : Lane) (c : Nat) (f : DmaChan → DmaChan) : (L.dchUpd c f).fltQ = L.fltQ := rfl
@[simp] theorem Lane.dchUpd_fltHeld (L : Lane) (c : Nat) (f : DmaChan → DmaChan) : (L.dchUpd c f).fltHeld = L.fltHeld := rfl

/-! ### Lane.engUpd -/

@[simp] theorem Lane.engUpd_run (L : Lane) (e : Nat) (f : Byw → Byw) : (L.engUpd e f).run = L.run := rfl
@[simp] theorem Lane.engUpd_time (L : Lane) (e : Nat) (f : Byw → Byw) : (L.engUpd e f).time = L.time := rfl
@[simp] theorem Lane.engUpd_regs (L : Lane) (e : Nat) (f : Byw → Byw) : (L.engUpd e f).regs = L.regs := rfl
@[simp] theorem Lane.engUpd_locked (L : Lane) (e : Nat) (f : Byw → Byw) : (L.engUpd e f).locked = L.locked := rfl
@[simp] theorem Lane.engUpd_fresh (L : Lane) (e : Nat) (f : Byw → Byw) : (L.engUpd e f).fresh = L.fresh := rfl
@[simp] theorem Lane.engUpd_odo (L : Lane) (e : Nat) (f : Byw → Byw) : (L.engUpd e f).odo = L.odo := rfl
@[simp] theorem Lane.engUpd_sched (L : Lane) (e : Nat) (f : Byw → Byw) : (L.engUpd e f).sched = L.sched := rfl
@[simp] theorem Lane.engUpd_mem (L : Lane) (e : Nat) (f : Byw → Byw) : (L.engUpd e f).mem = L.mem := rfl
@[simp] theorem Lane.engUpd_ready (L : Lane) (e : Nat) (f : Byw → Byw) : (L.engUpd e f).ready = L.ready := rfl
@[simp] theorem Lane.engUpd_silenced (L : Lane) (e : Nat) (f : Byw → Byw) : (L.engUpd e f).silenced = L.silenced := rfl
@[simp] theorem Lane.engUpd_standby (L : Lane) (e : Nat) (f : Byw → Byw) : (L.engUpd e f).standby = L.standby := rfl
@[simp] theorem Lane.engUpd_triples (L : Lane) (e : Nat) (f : Byw → Byw) : (L.engUpd e f).triples = L.triples := rfl
@[simp] theorem Lane.engUpd_tripleBad (L : Lane) (e : Nat) (f : Byw → Byw) : (L.engUpd e f).tripleBad = L.tripleBad := rfl
@[simp] theorem Lane.engUpd_safeW (L : Lane) (e : Nat) (f : Byw → Byw) : (L.engUpd e f).safeW = L.safeW := rfl
@[simp] theorem Lane.engUpd_trim (L : Lane) (e : Nat) (f : Byw → Byw) : (L.engUpd e f).trim = L.trim := rfl
@[simp] theorem Lane.engUpd_sdTrim (L : Lane) (e : Nat) (f : Byw → Byw) : (L.engUpd e f).sdTrim = L.sdTrim := rfl
@[simp] theorem Lane.engUpd_reported (L : Lane) (e : Nat) (f : Byw → Byw) : (L.engUpd e f).reported = L.reported := rfl
@[simp] theorem Lane.engUpd_xwk (L : Lane) (e : Nat) (f : Byw → Byw) : (L.engUpd e f).xwk = L.xwk := rfl
@[simp] theorem Lane.engUpd_cuts (L : Lane) (e : Nat) (f : Byw → Byw) : (L.engUpd e f).cuts = L.cuts := rfl
@[simp] theorem Lane.engUpd_cutWait (L : Lane) (e : Nat) (f : Byw → Byw) : (L.engUpd e f).cutWait = L.cutWait := rfl
@[simp] theorem Lane.engUpd_estOld (L : Lane) (e : Nat) (f : Byw → Byw) : (L.engUpd e f).estOld = L.estOld := rfl
@[simp] theorem Lane.engUpd_imemOld (L : Lane) (e : Nat) (f : Byw → Byw) : (L.engUpd e f).imemOld = L.imemOld := rfl
@[simp] theorem Lane.engUpd_pinOwn (L : Lane) (e : Nat) (f : Byw → Byw) : (L.engUpd e f).pinOwn = L.pinOwn := rfl
@[simp] theorem Lane.engUpd_flagWas (L : Lane) (e : Nat) (f : Byw → Byw) : (L.engUpd e f).flagWas = L.flagWas := rfl
@[simp] theorem Lane.engUpd_landingQ (L : Lane) (e : Nat) (f : Byw → Byw) : (L.engUpd e f).landingQ = L.landingQ := rfl
@[simp] theorem Lane.engUpd_chargeQ (L : Lane) (e : Nat) (f : Byw → Byw) : (L.engUpd e f).chargeQ = L.chargeQ := rfl
@[simp] theorem Lane.engUpd_viewAt (L : Lane) (e : Nat) (f : Byw → Byw) : (L.engUpd e f).viewAt = L.viewAt := rfl
@[simp] theorem Lane.engUpd_dieWrites (L : Lane) (e : Nat) (f : Byw → Byw) : (L.engUpd e f).dieWrites = L.dieWrites := rfl
@[simp] theorem Lane.engUpd_pdQ (L : Lane) (e : Nat) (f : Byw → Byw) : (L.engUpd e f).pdQ = L.pdQ := rfl
@[simp] theorem Lane.engUpd_railSent (L : Lane) (e : Nat) (f : Byw → Byw) : (L.engUpd e f).railSent = L.railSent := rfl
@[simp] theorem Lane.engUpd_icu (L : Lane) (e : Nat) (f : Byw → Byw) : (L.engUpd e f).icu = L.icu := rfl
@[simp] theorem Lane.engUpd_acq (L : Lane) (e : Nat) (f : Byw → Byw) : (L.engUpd e f).acq = L.acq := rfl
@[simp] theorem Lane.engUpd_dma (L : Lane) (e : Nat) (f : Byw → Byw) : (L.engUpd e f).dma = L.dma := rfl
@[simp] theorem Lane.engUpd_dmaTurn (L : Lane) (e : Nat) (f : Byw → Byw) : (L.engUpd e f).dmaTurn = L.dmaTurn := rfl
@[simp] theorem Lane.engUpd_byw (L : Lane) (e : Nat) (f : Byw → Byw) : (L.engUpd e f).byw = vmod L.byw e f := rfl
@[simp] theorem Lane.engUpd_pins (L : Lane) (e : Nat) (f : Byw → Byw) : (L.engUpd e f).pins = L.pins := rfl
@[simp] theorem Lane.engUpd_rises (L : Lane) (e : Nat) (f : Byw → Byw) : (L.engUpd e f).rises = L.rises := rfl
@[simp] theorem Lane.engUpd_falls (L : Lane) (e : Nat) (f : Byw → Byw) : (L.engUpd e f).falls = L.falls := rfl
@[simp] theorem Lane.engUpd_twi (L : Lane) (e : Nat) (f : Byw → Byw) : (L.engUpd e f).twi = L.twi := rfl
@[simp] theorem Lane.engUpd_store (L : Lane) (e : Nat) (f : Byw → Byw) : (L.engUpd e f).store = L.store := rfl
@[simp] theorem Lane.engUpd_mon (L : Lane) (e : Nat) (f : Byw → Byw) : (L.engUpd e f).mon = L.mon := rfl
@[simp] theorem Lane.engUpd_power (L : Lane) (e : Nat) (f : Byw → Byw) : (L.engUpd e f).power = L.power := rfl
@[simp] theorem Lane.engUpd_bistDone (L : Lane) (e : Nat) (f : Byw → Byw) : (L.engUpd e f).bistDone = L.bistDone := rfl
@[simp] theorem Lane.engUpd_bistAt (L : Lane) (e : Nat) (f : Byw → Byw) : (L.engUpd e f).bistAt = L.bistAt := rfl
@[simp] theorem Lane.engUpd_fltQ (L : Lane) (e : Nat) (f : Byw → Byw) : (L.engUpd e f).fltQ = L.fltQ := rfl
@[simp] theorem Lane.engUpd_fltHeld (L : Lane) (e : Nat) (f : Byw → Byw) : (L.engUpd e f).fltHeld = L.fltHeld := rfl

/-! ### Lane.setReg -/

@[simp] theorem Lane.setReg_run (L : Lane) (a : Nat) (v : Word) : (L.setReg a v).run = L.run := rfl
@[simp] theorem Lane.setReg_time (L : Lane) (a : Nat) (v : Word) : (L.setReg a v).time = L.time := rfl
@[simp] theorem Lane.setReg_regs (L : Lane) (a : Nat) (v : Word) : (L.setReg a v).regs = L.regs.set a v := rfl
@[simp] theorem Lane.setReg_locked (L : Lane) (a : Nat) (v : Word) : (L.setReg a v).locked = L.locked := rfl
@[simp] theorem Lane.setReg_fresh (L : Lane) (a : Nat) (v : Word) : (L.setReg a v).fresh = L.fresh := rfl
@[simp] theorem Lane.setReg_odo (L : Lane) (a : Nat) (v : Word) : (L.setReg a v).odo = L.odo := rfl
@[simp] theorem Lane.setReg_sched (L : Lane) (a : Nat) (v : Word) : (L.setReg a v).sched = L.sched := rfl
@[simp] theorem Lane.setReg_mem (L : Lane) (a : Nat) (v : Word) : (L.setReg a v).mem = L.mem := rfl
@[simp] theorem Lane.setReg_ready (L : Lane) (a : Nat) (v : Word) : (L.setReg a v).ready = L.ready := rfl
@[simp] theorem Lane.setReg_silenced (L : Lane) (a : Nat) (v : Word) : (L.setReg a v).silenced = L.silenced := rfl
@[simp] theorem Lane.setReg_standby (L : Lane) (a : Nat) (v : Word) : (L.setReg a v).standby = L.standby := rfl
@[simp] theorem Lane.setReg_triples (L : Lane) (a : Nat) (v : Word) : (L.setReg a v).triples = L.triples := rfl
@[simp] theorem Lane.setReg_tripleBad (L : Lane) (a : Nat) (v : Word) : (L.setReg a v).tripleBad = L.tripleBad := rfl
@[simp] theorem Lane.setReg_safeW (L : Lane) (a : Nat) (v : Word) : (L.setReg a v).safeW = L.safeW := rfl
@[simp] theorem Lane.setReg_trim (L : Lane) (a : Nat) (v : Word) : (L.setReg a v).trim = L.trim := rfl
@[simp] theorem Lane.setReg_sdTrim (L : Lane) (a : Nat) (v : Word) : (L.setReg a v).sdTrim = L.sdTrim := rfl
@[simp] theorem Lane.setReg_reported (L : Lane) (a : Nat) (v : Word) : (L.setReg a v).reported = L.reported := rfl
@[simp] theorem Lane.setReg_xwk (L : Lane) (a : Nat) (v : Word) : (L.setReg a v).xwk = L.xwk := rfl
@[simp] theorem Lane.setReg_cuts (L : Lane) (a : Nat) (v : Word) : (L.setReg a v).cuts = L.cuts := rfl
@[simp] theorem Lane.setReg_cutWait (L : Lane) (a : Nat) (v : Word) : (L.setReg a v).cutWait = L.cutWait := rfl
@[simp] theorem Lane.setReg_estOld (L : Lane) (a : Nat) (v : Word) : (L.setReg a v).estOld = L.estOld := rfl
@[simp] theorem Lane.setReg_imemOld (L : Lane) (a : Nat) (v : Word) : (L.setReg a v).imemOld = L.imemOld := rfl
@[simp] theorem Lane.setReg_pinOwn (L : Lane) (a : Nat) (v : Word) : (L.setReg a v).pinOwn = L.pinOwn := rfl
@[simp] theorem Lane.setReg_flagWas (L : Lane) (a : Nat) (v : Word) : (L.setReg a v).flagWas = L.flagWas := rfl
@[simp] theorem Lane.setReg_landingQ (L : Lane) (a : Nat) (v : Word) : (L.setReg a v).landingQ = L.landingQ := rfl
@[simp] theorem Lane.setReg_chargeQ (L : Lane) (a : Nat) (v : Word) : (L.setReg a v).chargeQ = L.chargeQ := rfl
@[simp] theorem Lane.setReg_viewAt (L : Lane) (a : Nat) (v : Word) : (L.setReg a v).viewAt = L.viewAt := rfl
@[simp] theorem Lane.setReg_dieWrites (L : Lane) (a : Nat) (v : Word) : (L.setReg a v).dieWrites = L.dieWrites := rfl
@[simp] theorem Lane.setReg_pdQ (L : Lane) (a : Nat) (v : Word) : (L.setReg a v).pdQ = L.pdQ := rfl
@[simp] theorem Lane.setReg_railSent (L : Lane) (a : Nat) (v : Word) : (L.setReg a v).railSent = L.railSent := rfl
@[simp] theorem Lane.setReg_icu (L : Lane) (a : Nat) (v : Word) : (L.setReg a v).icu = L.icu := rfl
@[simp] theorem Lane.setReg_acq (L : Lane) (a : Nat) (v : Word) : (L.setReg a v).acq = L.acq := rfl
@[simp] theorem Lane.setReg_dma (L : Lane) (a : Nat) (v : Word) : (L.setReg a v).dma = L.dma := rfl
@[simp] theorem Lane.setReg_dmaTurn (L : Lane) (a : Nat) (v : Word) : (L.setReg a v).dmaTurn = L.dmaTurn := rfl
@[simp] theorem Lane.setReg_byw (L : Lane) (a : Nat) (v : Word) : (L.setReg a v).byw = L.byw := rfl
@[simp] theorem Lane.setReg_pins (L : Lane) (a : Nat) (v : Word) : (L.setReg a v).pins = L.pins := rfl
@[simp] theorem Lane.setReg_rises (L : Lane) (a : Nat) (v : Word) : (L.setReg a v).rises = L.rises := rfl
@[simp] theorem Lane.setReg_falls (L : Lane) (a : Nat) (v : Word) : (L.setReg a v).falls = L.falls := rfl
@[simp] theorem Lane.setReg_twi (L : Lane) (a : Nat) (v : Word) : (L.setReg a v).twi = L.twi := rfl
@[simp] theorem Lane.setReg_store (L : Lane) (a : Nat) (v : Word) : (L.setReg a v).store = L.store := rfl
@[simp] theorem Lane.setReg_mon (L : Lane) (a : Nat) (v : Word) : (L.setReg a v).mon = L.mon := rfl
@[simp] theorem Lane.setReg_power (L : Lane) (a : Nat) (v : Word) : (L.setReg a v).power = L.power := rfl
@[simp] theorem Lane.setReg_bistDone (L : Lane) (a : Nat) (v : Word) : (L.setReg a v).bistDone = L.bistDone := rfl
@[simp] theorem Lane.setReg_bistAt (L : Lane) (a : Nat) (v : Word) : (L.setReg a v).bistAt = L.bistAt := rfl
@[simp] theorem Lane.setReg_fltQ (L : Lane) (a : Nat) (v : Word) : (L.setReg a v).fltQ = L.fltQ := rfl
@[simp] theorem Lane.setReg_fltHeld (L : Lane) (a : Nat) (v : Word) : (L.setReg a v).fltHeld = L.fltHeld := rfl

/-! ### Lane.setFld -/

@[simp] theorem Lane.setFld_run (L : Lane) (a lo w x : Nat) : (L.setFld a lo w x).run = L.run := rfl
@[simp] theorem Lane.setFld_time (L : Lane) (a lo w x : Nat) : (L.setFld a lo w x).time = L.time := rfl
@[simp] theorem Lane.setFld_regs (L : Lane) (a lo w x : Nat) : (L.setFld a lo w x).regs = L.regs.set a (setBits (L.reg a) lo w x) :=
  rfl
@[simp] theorem Lane.setFld_locked (L : Lane) (a lo w x : Nat) : (L.setFld a lo w x).locked = L.locked := rfl
@[simp] theorem Lane.setFld_fresh (L : Lane) (a lo w x : Nat) : (L.setFld a lo w x).fresh = L.fresh := rfl
@[simp] theorem Lane.setFld_odo (L : Lane) (a lo w x : Nat) : (L.setFld a lo w x).odo = L.odo := rfl
@[simp] theorem Lane.setFld_sched (L : Lane) (a lo w x : Nat) : (L.setFld a lo w x).sched = L.sched := rfl
@[simp] theorem Lane.setFld_mem (L : Lane) (a lo w x : Nat) : (L.setFld a lo w x).mem = L.mem := rfl
@[simp] theorem Lane.setFld_ready (L : Lane) (a lo w x : Nat) : (L.setFld a lo w x).ready = L.ready := rfl
@[simp] theorem Lane.setFld_silenced (L : Lane) (a lo w x : Nat) : (L.setFld a lo w x).silenced = L.silenced := rfl
@[simp] theorem Lane.setFld_standby (L : Lane) (a lo w x : Nat) : (L.setFld a lo w x).standby = L.standby := rfl
@[simp] theorem Lane.setFld_triples (L : Lane) (a lo w x : Nat) : (L.setFld a lo w x).triples = L.triples := rfl
@[simp] theorem Lane.setFld_tripleBad (L : Lane) (a lo w x : Nat) : (L.setFld a lo w x).tripleBad = L.tripleBad := rfl
@[simp] theorem Lane.setFld_safeW (L : Lane) (a lo w x : Nat) : (L.setFld a lo w x).safeW = L.safeW := rfl
@[simp] theorem Lane.setFld_trim (L : Lane) (a lo w x : Nat) : (L.setFld a lo w x).trim = L.trim := rfl
@[simp] theorem Lane.setFld_sdTrim (L : Lane) (a lo w x : Nat) : (L.setFld a lo w x).sdTrim = L.sdTrim := rfl
@[simp] theorem Lane.setFld_reported (L : Lane) (a lo w x : Nat) : (L.setFld a lo w x).reported = L.reported := rfl
@[simp] theorem Lane.setFld_xwk (L : Lane) (a lo w x : Nat) : (L.setFld a lo w x).xwk = L.xwk := rfl
@[simp] theorem Lane.setFld_cuts (L : Lane) (a lo w x : Nat) : (L.setFld a lo w x).cuts = L.cuts := rfl
@[simp] theorem Lane.setFld_cutWait (L : Lane) (a lo w x : Nat) : (L.setFld a lo w x).cutWait = L.cutWait := rfl
@[simp] theorem Lane.setFld_estOld (L : Lane) (a lo w x : Nat) : (L.setFld a lo w x).estOld = L.estOld := rfl
@[simp] theorem Lane.setFld_imemOld (L : Lane) (a lo w x : Nat) : (L.setFld a lo w x).imemOld = L.imemOld := rfl
@[simp] theorem Lane.setFld_pinOwn (L : Lane) (a lo w x : Nat) : (L.setFld a lo w x).pinOwn = L.pinOwn := rfl
@[simp] theorem Lane.setFld_flagWas (L : Lane) (a lo w x : Nat) : (L.setFld a lo w x).flagWas = L.flagWas := rfl
@[simp] theorem Lane.setFld_landingQ (L : Lane) (a lo w x : Nat) : (L.setFld a lo w x).landingQ = L.landingQ := rfl
@[simp] theorem Lane.setFld_chargeQ (L : Lane) (a lo w x : Nat) : (L.setFld a lo w x).chargeQ = L.chargeQ := rfl
@[simp] theorem Lane.setFld_viewAt (L : Lane) (a lo w x : Nat) : (L.setFld a lo w x).viewAt = L.viewAt := rfl
@[simp] theorem Lane.setFld_dieWrites (L : Lane) (a lo w x : Nat) : (L.setFld a lo w x).dieWrites = L.dieWrites := rfl
@[simp] theorem Lane.setFld_pdQ (L : Lane) (a lo w x : Nat) : (L.setFld a lo w x).pdQ = L.pdQ := rfl
@[simp] theorem Lane.setFld_railSent (L : Lane) (a lo w x : Nat) : (L.setFld a lo w x).railSent = L.railSent := rfl
@[simp] theorem Lane.setFld_icu (L : Lane) (a lo w x : Nat) : (L.setFld a lo w x).icu = L.icu := rfl
@[simp] theorem Lane.setFld_acq (L : Lane) (a lo w x : Nat) : (L.setFld a lo w x).acq = L.acq := rfl
@[simp] theorem Lane.setFld_dma (L : Lane) (a lo w x : Nat) : (L.setFld a lo w x).dma = L.dma := rfl
@[simp] theorem Lane.setFld_dmaTurn (L : Lane) (a lo w x : Nat) : (L.setFld a lo w x).dmaTurn = L.dmaTurn := rfl
@[simp] theorem Lane.setFld_byw (L : Lane) (a lo w x : Nat) : (L.setFld a lo w x).byw = L.byw := rfl
@[simp] theorem Lane.setFld_pins (L : Lane) (a lo w x : Nat) : (L.setFld a lo w x).pins = L.pins := rfl
@[simp] theorem Lane.setFld_rises (L : Lane) (a lo w x : Nat) : (L.setFld a lo w x).rises = L.rises := rfl
@[simp] theorem Lane.setFld_falls (L : Lane) (a lo w x : Nat) : (L.setFld a lo w x).falls = L.falls := rfl
@[simp] theorem Lane.setFld_twi (L : Lane) (a lo w x : Nat) : (L.setFld a lo w x).twi = L.twi := rfl
@[simp] theorem Lane.setFld_store (L : Lane) (a lo w x : Nat) : (L.setFld a lo w x).store = L.store := rfl
@[simp] theorem Lane.setFld_mon (L : Lane) (a lo w x : Nat) : (L.setFld a lo w x).mon = L.mon := rfl
@[simp] theorem Lane.setFld_power (L : Lane) (a lo w x : Nat) : (L.setFld a lo w x).power = L.power := rfl
@[simp] theorem Lane.setFld_bistDone (L : Lane) (a lo w x : Nat) : (L.setFld a lo w x).bistDone = L.bistDone := rfl
@[simp] theorem Lane.setFld_bistAt (L : Lane) (a lo w x : Nat) : (L.setFld a lo w x).bistAt = L.bistAt := rfl
@[simp] theorem Lane.setFld_fltQ (L : Lane) (a lo w x : Nat) : (L.setFld a lo w x).fltQ = L.fltQ := rfl
@[simp] theorem Lane.setFld_fltHeld (L : Lane) (a lo w x : Nat) : (L.setFld a lo w x).fltHeld = L.fltHeld := rfl

/-! ### Lane.resetReg -/

@[simp] theorem Lane.resetReg_run (L : Lane) (a : Nat) : (L.resetReg a).run = L.run := rfl
@[simp] theorem Lane.resetReg_time (L : Lane) (a : Nat) : (L.resetReg a).time = L.time := rfl
@[simp] theorem Lane.resetReg_regs (L : Lane) (a : Nat) : (L.resetReg a).regs = L.regs.set a (regReset a) := rfl
@[simp] theorem Lane.resetReg_locked (L : Lane) (a : Nat) : (L.resetReg a).locked = L.locked := rfl
@[simp] theorem Lane.resetReg_fresh (L : Lane) (a : Nat) : (L.resetReg a).fresh = L.fresh := rfl
@[simp] theorem Lane.resetReg_odo (L : Lane) (a : Nat) : (L.resetReg a).odo = L.odo := rfl
@[simp] theorem Lane.resetReg_sched (L : Lane) (a : Nat) : (L.resetReg a).sched = L.sched := rfl
@[simp] theorem Lane.resetReg_mem (L : Lane) (a : Nat) : (L.resetReg a).mem = L.mem := rfl
@[simp] theorem Lane.resetReg_ready (L : Lane) (a : Nat) : (L.resetReg a).ready = L.ready := rfl
@[simp] theorem Lane.resetReg_silenced (L : Lane) (a : Nat) : (L.resetReg a).silenced = L.silenced := rfl
@[simp] theorem Lane.resetReg_standby (L : Lane) (a : Nat) : (L.resetReg a).standby = L.standby := rfl
@[simp] theorem Lane.resetReg_triples (L : Lane) (a : Nat) : (L.resetReg a).triples = L.triples := rfl
@[simp] theorem Lane.resetReg_tripleBad (L : Lane) (a : Nat) : (L.resetReg a).tripleBad = L.tripleBad := rfl
@[simp] theorem Lane.resetReg_safeW (L : Lane) (a : Nat) : (L.resetReg a).safeW = L.safeW := rfl
@[simp] theorem Lane.resetReg_trim (L : Lane) (a : Nat) : (L.resetReg a).trim = L.trim := rfl
@[simp] theorem Lane.resetReg_sdTrim (L : Lane) (a : Nat) : (L.resetReg a).sdTrim = L.sdTrim := rfl
@[simp] theorem Lane.resetReg_reported (L : Lane) (a : Nat) : (L.resetReg a).reported = L.reported := rfl
@[simp] theorem Lane.resetReg_xwk (L : Lane) (a : Nat) : (L.resetReg a).xwk = L.xwk := rfl
@[simp] theorem Lane.resetReg_cuts (L : Lane) (a : Nat) : (L.resetReg a).cuts = L.cuts := rfl
@[simp] theorem Lane.resetReg_cutWait (L : Lane) (a : Nat) : (L.resetReg a).cutWait = L.cutWait := rfl
@[simp] theorem Lane.resetReg_estOld (L : Lane) (a : Nat) : (L.resetReg a).estOld = L.estOld := rfl
@[simp] theorem Lane.resetReg_imemOld (L : Lane) (a : Nat) : (L.resetReg a).imemOld = L.imemOld := rfl
@[simp] theorem Lane.resetReg_pinOwn (L : Lane) (a : Nat) : (L.resetReg a).pinOwn = L.pinOwn := rfl
@[simp] theorem Lane.resetReg_flagWas (L : Lane) (a : Nat) : (L.resetReg a).flagWas = L.flagWas := rfl
@[simp] theorem Lane.resetReg_landingQ (L : Lane) (a : Nat) : (L.resetReg a).landingQ = L.landingQ := rfl
@[simp] theorem Lane.resetReg_chargeQ (L : Lane) (a : Nat) : (L.resetReg a).chargeQ = L.chargeQ := rfl
@[simp] theorem Lane.resetReg_viewAt (L : Lane) (a : Nat) : (L.resetReg a).viewAt = L.viewAt := rfl
@[simp] theorem Lane.resetReg_dieWrites (L : Lane) (a : Nat) : (L.resetReg a).dieWrites = L.dieWrites := rfl
@[simp] theorem Lane.resetReg_pdQ (L : Lane) (a : Nat) : (L.resetReg a).pdQ = L.pdQ := rfl
@[simp] theorem Lane.resetReg_railSent (L : Lane) (a : Nat) : (L.resetReg a).railSent = L.railSent := rfl
@[simp] theorem Lane.resetReg_icu (L : Lane) (a : Nat) : (L.resetReg a).icu = L.icu := rfl
@[simp] theorem Lane.resetReg_acq (L : Lane) (a : Nat) : (L.resetReg a).acq = L.acq := rfl
@[simp] theorem Lane.resetReg_dma (L : Lane) (a : Nat) : (L.resetReg a).dma = L.dma := rfl
@[simp] theorem Lane.resetReg_dmaTurn (L : Lane) (a : Nat) : (L.resetReg a).dmaTurn = L.dmaTurn := rfl
@[simp] theorem Lane.resetReg_byw (L : Lane) (a : Nat) : (L.resetReg a).byw = L.byw := rfl
@[simp] theorem Lane.resetReg_pins (L : Lane) (a : Nat) : (L.resetReg a).pins = L.pins := rfl
@[simp] theorem Lane.resetReg_rises (L : Lane) (a : Nat) : (L.resetReg a).rises = L.rises := rfl
@[simp] theorem Lane.resetReg_falls (L : Lane) (a : Nat) : (L.resetReg a).falls = L.falls := rfl
@[simp] theorem Lane.resetReg_twi (L : Lane) (a : Nat) : (L.resetReg a).twi = L.twi := rfl
@[simp] theorem Lane.resetReg_store (L : Lane) (a : Nat) : (L.resetReg a).store = L.store := rfl
@[simp] theorem Lane.resetReg_mon (L : Lane) (a : Nat) : (L.resetReg a).mon = L.mon := rfl
@[simp] theorem Lane.resetReg_power (L : Lane) (a : Nat) : (L.resetReg a).power = L.power := rfl
@[simp] theorem Lane.resetReg_bistDone (L : Lane) (a : Nat) : (L.resetReg a).bistDone = L.bistDone := rfl
@[simp] theorem Lane.resetReg_bistAt (L : Lane) (a : Nat) : (L.resetReg a).bistAt = L.bistAt := rfl
@[simp] theorem Lane.resetReg_fltQ (L : Lane) (a : Nat) : (L.resetReg a).fltQ = L.fltQ := rfl
@[simp] theorem Lane.resetReg_fltHeld (L : Lane) (a : Nat) : (L.resetReg a).fltHeld = L.fltHeld := rfl

/-! ### Lane.count -/

@[simp] theorem Lane.count_run (L : Lane) (a lo w : Nat) : (L.count a lo w).run = L.run := rfl
@[simp] theorem Lane.count_time (L : Lane) (a lo w : Nat) : (L.count a lo w).time = L.time := rfl
@[simp] theorem Lane.count_locked (L : Lane) (a lo w : Nat) : (L.count a lo w).locked = L.locked := rfl
@[simp] theorem Lane.count_fresh (L : Lane) (a lo w : Nat) : (L.count a lo w).fresh = L.fresh := rfl
@[simp] theorem Lane.count_odo (L : Lane) (a lo w : Nat) : (L.count a lo w).odo = L.odo := rfl
@[simp] theorem Lane.count_sched (L : Lane) (a lo w : Nat) : (L.count a lo w).sched = L.sched := rfl
@[simp] theorem Lane.count_mem (L : Lane) (a lo w : Nat) : (L.count a lo w).mem = L.mem := rfl
@[simp] theorem Lane.count_ready (L : Lane) (a lo w : Nat) : (L.count a lo w).ready = L.ready := rfl
@[simp] theorem Lane.count_silenced (L : Lane) (a lo w : Nat) : (L.count a lo w).silenced = L.silenced := rfl
@[simp] theorem Lane.count_standby (L : Lane) (a lo w : Nat) : (L.count a lo w).standby = L.standby := rfl
@[simp] theorem Lane.count_triples (L : Lane) (a lo w : Nat) : (L.count a lo w).triples = L.triples := rfl
@[simp] theorem Lane.count_tripleBad (L : Lane) (a lo w : Nat) : (L.count a lo w).tripleBad = L.tripleBad := rfl
@[simp] theorem Lane.count_safeW (L : Lane) (a lo w : Nat) : (L.count a lo w).safeW = L.safeW := rfl
@[simp] theorem Lane.count_trim (L : Lane) (a lo w : Nat) : (L.count a lo w).trim = L.trim := rfl
@[simp] theorem Lane.count_sdTrim (L : Lane) (a lo w : Nat) : (L.count a lo w).sdTrim = L.sdTrim := rfl
@[simp] theorem Lane.count_reported (L : Lane) (a lo w : Nat) : (L.count a lo w).reported = L.reported := rfl
@[simp] theorem Lane.count_xwk (L : Lane) (a lo w : Nat) : (L.count a lo w).xwk = L.xwk := rfl
@[simp] theorem Lane.count_cuts (L : Lane) (a lo w : Nat) : (L.count a lo w).cuts = L.cuts := rfl
@[simp] theorem Lane.count_cutWait (L : Lane) (a lo w : Nat) : (L.count a lo w).cutWait = L.cutWait := rfl
@[simp] theorem Lane.count_estOld (L : Lane) (a lo w : Nat) : (L.count a lo w).estOld = L.estOld := rfl
@[simp] theorem Lane.count_imemOld (L : Lane) (a lo w : Nat) : (L.count a lo w).imemOld = L.imemOld := rfl
@[simp] theorem Lane.count_pinOwn (L : Lane) (a lo w : Nat) : (L.count a lo w).pinOwn = L.pinOwn := rfl
@[simp] theorem Lane.count_flagWas (L : Lane) (a lo w : Nat) : (L.count a lo w).flagWas = L.flagWas := rfl
@[simp] theorem Lane.count_landingQ (L : Lane) (a lo w : Nat) : (L.count a lo w).landingQ = L.landingQ := rfl
@[simp] theorem Lane.count_chargeQ (L : Lane) (a lo w : Nat) : (L.count a lo w).chargeQ = L.chargeQ := rfl
@[simp] theorem Lane.count_viewAt (L : Lane) (a lo w : Nat) : (L.count a lo w).viewAt = L.viewAt := rfl
@[simp] theorem Lane.count_dieWrites (L : Lane) (a lo w : Nat) : (L.count a lo w).dieWrites = L.dieWrites := rfl
@[simp] theorem Lane.count_pdQ (L : Lane) (a lo w : Nat) : (L.count a lo w).pdQ = L.pdQ := rfl
@[simp] theorem Lane.count_railSent (L : Lane) (a lo w : Nat) : (L.count a lo w).railSent = L.railSent := rfl
@[simp] theorem Lane.count_icu (L : Lane) (a lo w : Nat) : (L.count a lo w).icu = L.icu := rfl
@[simp] theorem Lane.count_acq (L : Lane) (a lo w : Nat) : (L.count a lo w).acq = L.acq := rfl
@[simp] theorem Lane.count_dma (L : Lane) (a lo w : Nat) : (L.count a lo w).dma = L.dma := rfl
@[simp] theorem Lane.count_dmaTurn (L : Lane) (a lo w : Nat) : (L.count a lo w).dmaTurn = L.dmaTurn := rfl
@[simp] theorem Lane.count_byw (L : Lane) (a lo w : Nat) : (L.count a lo w).byw = L.byw := rfl
@[simp] theorem Lane.count_pins (L : Lane) (a lo w : Nat) : (L.count a lo w).pins = L.pins := rfl
@[simp] theorem Lane.count_rises (L : Lane) (a lo w : Nat) : (L.count a lo w).rises = L.rises := rfl
@[simp] theorem Lane.count_falls (L : Lane) (a lo w : Nat) : (L.count a lo w).falls = L.falls := rfl
@[simp] theorem Lane.count_twi (L : Lane) (a lo w : Nat) : (L.count a lo w).twi = L.twi := rfl
@[simp] theorem Lane.count_store (L : Lane) (a lo w : Nat) : (L.count a lo w).store = L.store := rfl
@[simp] theorem Lane.count_mon (L : Lane) (a lo w : Nat) : (L.count a lo w).mon = L.mon := rfl
@[simp] theorem Lane.count_power (L : Lane) (a lo w : Nat) : (L.count a lo w).power = L.power := rfl
@[simp] theorem Lane.count_bistDone (L : Lane) (a lo w : Nat) : (L.count a lo w).bistDone = L.bistDone := rfl
@[simp] theorem Lane.count_bistAt (L : Lane) (a lo w : Nat) : (L.count a lo w).bistAt = L.bistAt := rfl
@[simp] theorem Lane.count_fltQ (L : Lane) (a lo w : Nat) : (L.count a lo w).fltQ = L.fltQ := rfl
@[simp] theorem Lane.count_fltHeld (L : Lane) (a lo w : Nat) : (L.count a lo w).fltHeld = L.fltHeld := rfl

/-! ### Lane.event -/

@[simp] theorem Lane.event_run (L : Lane) (a i : Nat) : (L.event a i).run = L.run := rfl
@[simp] theorem Lane.event_time (L : Lane) (a i : Nat) : (L.event a i).time = L.time := rfl
@[simp] theorem Lane.event_locked (L : Lane) (a i : Nat) : (L.event a i).locked = L.locked := rfl
@[simp] theorem Lane.event_fresh (L : Lane) (a i : Nat) : (L.event a i).fresh = (a, BitVec.ofNat 32 (2 ^ i)) :: L.fresh :=
  rfl
@[simp] theorem Lane.event_odo (L : Lane) (a i : Nat) : (L.event a i).odo = L.odo := rfl
@[simp] theorem Lane.event_sched (L : Lane) (a i : Nat) : (L.event a i).sched = L.sched := rfl
@[simp] theorem Lane.event_mem (L : Lane) (a i : Nat) : (L.event a i).mem = L.mem := rfl
@[simp] theorem Lane.event_ready (L : Lane) (a i : Nat) : (L.event a i).ready = L.ready := rfl
@[simp] theorem Lane.event_silenced (L : Lane) (a i : Nat) : (L.event a i).silenced = L.silenced := rfl
@[simp] theorem Lane.event_standby (L : Lane) (a i : Nat) : (L.event a i).standby = L.standby := rfl
@[simp] theorem Lane.event_triples (L : Lane) (a i : Nat) : (L.event a i).triples = L.triples := rfl
@[simp] theorem Lane.event_tripleBad (L : Lane) (a i : Nat) : (L.event a i).tripleBad = L.tripleBad := rfl
@[simp] theorem Lane.event_safeW (L : Lane) (a i : Nat) : (L.event a i).safeW = L.safeW := rfl
@[simp] theorem Lane.event_trim (L : Lane) (a i : Nat) : (L.event a i).trim = L.trim := rfl
@[simp] theorem Lane.event_sdTrim (L : Lane) (a i : Nat) : (L.event a i).sdTrim = L.sdTrim := rfl
@[simp] theorem Lane.event_reported (L : Lane) (a i : Nat) : (L.event a i).reported = L.reported := rfl
@[simp] theorem Lane.event_xwk (L : Lane) (a i : Nat) : (L.event a i).xwk = L.xwk := rfl
@[simp] theorem Lane.event_cuts (L : Lane) (a i : Nat) : (L.event a i).cuts = L.cuts := rfl
@[simp] theorem Lane.event_cutWait (L : Lane) (a i : Nat) : (L.event a i).cutWait = L.cutWait := rfl
@[simp] theorem Lane.event_estOld (L : Lane) (a i : Nat) : (L.event a i).estOld = L.estOld := rfl
@[simp] theorem Lane.event_imemOld (L : Lane) (a i : Nat) : (L.event a i).imemOld = L.imemOld := rfl
@[simp] theorem Lane.event_pinOwn (L : Lane) (a i : Nat) : (L.event a i).pinOwn = L.pinOwn := rfl
@[simp] theorem Lane.event_flagWas (L : Lane) (a i : Nat) : (L.event a i).flagWas = L.flagWas := rfl
@[simp] theorem Lane.event_landingQ (L : Lane) (a i : Nat) : (L.event a i).landingQ = L.landingQ := rfl
@[simp] theorem Lane.event_chargeQ (L : Lane) (a i : Nat) : (L.event a i).chargeQ = L.chargeQ := rfl
@[simp] theorem Lane.event_viewAt (L : Lane) (a i : Nat) : (L.event a i).viewAt = L.viewAt := rfl
@[simp] theorem Lane.event_dieWrites (L : Lane) (a i : Nat) : (L.event a i).dieWrites = L.dieWrites := rfl
@[simp] theorem Lane.event_pdQ (L : Lane) (a i : Nat) : (L.event a i).pdQ = L.pdQ := rfl
@[simp] theorem Lane.event_railSent (L : Lane) (a i : Nat) : (L.event a i).railSent = L.railSent := rfl
@[simp] theorem Lane.event_icu (L : Lane) (a i : Nat) : (L.event a i).icu = L.icu := rfl
@[simp] theorem Lane.event_acq (L : Lane) (a i : Nat) : (L.event a i).acq = L.acq := rfl
@[simp] theorem Lane.event_dma (L : Lane) (a i : Nat) : (L.event a i).dma = L.dma := rfl
@[simp] theorem Lane.event_dmaTurn (L : Lane) (a i : Nat) : (L.event a i).dmaTurn = L.dmaTurn := rfl
@[simp] theorem Lane.event_byw (L : Lane) (a i : Nat) : (L.event a i).byw = L.byw := rfl
@[simp] theorem Lane.event_pins (L : Lane) (a i : Nat) : (L.event a i).pins = L.pins := rfl
@[simp] theorem Lane.event_rises (L : Lane) (a i : Nat) : (L.event a i).rises = L.rises := rfl
@[simp] theorem Lane.event_falls (L : Lane) (a i : Nat) : (L.event a i).falls = L.falls := rfl
@[simp] theorem Lane.event_twi (L : Lane) (a i : Nat) : (L.event a i).twi = L.twi := rfl
@[simp] theorem Lane.event_store (L : Lane) (a i : Nat) : (L.event a i).store = L.store := rfl
@[simp] theorem Lane.event_mon (L : Lane) (a i : Nat) : (L.event a i).mon = L.mon := rfl
@[simp] theorem Lane.event_power (L : Lane) (a i : Nat) : (L.event a i).power = L.power := rfl
@[simp] theorem Lane.event_bistDone (L : Lane) (a i : Nat) : (L.event a i).bistDone = L.bistDone := rfl
@[simp] theorem Lane.event_bistAt (L : Lane) (a i : Nat) : (L.event a i).bistAt = L.bistAt := rfl
@[simp] theorem Lane.event_fltQ (L : Lane) (a i : Nat) : (L.event a i).fltQ = L.fltQ := rfl
@[simp] theorem Lane.event_fltHeld (L : Lane) (a i : Nat) : (L.event a i).fltHeld = L.fltHeld := rfl

end Sys2Proof.Machine
end

