-- ==== Sys2Proof/Laws/Ops.lean ====
section
/-! SUPPORT. Laws of the register file and of the shared operations on registers: a read after a write, the canonical
form, bit fields, event bits, counters, raised faults. -/

namespace Sys2Proof.Machine

/-! ### Register file -/

theorem lookup_cons_if {α : Type} (c : Nat) (w : α) (r : List (Nat × α)) (b : Nat) :
    ((c, w) :: r).lookup b = if b = c then some w else r.lookup b := by
  by_cases h : b = c
  · simp [h]
  · have hb : (b == c) = false := by simpa using h
    simp [List.lookup_cons, h, hb]

theorem RegFile.lookup_insert (f : RegFile) (a b : Nat) (v : BitVec 32) :
    (RegFile.insert a v f).lookup b = if b = a then some v else f.lookup b := by
  induction f with
  | nil => simp [RegFile.insert, lookup_cons_if]
  | cons e r ih =>
    obtain ⟨c, w⟩ := e
    simp only [RegFile.insert]
    split
    · rw [lookup_cons_if]
    · split
      · subst_vars; rw [lookup_cons_if, lookup_cons_if]; split <;> rfl
      · rw [lookup_cons_if, lookup_cons_if, ih]
        split
        · subst_vars; rw [if_neg (by omega)]
        · rfl

theorem lookup_filter_ne {α : Type} (f : List (Nat × α)) (a b : Nat) :
    (f.filter (fun e => e.1 != a)).lookup b = if b = a then none else f.lookup b := by
  induction f with
  | nil => simp
  | cons e r ih =>
    obtain ⟨c, w⟩ := e
    by_cases hc : c = a
    · subst hc
      rw [List.filter_cons_of_neg (by simp), ih, lookup_cons_if]
      split <;> rfl
    · rw [List.filter_cons_of_pos (by simpa using hc), lookup_cons_if, lookup_cons_if, ih]
      split
      · subst_vars; rw [if_neg hc]
      · rfl

/-- A register reads as it was written last, and a write leaves every other register alone. -/
theorem RegFile.get_set (f : RegFile) (a b : Nat) (v : BitVec 32) : (f.set a v).get b = if b = a then v else f.get b := by
  unfold RegFile.get RegFile.set
  split
  · rename_i h; rw [lookup_filter_ne]; split
    · subst_vars; rfl
    · rfl
  · rw [RegFile.lookup_insert]; split <;> rfl

/-- The canonical form as two facts about the list. -/
theorem RegFile.wf_iff (f : RegFile) :
    f.wf = true ↔ f.Pairwise (fun x y => x.1 < y.1) ∧ ∀ e ∈ f, e.2 ≠ regReset e.1 := by
  induction f with
  | nil => simp [RegFile.wf]
  | cons e r ih =>
    obtain ⟨a, v⟩ := e
    cases r with
    | nil => simp [RegFile.wf]
    | cons g r =>
      obtain ⟨b, w⟩ := g
      simp only [RegFile.wf, Bool.and_eq_true, bne_iff_ne, ne_eq, decide_eq_true_eq, ih]
      constructor
      · rintro ⟨⟨h1, h2⟩, h3, h4⟩
        refine ⟨List.pairwise_cons.2 ⟨?_, h3⟩, ?_⟩
        · intro x hx
          rcases List.mem_cons.1 hx with rfl | hx
          · exact h2
          · exact Nat.lt_trans h2 ((List.pairwise_cons.1 h3).1 x hx)
        · intro x hx
          rcases List.mem_cons.1 hx with rfl | hx
          · exact h1
          · exact h4 x hx
      · rintro ⟨h1, h2⟩
        have h1' := List.pairwise_cons.1 h1
        exact ⟨⟨h2 _ (List.mem_cons_self ..), h1'.1 _ (List.mem_cons_self ..)⟩, h1'.2,
          fun x hx => h2 x (List.mem_cons_of_mem _ hx)⟩

theorem RegFile.mem_insert {f : RegFile} {a : Nat} {v : BitVec 32} {e : Nat × BitVec 32} (h : e ∈ RegFile.insert a v f) :
    e = (a, v) ∨ e ∈ f := by
  induction f with
  | nil => simpa [RegFile.insert] using h
  | cons g r ih =>
    obtain ⟨b, w⟩ := g
    simp only [RegFile.insert] at h
    split at h
    · simpa using h
    · split at h
      · rcases List.mem_cons.1 h with h | h
        · exact .inl h
        · exact .inr (List.mem_cons_of_mem _ h)
      · rcases List.mem_cons.1 h with h | h
        · exact .inr (h ▸ List.mem_cons_self ..)
        · exact (ih h).imp id (List.mem_cons_of_mem _)

theorem RegFile.pairwise_insert {f : RegFile} (a : Nat) (v : BitVec 32) (h : f.Pairwise (fun x y => x.1 < y.1)) :
    (RegFile.insert a v f).Pairwise (fun x y => x.1 < y.1) := by
  induction f with
  | nil => simp [RegFile.insert]
  | cons g r ih =>
    obtain ⟨b, w⟩ := g
    have h' := List.pairwise_cons.1 h
    simp only [RegFile.insert]
    split
    · rename_i hab
      refine List.pairwise_cons.2 ⟨fun x hx => ?_, h⟩
      rcases List.mem_cons.1 hx with rfl | hx
      · exact hab
      · exact Nat.lt_trans hab (h'.1 x hx)
    · split
      · subst_vars; exact List.pairwise_cons.2 ⟨h'.1, h'.2⟩
      · refine List.pairwise_cons.2 ⟨fun x hx => ?_, ih h'.2⟩
        rcases RegFile.mem_insert hx with rfl | hx
        · simp only; omega
        · exact h'.1 x hx

/-- A write keeps the canonical form. -/
theorem RegFile.set_wf {f : RegFile} (a : Nat) (v : BitVec 32) (h : f.wf = true) : (f.set a v).wf = true := by
  rw [RegFile.wf_iff] at h ⊢
  unfold RegFile.set
  split
  · exact ⟨h.1.filter _, fun e he => h.2 e (List.mem_filter.1 he).1⟩
  · rename_i hv
    refine ⟨RegFile.pairwise_insert a v h.1, fun e he => ?_⟩
    rcases RegFile.mem_insert he with rfl | he
    · exact hv
    · exact h.2 e he

/-- Taking entries out keeps the canonical form. -/
theorem RegFile.filter_wf {f : RegFile} (p : Nat × BitVec 32 → Bool) (h : f.wf = true) : RegFile.wf (f.filter p) = true := by
  rw [RegFile.wf_iff] at h ⊢
  exact ⟨h.1.filter _, fun e he => h.2 e (List.mem_filter.1 he).1⟩

/-! ### Registers of a lane -/

@[simp] theorem Lane.reg_setReg (L : Lane) (a b : Nat) (v : Word) : (L.setReg a v).reg b = if b = a then v else L.reg b :=
  RegFile.get_set _ _ _ _

@[simp] theorem Lane.reg_setFld (L : Lane) (a lo w x b : Nat) :
    (L.setFld a lo w x).reg b = if b = a then setBits (L.reg a) lo w x else L.reg b :=
  Lane.reg_setReg _ _ _ _

@[simp] theorem Lane.reg_event (L : Lane) (a i b : Nat) :
    (L.event a i).reg b = if b = a then setBits (L.reg a) i 1 1 else L.reg b :=
  Lane.reg_setReg _ _ _ _

@[simp] theorem Lane.reg_count (L : Lane) (a lo w b : Nat) :
    (L.count a lo w).reg b = if b = a then setBits (L.reg a) lo w (min (L.fld a lo w + 1) (2 ^ w - 1)) else L.reg b :=
  Lane.reg_setReg _ _ _ _

theorem Lane.regs_wf_setReg {L : Lane} (a : Nat) (v : Word) (h : RegFile.wf L.regs = true) :
    RegFile.wf (L.setReg a v).regs = true :=
  RegFile.set_wf a v h

theorem Lane.regs_wf_resetRange {L : Lane} (lo hi : Nat) (h : RegFile.wf L.regs = true) :
    RegFile.wf (L.resetRange lo hi).regs = true :=
  RegFile.filter_wf _ h

/-- Each bit of a word after a field of it is replaced. -/
theorem setBits_getLsbD (v : BitVec 32) (lo w x i : Nat) (h : lo + w ≤ 32) (hi : i < 32) :
    (setBits v lo w x).getLsbD i = if lo ≤ i ∧ i < lo + w then x.testBit (i - lo) else v.getLsbD i := by
  simp only [setBits, BitVec.getLsbD_or, BitVec.getLsbD_and, BitVec.getLsbD_not, BitVec.getLsbD_shiftLeft,
    BitVec.getLsbD_ofNat, Nat.testBit_shiftLeft, Nat.testBit_two_pow_sub_one, Nat.testBit_mod_two_pow, hi,
    decide_true, Bool.true_and]
  by_cases h1 : lo ≤ i
  · by_cases h2 : i < lo + w
    · have h3 : i - lo < w := by omega
      have h4 : i - lo < 32 := by omega
      have h5 : ¬ i < lo := by omega
      simp [h1, h2, h3, h4, h5]
    · have h3 : ¬ i - lo < w := by omega
      simp [h1, h2, h3]
  · have h5 : i < lo := by omega
    simp [h1, h5]

/-- An event bit that is raised reads 1. -/
theorem Lane.bit_event (L : Lane) (a i : Nat) (hi : i < 32) : (L.event a i).bit a i = true := by
  simp only [Lane.bit, Lane.reg_event, if_true]
  rw [setBits_getLsbD _ _ _ _ _ (by omega) hi]
  simp

/-- Raising an event bit leaves every other bit of every register. -/
theorem Lane.bit_event_other (L : Lane) (a b i j : Nat) (hi : i < 32) (hj : j < 32) (h : b ≠ a ∨ j ≠ i) :
    (L.event a i).bit b j = L.bit b j := by
  simp only [Lane.bit, Lane.reg_event]
  split
  · subst_vars
    rw [setBits_getLsbD _ _ _ _ _ (by omega) hj, if_neg (by rcases h with h | h <;> omega)]
  · rfl

/-! ### Vectors -/

theorem vget_vmod {α : Type} {n : Nat} (v : Vector α n) (i j : Nat) (f : α → α) (d : α) (hi : i < n) :
    vget (vmod v i f) j d = if j = i then f (vget v i d) else vget v j d := by
  unfold vget vmod Vector.getD
  rw [dif_pos hi]
  by_cases h : j = i
  · subst h; simp [hi]
  · by_cases hj : j < n <;> simp [h, hj, Ne.symm h]

theorem vmod_out {α : Type} {n : Nat} (v : Vector α n) (i : Nat) (f : α → α) (hi : n ≤ i) : vmod v i f = v := by
  unfold vmod; rw [dif_neg (by omega)]

/-! ### Faults raised -/

/-- A raised fault is queued, counted as lost, or held by its source (R258): nothing else changes. -/
theorem Lane.queueFault_cases (L : Lane) (m : FaultMsg) :
    (L.fltQ.length < 32 ∧ L.queueFault m = { L with fltQ := L.fltQ ++ [m] })
      ∨ (32 ≤ L.fltQ.length ∧ m.cls = 0 ∧ L.queueFault m = L.count Reg.fltLost 0 16)
      ∨ (32 ≤ L.fltQ.length ∧ m.cls ≠ 0 ∧ L.queueFault m = { L with fltHeld := L.fltHeld ++ [m] }) := by
  unfold Lane.queueFault
  split
  · exact .inl ⟨‹_›, rfl⟩
  · split
    · exact .inr (.inl ⟨by omega, ‹_›, rfl⟩)
    · exact .inr (.inr ⟨by omega, ‹_›, rfl⟩)

end Sys2Proof.Machine
end

