-- ==== Sys2Proof/Laws/Settle.lean ====
section
/-! SUPPORT. What follows every command (State.settle): it changes own claim codes, frames under way, sent lines, comparison
counts and the Junction's samples, and nothing else. -/

namespace Sys2Proof.Machine

theorem vget_vmod_self {α : Type} {n : Nat} (v : Vector α n) (i : Nat) (f : α → α) (d : α) (hi : i < n) :
    vget (vmod v i f) i d = f (vget v i d) := by simp [vget_vmod _ _ _ _ _ hi]

theorem vmod_const_twice {α : Type} {n : Nat} (v : Vector α n) (i : Nat) (x y : α) :
    vmod (vmod v i fun _ => x) i (fun _ => y) = vmod v i fun _ => y := by
  unfold vmod
  split <;> simp

theorem votedOfCode_code (v : Voted) (c : Nat) : votedOfCode (votedCode v + 4 * c) = v := by
  cases v <;> simp [votedOfCode, votedCode, Nat.add_mul_mod_self_left]

/-- A lane's view once item 2 is loaded (R289). -/
theorem Lane.view_setView (L : Lane) (v : Voted) (c : Nat) : (L.setView v c).view = v := by
  have h : votedCode v + 4 * (c % 4) < 2 ^ 288 := by
    refine Nat.lt_of_lt_of_le (?_ : _ < 2 ^ 4) (Nat.pow_le_pow_right (by decide) (by decide))
    have := Nat.mod_lt c (show 0 < 4 by decide)
    cases v <;> simp only [votedCode] <;> omega
  simp only [Lane.view, Lane.item, Lane.setView, Lane.loadTriple, vget_vmod_self _ _ _ _ (show 2 < 4 by decide), Triple.vote,
    Triple.same, vote3, if_true, Option.getD_some, BitVec.toNat_ofNat, Nat.mod_eq_of_lt h, votedOfCode_code]

theorem Lane.setView_blank (L : Lane) (c : Nat) : (L.setView L.view c).blank = L.blank := by
  have h := L.view_setView L.view c
  have h2 : ∀ (w : BitVec 4), putBit (putBit w 2 false) 2 false = putBit w 2 false := by decide
  unfold Lane.blank
  rw [h]
  simp only [Lane.setView, Lane.loadTriple, vmod_const_twice, h2]

@[simp] theorem Lane.blank_view (L : Lane) : L.blank.view = L.view := by
  have h : votedCode L.view < 2 ^ 288 :=
    Nat.lt_of_lt_of_le (by cases L.view <;> decide : _ < 2 ^ 4) (Nat.pow_le_pow_right (by decide) (by decide))
  simp only [Lane.view, Lane.item, Lane.blank, vget_vmod_self _ _ _ _ (show 2 < 4 by decide), Triple.vote, Triple.same, vote3,
    if_true, Option.getD_some, BitVec.toNat_ofNat] at h ⊢
  rw [Nat.mod_eq_of_lt h]
  exact votedOfCode_code _ 0

theorem Lane.sendLines_blank (L : Lane) (l : LaneId) (up again : Bool) : (L.sendLines l up again).blank = L.blank := by
  have h : ∀ (L : Lane) (i : Nat), (let on := L.tgtLine (remoteTarget l i)
      if on = L.icu.sent.getLsbD i && !again then L
      else { L.icuUpd fun c => { c with sent := putBit c.sent i on } with
        xwk := { L.xwk with tx := L.xwk.tx ++ [XMsg.line (remoteTarget l i) on] } }).blank = L.blank := by
    intro L i; dsimp only; split <;> rfl
  unfold Lane.sendLines
  split
  · rfl
  · simp only [List.foldl]
    exact (h _ 1).trans (h L 0)

theorem State.blank_upd (s : State) (l : LaneId) (f : Lane → Lane) (h : (f (s.lane l)).blank = (s.lane l).blank) :
    (s.upd l f).blank = s.blank := by
  cases l <;> simp_all [State.blank, State.upd, State.setLane, State.lane]

theorem State.claimUpdate_blank (s : State) (l : LaneId) : (s.claimUpdate l).blank = s.blank := by
  unfold State.claimUpdate
  refine State.blank_upd _ _ _ ?_
  split
  · exact Lane.setView_blank _ _
  · rfl

theorem State.flushXwk_blank (s : State) (l : LaneId) : (s.flushXwk l).blank = s.blank := by
  unfold State.flushXwk
  split
  · rfl
  · extract_lets out idle t
    have h : t.blank = s.blank := State.blank_upd _ _ _ rfl
    clear_value t
    split
    · exact h
    · rw [State.blank_upd]
      · exact h
      · split <;> rfl

theorem State.cmpUpdate_blank (s : State) : s.cmpUpdate.blank = s.blank := by
  unfold State.cmpUpdate
  dsimp only
  split
  · simp only [State.blank, Lane.blank, Lane.schedUpd, Vector.map_map]; rfl
  · split <;> rfl

theorem State.eligUpdate_blank (s : State) : s.eligUpdate.blank = s.blank := rfl

/-- Nothing but the hidden fields changes after a command's own effect. -/
theorem State.settle_blank (s : State) : s.settle.blank = s.blank := by
  unfold State.settle
  dsimp only
  rw [State.eligUpdate_blank, State.cmpUpdate_blank, State.flushXwk_blank, State.flushXwk_blank, State.blank_upd,
    State.blank_upd, State.claimUpdate_blank, State.claimUpdate_blank]
  · split
    · exact Lane.sendLines_blank _ _ _ _
    · rfl
  · split
    · exact Lane.sendLines_blank _ _ _ _
    · rfl

/-! ### Field by field -/

@[simp] theorem State.lane_blank (s : State) (l : LaneId) : s.blank.lane l = (s.lane l).blank := by cases l <;> rfl

theorem State.settle_lane_blank (s : State) (l : LaneId) : (s.settle.lane l).blank = (s.lane l).blank := by
  rw [← State.lane_blank, State.settle_blank, State.lane_blank]

@[simp] theorem State.settle_now (s : State) : s.settle.now = s.now := (congrArg State.now s.settle_blank :)
@[simp] theorem State.settle_variantS (s : State) : s.settle.variantS = s.variantS := (congrArg State.variantS s.settle_blank :)
@[simp] theorem State.settle_chans (s : State) : s.settle.chans = s.chans := (congrArg State.chans s.settle_blank :)
@[simp] theorem State.settle_quads (s : State) : s.settle.quads = s.quads := (congrArg State.quads s.settle_blank :)
@[simp] theorem State.settle_gates (s : State) : s.settle.gates = s.gates := (congrArg State.gates s.settle_blank :)
@[simp] theorem State.settle_rails (s : State) : s.settle.rails = s.rails := (congrArg State.rails s.settle_blank :)
@[simp] theorem State.settle_dies (s : State) : s.settle.dies = s.dies := (congrArg State.dies s.settle_blank :)
@[simp] theorem State.settle_vsupLow (s : State) : s.settle.vsupLow = s.vsupLow := (congrArg State.vsupLow s.settle_blank :)
@[simp] theorem State.settle_sups (s : State) : s.settle.sups = s.sups := (congrArg State.sups s.settle_blank :)
@[simp] theorem State.settle_ports (s : State) : s.settle.ports = s.ports := (congrArg State.ports s.settle_blank :)
@[simp] theorem State.settle_pref (s : State) : s.settle.pref = s.pref := (congrArg State.pref s.settle_blank :)
@[simp] theorem State.settle_link (s : State) : s.settle.link = s.link := (congrArg State.link s.settle_blank :)
@[simp] theorem State.settle_mirror (s : State) : s.settle.mirror = s.mirror := (congrArg State.mirror s.settle_blank :)
@[simp] theorem State.settle_freeCount (s : State) : s.settle.freeCount = s.freeCount := (congrArg State.freeCount s.settle_blank :)
@[simp] theorem State.settle_pending (s : State) : s.settle.pending = s.pending := (congrArg State.pending s.settle_blank :)
@[simp] theorem State.settle_lane_run (s : State) (l : LaneId) : (s.settle.lane l).run = (s.lane l).run :=
  (congrArg Lane.run (s.settle_lane_blank l) :)
@[simp] theorem State.settle_lane_time (s : State) (l : LaneId) : (s.settle.lane l).time = (s.lane l).time :=
  (congrArg Lane.time (s.settle_lane_blank l) :)
@[simp] theorem State.settle_lane_regs (s : State) (l : LaneId) : (s.settle.lane l).regs = (s.lane l).regs :=
  (congrArg Lane.regs (s.settle_lane_blank l) :)
@[simp] theorem State.settle_lane_locked (s : State) (l : LaneId) : (s.settle.lane l).locked = (s.lane l).locked :=
  (congrArg Lane.locked (s.settle_lane_blank l) :)
@[simp] theorem State.settle_lane_fresh (s : State) (l : LaneId) : (s.settle.lane l).fresh = (s.lane l).fresh :=
  (congrArg Lane.fresh (s.settle_lane_blank l) :)
@[simp] theorem State.settle_lane_odo (s : State) (l : LaneId) : (s.settle.lane l).odo = (s.lane l).odo :=
  (congrArg Lane.odo (s.settle_lane_blank l) :)
@[simp] theorem State.settle_lane_mem (s : State) (l : LaneId) : (s.settle.lane l).mem = (s.lane l).mem :=
  (congrArg Lane.mem (s.settle_lane_blank l) :)
@[simp] theorem State.settle_lane_ready (s : State) (l : LaneId) : (s.settle.lane l).ready = (s.lane l).ready :=
  (congrArg Lane.ready (s.settle_lane_blank l) :)
@[simp] theorem State.settle_lane_silenced (s : State) (l : LaneId) : (s.settle.lane l).silenced = (s.lane l).silenced :=
  (congrArg Lane.silenced (s.settle_lane_blank l) :)
@[simp] theorem State.settle_lane_standby (s : State) (l : LaneId) : (s.settle.lane l).standby = (s.lane l).standby :=
  (congrArg Lane.standby (s.settle_lane_blank l) :)
@[simp] theorem State.settle_lane_view (s : State) (l : LaneId) : (s.settle.lane l).view = (s.lane l).view :=
  by rw [← Lane.blank_view, State.settle_lane_blank, Lane.blank_view]
@[simp] theorem State.settle_lane_safeW (s : State) (l : LaneId) : (s.settle.lane l).safeW = (s.lane l).safeW :=
  (congrArg Lane.safeW (s.settle_lane_blank l) :)
@[simp] theorem State.settle_lane_reported (s : State) (l : LaneId) : (s.settle.lane l).reported = (s.lane l).reported :=
  (congrArg Lane.reported (s.settle_lane_blank l) :)
@[simp] theorem State.settle_lane_cuts (s : State) (l : LaneId) : (s.settle.lane l).cuts = (s.lane l).cuts :=
  (congrArg Lane.cuts (s.settle_lane_blank l) :)
@[simp] theorem State.settle_lane_cutWait (s : State) (l : LaneId) : (s.settle.lane l).cutWait = (s.lane l).cutWait :=
  (congrArg Lane.cutWait (s.settle_lane_blank l) :)
@[simp] theorem State.settle_lane_estOld (s : State) (l : LaneId) : (s.settle.lane l).estOld = (s.lane l).estOld :=
  (congrArg Lane.estOld (s.settle_lane_blank l) :)
@[simp] theorem State.settle_lane_imemOld (s : State) (l : LaneId) : (s.settle.lane l).imemOld = (s.lane l).imemOld :=
  (congrArg Lane.imemOld (s.settle_lane_blank l) :)
@[simp] theorem State.settle_lane_landingQ (s : State) (l : LaneId) : (s.settle.lane l).landingQ = (s.lane l).landingQ :=
  (congrArg Lane.landingQ (s.settle_lane_blank l) :)
@[simp] theorem State.settle_lane_chargeQ (s : State) (l : LaneId) : (s.settle.lane l).chargeQ = (s.lane l).chargeQ :=
  (congrArg Lane.chargeQ (s.settle_lane_blank l) :)
@[simp] theorem State.settle_lane_dieWrites (s : State) (l : LaneId) : (s.settle.lane l).dieWrites = (s.lane l).dieWrites :=
  (congrArg Lane.dieWrites (s.settle_lane_blank l) :)
@[simp] theorem State.settle_lane_pdQ (s : State) (l : LaneId) : (s.settle.lane l).pdQ = (s.lane l).pdQ :=
  (congrArg Lane.pdQ (s.settle_lane_blank l) :)
@[simp] theorem State.settle_lane_railSent (s : State) (l : LaneId) : (s.settle.lane l).railSent = (s.lane l).railSent :=
  (congrArg Lane.railSent (s.settle_lane_blank l) :)
@[simp] theorem State.settle_lane_acq (s : State) (l : LaneId) : (s.settle.lane l).acq = (s.lane l).acq :=
  (congrArg Lane.acq (s.settle_lane_blank l) :)
@[simp] theorem State.settle_lane_dma (s : State) (l : LaneId) : (s.settle.lane l).dma = (s.lane l).dma :=
  (congrArg Lane.dma (s.settle_lane_blank l) :)
@[simp] theorem State.settle_lane_byw (s : State) (l : LaneId) : (s.settle.lane l).byw = (s.lane l).byw :=
  (congrArg Lane.byw (s.settle_lane_blank l) :)
@[simp] theorem State.settle_lane_pins (s : State) (l : LaneId) : (s.settle.lane l).pins = (s.lane l).pins :=
  (congrArg Lane.pins (s.settle_lane_blank l) :)
@[simp] theorem State.settle_lane_rises (s : State) (l : LaneId) : (s.settle.lane l).rises = (s.lane l).rises :=
  (congrArg Lane.rises (s.settle_lane_blank l) :)
@[simp] theorem State.settle_lane_falls (s : State) (l : LaneId) : (s.settle.lane l).falls = (s.lane l).falls :=
  (congrArg Lane.falls (s.settle_lane_blank l) :)
@[simp] theorem State.settle_lane_twi (s : State) (l : LaneId) : (s.settle.lane l).twi = (s.lane l).twi :=
  (congrArg Lane.twi (s.settle_lane_blank l) :)
@[simp] theorem State.settle_lane_store (s : State) (l : LaneId) : (s.settle.lane l).store = (s.lane l).store :=
  (congrArg Lane.store (s.settle_lane_blank l) :)
@[simp] theorem State.settle_lane_mon (s : State) (l : LaneId) : (s.settle.lane l).mon = (s.lane l).mon :=
  (congrArg Lane.mon (s.settle_lane_blank l) :)
@[simp] theorem State.settle_lane_power (s : State) (l : LaneId) : (s.settle.lane l).power = (s.lane l).power :=
  (congrArg Lane.power (s.settle_lane_blank l) :)
@[simp] theorem State.settle_lane_bistDone (s : State) (l : LaneId) : (s.settle.lane l).bistDone = (s.lane l).bistDone :=
  (congrArg Lane.bistDone (s.settle_lane_blank l) :)
@[simp] theorem State.settle_lane_bistAt (s : State) (l : LaneId) : (s.settle.lane l).bistAt = (s.lane l).bistAt :=
  (congrArg Lane.bistAt (s.settle_lane_blank l) :)
@[simp] theorem State.settle_lane_fltQ (s : State) (l : LaneId) : (s.settle.lane l).fltQ = (s.lane l).fltQ :=
  (congrArg Lane.fltQ (s.settle_lane_blank l) :)
@[simp] theorem State.settle_lane_fltHeld (s : State) (l : LaneId) : (s.settle.lane l).fltHeld = (s.lane l).fltHeld :=
  (congrArg Lane.fltHeld (s.settle_lane_blank l) :)
@[simp] theorem State.settle_lane_xwk_missed (s : State) (l : LaneId) : (s.settle.lane l).xwk.missed = (s.lane l).xwk.missed :=
  (congrArg (fun L => L.xwk.missed) (s.settle_lane_blank l) :)
@[simp] theorem State.settle_lane_xwk_good (s : State) (l : LaneId) : (s.settle.lane l).xwk.good = (s.lane l).xwk.good :=
  (congrArg (fun L => L.xwk.good) (s.settle_lane_blank l) :)
@[simp] theorem State.settle_lane_xwk_slotAt (s : State) (l : LaneId) : (s.settle.lane l).xwk.slotAt = (s.lane l).xwk.slotAt :=
  (congrArg (fun L => L.xwk.slotAt) (s.settle_lane_blank l) :)
@[simp] theorem State.settle_lane_xwk_hb (s : State) (l : LaneId) : (s.settle.lane l).xwk.hb = (s.lane l).xwk.hb :=
  (congrArg (fun L => L.xwk.hb) (s.settle_lane_blank l) :)
@[simp] theorem State.settle_lane_xwk_unacked (s : State) (l : LaneId) : (s.settle.lane l).xwk.unacked = (s.lane l).xwk.unacked :=
  (congrArg (fun L => L.xwk.unacked) (s.settle_lane_blank l) :)
@[simp] theorem State.settle_lane_xwk_nextNum (s : State) (l : LaneId) : (s.settle.lane l).xwk.nextNum = (s.lane l).xwk.nextNum :=
  (congrArg (fun L => L.xwk.nextNum) (s.settle_lane_blank l) :)
@[simp] theorem State.settle_lane_xwk_retries (s : State) (l : LaneId) : (s.settle.lane l).xwk.retries = (s.lane l).xwk.retries :=
  (congrArg (fun L => L.xwk.retries) (s.settle_lane_blank l) :)
@[simp] theorem State.settle_lane_xwk_sentAt (s : State) (l : LaneId) : (s.settle.lane l).xwk.sentAt = (s.lane l).xwk.sentAt :=
  (congrArg (fun L => L.xwk.sentAt) (s.settle_lane_blank l) :)
@[simp] theorem State.settle_lane_xwk_copyNext (s : State) (l : LaneId) : (s.settle.lane l).xwk.copyNext = (s.lane l).xwk.copyNext :=
  (congrArg (fun L => L.xwk.copyNext) (s.settle_lane_blank l) :)
@[simp] theorem State.settle_lane_xwk_progress (s : State) (l : LaneId) : (s.settle.lane l).xwk.progress = (s.lane l).xwk.progress :=
  (congrArg (fun L => L.xwk.progress) (s.settle_lane_blank l) :)
@[simp] theorem State.settle_lane_xwk_exchanged (s : State) (l : LaneId) : (s.settle.lane l).xwk.exchanged = (s.lane l).xwk.exchanged :=
  (congrArg (fun L => L.xwk.exchanged) (s.settle_lane_blank l) :)
@[simp] theorem State.settle_lane_xwk_alone (s : State) (l : LaneId) : (s.settle.lane l).xwk.alone = (s.lane l).xwk.alone :=
  (congrArg (fun L => L.xwk.alone) (s.settle_lane_blank l) :)
@[simp] theorem State.settle_lane_xwk_digestIn (s : State) (l : LaneId) : (s.settle.lane l).xwk.digestIn = (s.lane l).xwk.digestIn :=
  (congrArg (fun L => L.xwk.digestIn) (s.settle_lane_blank l) :)
@[simp] theorem State.settle_lane_icu_pend (s : State) (l : LaneId) : (s.settle.lane l).icu.pend = (s.lane l).icu.pend :=
  (congrArg (fun L => L.icu.pend) (s.settle_lane_blank l) :)
@[simp] theorem State.settle_lane_icu_last (s : State) (l : LaneId) : (s.settle.lane l).icu.last = (s.lane l).icu.last :=
  (congrArg (fun L => L.icu.last) (s.settle_lane_blank l) :)
@[simp] theorem State.settle_lane_icu_recs (s : State) (l : LaneId) : (s.settle.lane l).icu.recs = (s.lane l).icu.recs :=
  (congrArg (fun L => L.icu.recs) (s.settle_lane_blank l) :)
@[simp] theorem State.settle_lane_icu_remote (s : State) (l : LaneId) : (s.settle.lane l).icu.remote = (s.lane l).icu.remote :=
  (congrArg (fun L => L.icu.remote) (s.settle_lane_blank l) :)
@[simp] theorem State.settle_lane_sched_pendAh (s : State) (l : LaneId) : (s.settle.lane l).sched.pendAh = (s.lane l).sched.pendAh :=
  (congrArg (fun L => L.sched.pendAh) (s.settle_lane_blank l) :)
@[simp] theorem State.settle_lane_sched_pendAs (s : State) (l : LaneId) : (s.settle.lane l).sched.pendAs = (s.lane l).sched.pendAs :=
  (congrArg (fun L => L.sched.pendAs) (s.settle_lane_blank l) :)
@[simp] theorem State.settle_lane_sched_bankAh (s : State) (l : LaneId) : (s.settle.lane l).sched.bankAh = (s.lane l).sched.bankAh :=
  (congrArg (fun L => L.sched.bankAh) (s.settle_lane_blank l) :)
@[simp] theorem State.settle_lane_sched_bankAs (s : State) (l : LaneId) : (s.settle.lane l).sched.bankAs = (s.lane l).sched.bankAs :=
  (congrArg (fun L => L.sched.bankAs) (s.settle_lane_blank l) :)
@[simp] theorem State.settle_lane_sched_det (s : State) (l : LaneId) : (s.settle.lane l).sched.det = (s.lane l).sched.det :=
  (congrArg (fun L => L.sched.det) (s.settle_lane_blank l) :)
@[simp] theorem State.settle_lane_sched_detReq (s : State) (l : LaneId) : (s.settle.lane l).sched.detReq = (s.lane l).sched.detReq :=
  (congrArg (fun L => L.sched.detReq) (s.settle_lane_blank l) :)
@[simp] theorem State.settle_lane_sched_hostIdle (s : State) (l : LaneId) : (s.settle.lane l).sched.hostIdle = (s.lane l).sched.hostIdle :=
  (congrArg (fun L => L.sched.hostIdle) (s.settle_lane_blank l) :)
@[simp] theorem State.settle_lane_sched_gov (s : State) (l : LaneId) : (s.settle.lane l).sched.gov = (s.lane l).sched.gov :=
  (congrArg (fun L => L.sched.gov) (s.settle_lane_blank l) :)
@[simp] theorem State.settle_lane_sched_links (s : State) (l : LaneId) : (s.settle.lane l).sched.links = (s.lane l).sched.links :=
  (congrArg (fun L => L.sched.links) (s.settle_lane_blank l) :)
@[simp] theorem State.settle_lane_sched_linkFree (s : State) (l : LaneId) : (s.settle.lane l).sched.linkFree = (s.lane l).sched.linkFree :=
  (congrArg (fun L => L.sched.linkFree) (s.settle_lane_blank l) :)
@[simp] theorem State.settle_lane_sched_held (s : State) (l : LaneId) : (s.settle.lane l).sched.held = (s.lane l).sched.held :=
  (congrArg (fun L => L.sched.held) (s.settle_lane_blank l) :)
@[simp] theorem State.settle_lane_sched_decisions (s : State) (l : LaneId) : (s.settle.lane l).sched.decisions = (s.lane l).sched.decisions :=
  (congrArg (fun L => L.sched.decisions) (s.settle_lane_blank l) :)
@[simp] theorem State.settle_jct_state (s : State) : s.settle.jct.state = s.jct.state := (congrArg (fun t => t.jct.state) s.settle_blank :)
@[simp] theorem State.settle_jct_v0 (s : State) : s.settle.jct.v0 = s.jct.v0 := (congrArg (fun t => t.jct.v0) s.settle_blank :)
@[simp] theorem State.settle_jct_v1 (s : State) : s.settle.jct.v1 = s.jct.v1 := (congrArg (fun t => t.jct.v1) s.settle_blank :)
@[simp] theorem State.settle_jct_v2 (s : State) : s.settle.jct.v2 = s.jct.v2 := (congrArg (fun t => t.jct.v2) s.settle_blank :)
@[simp] theorem State.settle_jct_voted (s : State) : s.settle.jct.voted = s.jct.voted := (congrArg (fun t => t.jct.voted) s.settle_blank :)
@[simp] theorem State.settle_jct_votedAt (s : State) : s.settle.jct.votedAt = s.jct.votedAt := (congrArg (fun t => t.jct.votedAt) s.settle_blank :)
@[simp] theorem State.settle_jct_coastAt (s : State) : s.settle.jct.coastAt = s.jct.coastAt := (congrArg (fun t => t.jct.coastAt) s.settle_blank :)
@[simp] theorem State.settle_jct_split (s : State) : s.settle.jct.split = s.jct.split := (congrArg (fun t => t.jct.split) s.settle_blank :)
@[simp] theorem State.settle_jct_odd (s : State) : s.settle.jct.odd = s.jct.odd := (congrArg (fun t => t.jct.odd) s.settle_blank :)
@[simp] theorem State.settle_jct_f0 (s : State) : s.settle.jct.f0 = s.jct.f0 := (congrArg (fun t => t.jct.f0) s.settle_blank :)
@[simp] theorem State.settle_jct_f1 (s : State) : s.settle.jct.f1 = s.jct.f1 := (congrArg (fun t => t.jct.f1) s.settle_blank :)
@[simp] theorem State.settle_jct_f2 (s : State) : s.settle.jct.f2 = s.jct.f2 := (congrArg (fun t => t.jct.f2) s.settle_blank :)
@[simp] theorem State.settle_jct_judge (s : State) : s.settle.jct.judge = s.jct.judge := (congrArg (fun t => t.jct.judge) s.settle_blank :)
@[simp] theorem State.settle_jct_a_fence (s : State) : s.settle.jct.a.fence = s.jct.a.fence :=
  (congrArg (fun t => t.jct.a.fence) s.settle_blank :)
@[simp] theorem State.settle_jct_a_kaAt (s : State) : s.settle.jct.a.kaAt = s.jct.a.kaAt :=
  (congrArg (fun t => t.jct.a.kaAt) s.settle_blank :)
@[simp] theorem State.settle_jct_a_kaLost (s : State) : s.settle.jct.a.kaLost = s.jct.a.kaLost :=
  (congrArg (fun t => t.jct.a.kaLost) s.settle_blank :)
@[simp] theorem State.settle_jct_b_fence (s : State) : s.settle.jct.b.fence = s.jct.b.fence :=
  (congrArg (fun t => t.jct.b.fence) s.settle_blank :)
@[simp] theorem State.settle_jct_b_kaAt (s : State) : s.settle.jct.b.kaAt = s.jct.b.kaAt :=
  (congrArg (fun t => t.jct.b.kaAt) s.settle_blank :)
@[simp] theorem State.settle_jct_b_kaLost (s : State) : s.settle.jct.b.kaLost = s.jct.b.kaLost :=
  (congrArg (fun t => t.jct.b.kaLost) s.settle_blank :)

@[simp] theorem State.settle_lane_reg (s : State) (l : LaneId) (a : Nat) : (s.settle.lane l).reg a = (s.lane l).reg a :=
  (congrArg (fun L => Lane.reg L a) (s.settle_lane_blank l) :)
@[simp] theorem State.settle_lane_on (s : State) (l : LaneId) : (s.settle.lane l).on = (s.lane l).on :=
  (congrArg Lane.on (s.settle_lane_blank l) :)
@[simp] theorem State.settle_fitted (s : State) (l : LaneId) : s.settle.fitted l = s.fitted l :=
  (congrArg (fun t => State.fitted t l) s.settle_blank :)

/-! ### Shapes of a command's answer -/

/-- A command of a lane whose clocks run does its effect, which is then settled. -/
theorem laneCmd_on (l : LaneId) (s : State) (f : State → State) (hf : s.fitted l = true) (ho : (s.lane l).on = true) :
    laneCmd l s f = .next (f s).settle := by
  simp only [laneCmd, whenOn, onLane, hf, ho, if_true]

/-- A command of a lane whose clocks do not run changes nothing. -/
theorem laneCmd_off (l : LaneId) (s : State) (f : State → State) (hf : s.fitted l = true) (ho : (s.lane l).on = false) :
    laneCmd l s f = .next s := by
  simp only [laneCmd, whenOn, onLane, hf, ho, if_true]; rfl

/-- A command of a lane's always-on part, or of a host port, does its effect. -/
theorem anyCmd_fitted (l : LaneId) (s : State) (f : State → State) (hf : s.fitted l = true) :
    anyCmd l s f = .next (f s).settle := by
  simp only [anyCmd, onLane, hf, if_true]

/-- A command of a lane that the variant does not have stops. -/
theorem laneCmd_absent (l : LaneId) (s : State) (f : State → State) (hf : s.fitted l = false) :
    laneCmd l s f = .fault .laneNotFitted := by
  simp only [laneCmd, whenOn, onLane, hf]; rfl

theorem anyCmd_absent (l : LaneId) (s : State) (f : State → State) (hf : s.fitted l = false) :
    anyCmd l s f = .fault .laneNotFitted := by
  simp only [anyCmd, onLane, hf]; rfl

end Sys2Proof.Machine
end

