-- ==== Sys2Proof/Laws/Frames.lean ====
section
/-! SUPPORT. Frames of the shared operations: reports to the lanes, and what ending an event does at a channel. -/

namespace Sys2Proof.Machine

/-! ### Reports to a lane -/

theorem Lane.reportsOnly_refl (L : Lane) (as : List Nat) : L.reportsOnly L as := ⟨fun _ _ => rfl, rfl⟩

/-- A lane with what reports touch hidden. -/
abbrev Lane.unreported (L : Lane) : Lane :=
  { L with regs := [], fresh := [], fltQ := [], fltHeld := [], landingQ := [], chargeQ := [] }

/-- A lane with the reports of another. -/
abbrev Lane.reportsOf (L X : Lane) : Lane :=
  { X with regs := L.regs, fresh := L.fresh, fltQ := L.fltQ, fltHeld := L.fltHeld, landingQ := L.landingQ, chargeQ := L.chargeQ }

theorem Lane.reportsOf_iff (L M : Lane) : (L.reportsOf M).blank = L.blank ↔ M.unreported.blank = L.unreported.blank :=
  ⟨fun h => congrArg Lane.unreported h, fun h => congrArg L.reportsOf h⟩

theorem Lane.reportsOf_iff_noOpen (n : Nat) (L M : Lane) :
    (L.reportsOf M).blank.noOpen n = L.blank.noOpen n ↔ M.unreported.blank.noOpen n = L.unreported.blank.noOpen n :=
  ⟨fun h => congrArg Lane.unreported h, fun h => congrArg L.reportsOf h⟩

theorem Lane.reportsOnly_trans {L M N : Lane} {as : List Nat} (h : L.reportsOnly M as) (g : M.reportsOnly N as) :
    L.reportsOnly N as := by
  refine ⟨fun a ha => (g.1 a ha).trans (h.1 a ha), ?_⟩
  exact (L.reportsOf_iff N).mpr (((M.reportsOf_iff N).mp g.2).trans ((L.reportsOf_iff M).mp h.2))

theorem Lane.reportsOnly_setReg (L : Lane) (a : Nat) (v : Word) (as : List Nat) (h : a ∈ as) : L.reportsOnly (L.setReg a v) as := by
  refine ⟨fun b hb => ?_, rfl⟩
  rw [Lane.reg_setReg, if_neg (fun (e : b = a) => hb (e ▸ h))]

theorem Lane.reportsOnly_setFld (L : Lane) (a lo w x : Nat) (as : List Nat) (h : a ∈ as) : L.reportsOnly (L.setFld a lo w x) as :=
  L.reportsOnly_setReg a _ as h

theorem Lane.reportsOnly_count (L : Lane) (a lo w : Nat) (as : List Nat) (h : a ∈ as) : L.reportsOnly (L.count a lo w) as :=
  L.reportsOnly_setReg a _ as h

theorem Lane.reportsOnly_event (L : Lane) (a i : Nat) (as : List Nat) (h : a ∈ as) : L.reportsOnly (L.event a i) as := by
  refine ⟨fun b hb => ?_, rfl⟩
  rw [Lane.reg_event, if_neg (fun (e : b = a) => hb (e ▸ h))]

theorem Lane.reportsOnly_queueFault (L : Lane) (m : FaultMsg) (as : List Nat) (h : Reg.fltLost ∈ as) :
    L.reportsOnly (L.queueFault m) as := by
  rcases L.queueFault_cases m with ⟨_, h1⟩ | ⟨_, _, h1⟩ | ⟨_, _, h1⟩ <;> rw [h1]
  · exact ⟨fun _ _ => rfl, rfl⟩
  · exact L.reportsOnly_count _ _ _ as h
  · exact ⟨fun _ _ => rfl, rfl⟩

theorem Lane.reportsOnly_raise (L : Lane) (k : Kind) (inst w1 : Nat) (as : List Nat) (h : Reg.fltLost ∈ as) :
    L.reportsOnly (L.raise k inst w1) as :=
  L.reportsOnly_queueFault _ as h

theorem Lane.reportsOnly_both (s : State) (f : Lane → Lane) (as : List Nat) (h : ∀ L, Lane.reportsOnly L (f L) as) (l : LaneId) :
    Lane.reportsOnly (s.lane l) ((s.both f).lane l) as := by
  cases l <;> simp only [State.both, State.lane] <;> split <;> first | exact h _ | exact Lane.reportsOnly_refl _ _

/-! ### Reports that also end an open START_A -/

theorem vmod_map {α β : Type} {n : Nat} (v : Vector α n) (i : Nat) (f : α → α) (g : α → β) (k : β → β)
    (h : ∀ x, k (g (f x)) = k (g x)) : vmod ((vmod v i f).map g) i k = vmod (v.map g) i k := by
  unfold vmod
  split
  · apply Vector.ext
    intro j hj
    by_cases e : i = j
    · subst e; simp [h]
    · simp [e]
  · rfl

theorem Lane.reportsFor_of {L M : Lane} {as : List Nat} (n : Nat) (h : L.reportsOnly M as) : L.reportsFor n M as :=
  ⟨h.1, congrArg (Lane.noOpen n) h.2⟩

theorem Lane.reportsFor_refl (n : Nat) (L : Lane) (as : List Nat) : L.reportsFor n L as := ⟨fun _ _ => rfl, rfl⟩

theorem Lane.reportsFor_trans {n : Nat} {L M N : Lane} {as : List Nat} (h : L.reportsFor n M as) (g : M.reportsFor n N as) :
    L.reportsFor n N as := by
  refine ⟨fun a ha => (g.1 a ha).trans (h.1 a ha), ?_⟩
  exact (L.reportsOf_iff_noOpen n N).mpr (((M.reportsOf_iff_noOpen n N).mp g.2).trans ((L.reportsOf_iff_noOpen n M).mp h.2))

theorem Lane.reportsFor_closed (n i : Nat) (L : Lane) (as : List Nat) (c : Bool) :
    L.reportsFor n (if c then L.routeUpd n fun t => { t with openA := t.openA.filter (· != i) } else L) as := by
  split
  · refine ⟨fun _ _ => rfl, ?_⟩
    simp only [Lane.noOpen, Lane.blank, Lane.routeUpd, Lane.schedUpd]
    congr 2
    exact vmod_map L.sched.routes n _ _ _ fun _ => rfl
  · exact Lane.reportsFor_refl n L as

theorem Lane.reportsFor_both (n : Nat) (s : State) (f : Lane → Lane) (as : List Nat) (h : ∀ L, Lane.reportsFor n L (f L) as)
    (l : LaneId) : Lane.reportsFor n (s.lane l) ((s.both f).lane l) as := by
  cases l <;> simp only [State.both, State.lane] <;> split <;> first | exact h _ | exact Lane.reportsFor_refl _ _ _

/-! ### Frames of a channel -/

theorem State.channelFrame_refl (s : State) (n : Nat) (as : List Nat) : s.channelFrame s n as :=
  ⟨fun _ _ => rfl, fun _ => Lane.reportsFor_refl _ _ _, rfl⟩

theorem State.channelFrame_trans {s u v : State} {n : Nat} {as : List Nat} (h : s.channelFrame u n as)
    (g : u.channelFrame v n as) : s.channelFrame v n as := by
  refine ⟨fun m hm => (g.1 m hm).trans (h.1 m hm), fun l => Lane.reportsFor_trans (h.2.1 l) (g.2.1 l), ?_⟩
  have h2 := h.2.2
  have g2 := g.2.2
  simp only [State.blank, State.mk.injEq] at h2 g2 ⊢
  simp_all

theorem State.channelFrame_chanUpd (s : State) (n : Nat) (f : Chan → Chan) (as : List Nat) : s.channelFrame (s.chanUpd n f) n as := by
  refine ⟨fun m hm => ?_, fun l => ?_, rfl⟩
  · by_cases hn : n < 192
    · simp only [State.chan, State.chanUpd_chans, vget_vmod _ _ _ _ _ hn, if_neg hm]
    · simp only [State.chan, State.chanUpd_chans, vmod_out _ _ _ (Nat.le_of_not_lt hn)]
  · rw [State.chanUpd_lane]; exact Lane.reportsFor_refl _ _ _

theorem State.channelFrame_both (s : State) (n : Nat) (f : Lane → Lane) (as : List Nat) (h : ∀ L, Lane.reportsOnly L (f L) as) :
    s.channelFrame (s.both f) n as :=
  ⟨fun _ _ => rfl, fun l => Lane.reportsFor_both n s f as (fun L => Lane.reportsFor_of n (h L)) l, rfl⟩

theorem State.channelFrame_chFlag (s : State) (n i : Nat) (as : List Nat) (h : Reg.chnEvent n ∈ as) :
    s.channelFrame (s.chFlag n i) n as :=
  s.channelFrame_both n _ as fun L => L.reportsOnly_event _ _ as h

theorem State.channelFrame_raiseBoth (s : State) (n : Nat) (k : Kind) (inst w1 : Nat) (as : List Nat) (h : Reg.fltLost ∈ as) :
    s.channelFrame (s.raiseBoth k inst w1) n as :=
  s.channelFrame_both n _ as fun L => L.reportsOnly_raise k inst w1 as h

theorem State.channelFrame_report (s : State) (n : Nat) (r : LandingReport) (as : List Nat) : s.channelFrame (s.report r) n as :=
  s.channelFrame_both n _ as fun _ => ⟨fun _ _ => rfl, rfl⟩

theorem State.channelFrame_chLast (s : State) (n cause : Nat) (d : Option Nat) (as : List Nat) (h1 : Reg.chnLast n ∈ as)
    (h2 : Reg.chnCnt n ∈ as) : s.channelFrame (s.chLast n cause d) n as := by
  refine s.channelFrame_both n _ as fun L => ?_
  have h := Lane.reportsOnly_trans (L.reportsOnly_setFld (Reg.chnLast n) 12 4 cause as h1) (Lane.reportsOnly_count _ (Reg.chnCnt n) 0 16 as h2)
  cases d with
  | none => exact h
  | some d => exact Lane.reportsOnly_trans h (Lane.reportsOnly_setFld _ _ _ _ _ as h1)

theorem State.channelFrame_angleOver (s : State) (n cyc idx : Nat) (as : List Nat) : s.channelFrame (s.angleOver n cyc idx) n as :=
  ⟨fun _ _ => rfl, fun l => Lane.reportsFor_both n s _ as (fun L => Lane.reportsFor_closed n idx L as _) l, rfl⟩

theorem State.channelFrame_startGone (s : State) (n : Nat) (c : DrvCmd) (as : List Nat) : s.channelFrame (s.startGone n c) n as := by
  unfold State.startGone
  split
  · exact State.channelFrame_angleOver _ _ _ _ _
  · exact State.channelFrame_refl _ _ _

/-- A change of one channel's blanking or taken edges is within the frame of any channel. -/
theorem State.channelFrame_hidden (s : State) (n m : Nat) (f : Chan → Chan) (as : List Nat)
    (h : ∀ c, { f c with blankTo := 0, mixSeen := false } = { c with blankTo := 0, mixSeen := false }) :
    s.channelFrame (s.chanUpd m f) n as := by
  refine ⟨fun k hk => ?_, fun l => ?_, rfl⟩
  · by_cases hm : m < 192
    · simp only [State.chan, State.chanUpd_chans, vget_vmod _ _ _ _ _ hm]
      split
      · subst_vars; exact h _
      · rfl
    · simp only [State.chan, State.chanUpd_chans, vmod_out _ _ _ (Nat.le_of_not_lt hm)]
  · rw [State.chanUpd_lane]; exact Lane.reportsFor_refl _ _ _

/-- A fold whose steps are within a frame is within it. -/
theorem State.channelFrame_foldl {α : Type} (s : State) (n : Nat) (as : List Nat) (g : State → α → State)
    (h : ∀ (x : State) (a : α), x.channelFrame (g x a) n as) (xs : List α) : s.channelFrame (xs.foldl g s) n as := by
  induction xs generalizing s with
  | nil => exact State.channelFrame_refl _ _ _
  | cons a r ih => exact State.channelFrame_trans (h s a) (ih (g s a))

theorem State.channelFrame_edgesFrom (now s : State) (q t0 t1 n : Nat) (as : List Nat) :
    now.channelFrame (now.edgesFrom s q t0 t1) n as := by
  refine now.channelFrame_foldl n as _ (fun r i => ?_) _
  dsimp only
  split
  · exact State.channelFrame_hidden _ _ _ _ _ fun _ => rfl
  · exact State.channelFrame_refl _ _ _

theorem State.channelFrame_mixPass (s : State) (q n : Nat) (as : List Nat) : s.channelFrame (s.mixPass q) n as := by
  refine s.channelFrame_foldl n as _ (fun r i => ?_) _
  split
  · split
    · exact State.channelFrame_refl _ _ _
    · rename_i t _ _
      have h1 := r.channelFrame_hidden n (4 * q + i) (fun c => { c with mixSeen := true }) as fun _ => rfl
      generalize (r.chanUpd (4 * q + i) fun c => { c with mixSeen := true }) = u at h1 ⊢
      exact State.channelFrame_trans h1 (State.channelFrame_edgesFrom u r q (t - 1) t n as)
  · exact State.channelFrame_refl _ _ _

/-- A change within the frame stays within it with its switching edges (R118). -/
theorem State.channelFrame_switching (s : State) (n m : Nat) (f : State → State) (as : List Nat)
    (h : ∀ x : State, x.channelFrame (f x) n as) : s.channelFrame (s.switching m f) n as := by
  unfold State.switching
  extract_lets u
  have h1 : s.channelFrame u n as := s.channelFrame_mixPass (m / 4) n as
  have h2 := State.channelFrame_edgesFrom (f u) u (m / 4) u.now u.now n as
  generalize (f u).edgesFrom u (m / 4) u.now u.now = v at h2 ⊢
  exact State.channelFrame_trans h1 (State.channelFrame_trans (h u) h2)

theorem State.channelFrame_detectSample (s : State) (n i : Nat) (as : List Nat) : s.channelFrame (s.detectSample n i) n as := by
  unfold State.detectSample
  split
  · exact State.channelFrame_refl _ _ _
  · split
    · exact State.channelFrame_refl _ _ _
    · extract_lets clear d
      split
      split
      · exact State.channelFrame_trans (State.channelFrame_chanUpd _ _ _ _) (State.channelFrame_report _ _ _ _)
      · exact State.channelFrame_chanUpd _ _ _ _

theorem State.channelFrame_endVerdict (s : State) (n : Nat) (e : Event) (as : List Nat) : s.channelFrame (s.endVerdict n e) n as := by
  unfold State.endVerdict
  extract_lets v und u
  have hu : s.channelFrame u n as := by
    refine State.channelFrame_trans (s.channelFrame_mixPass (n / 4) n as) (?_ : v.channelFrame u n as)
    clear_value v
    simp only [u]
    split
    · split
      · exact State.channelFrame_refl _ _ _
      · exact State.channelFrame_detectSample _ _ _ _
    · exact State.channelFrame_refl _ _ _
  split
  · exact State.channelFrame_trans hu (State.channelFrame_report _ _ _ _)
  · exact hu

/-- The frame of an event's end (R122, R132, R133, R149). -/
theorem State.channelFrame_endEvent (s : State) (n : Nat) (fast : Bool) (after : ChanState) :
    s.channelFrame (s.endEvent n fast after) n (channelRegs n) := by
  unfold State.endEvent
  split
  · exact State.channelFrame_refl _ _ _
  · rename_i e _
    extract_lets u w0 v w
    have hw : s.channelFrame w n (channelRegs n) :=
      State.channelFrame_trans
        (State.channelFrame_trans (State.channelFrame_trans (State.channelFrame_endVerdict s n e _)
          (State.channelFrame_switching u n n _ _ fun x => x.channelFrame_chanUpd n _ _))
          (State.channelFrame_chFlag v n 1 _ (by simp [channelRegs])))
        (State.channelFrame_angleOver _ _ _ _ _)
    split
    · exact hw
    · exact State.channelFrame_trans hw (State.channelFrame_both _ _ _ _ fun L =>
        L.reportsOnly_setFld _ _ _ _ _ (by simp [channelRegs]))

/-- The blank hides nothing of a frame. -/
theorem State.channelFrame_settle {s u : State} {n : Nat} {as : List Nat} (h : s.channelFrame u n as) :
    s.channelFrame u.settle n as := by
  refine ⟨fun m hm => ?_, fun l => ⟨fun a ha => ?_, ?_⟩, ?_⟩
  · simpa only [State.chan, State.settle_chans] using h.1 m hm
  · rw [State.settle_lane_reg]; exact (h.2.1 l).1 a ha
  · have h3 : (u.settle.lane l).unreported.blank = (u.lane l).unreported.blank := congrArg Lane.unreported (u.settle_lane_blank l)
    exact (Lane.reportsOf_iff_noOpen n _ _).mpr ((congrArg (Lane.noOpen n) h3).trans
      ((Lane.reportsOf_iff_noOpen n _ _).mp (h.2.1 l).2))
  · rw [State.settle_blank]; exact h.2.2

end Sys2Proof.Machine
end

