-- ==== Sys2Proof/Laws/Memory.lean ====
section
/-! SUPPORT. Laws of byte cells and of the arrays: a read after a write, and every memory operation keeps the canonical
form. -/

namespace Sys2Proof.Machine

/-! ### Cells -/

theorem Cells.lookup_insert (f : Cells) (a b : Nat) (v : Byte) :
    (Cells.insert a v f).lookup b = if b = a then some v else f.lookup b := by
  induction f with
  | nil => simp [Cells.insert, lookup_cons_if]
  | cons e r ih =>
    obtain ⟨c, w⟩ := e
    simp only [Cells.insert]
    split
    · rw [lookup_cons_if]
    · split
      · subst_vars; rw [lookup_cons_if, lookup_cons_if]; split <;> rfl
      · rw [lookup_cons_if, lookup_cons_if, ih]
        split
        · subst_vars; rw [if_neg (by omega)]
        · rfl

/-- A byte reads as it was written last, and a write leaves every other byte alone. -/
theorem Cells.get_set (f : Cells) (a b : Nat) (v : Byte) : (f.set a v).get b = if b = a then v else f.get b := by
  unfold Cells.get Cells.set
  split
  · rw [lookup_filter_ne]; split
    · subst_vars; rfl
    · rfl
  · rw [Cells.lookup_insert]; split <;> rfl

/-- Bytes written from an address upwards, read back one by one. -/
theorem Cells.get_setMany (bs : List Byte) (f : Cells) (a b : Nat) :
    (f.setMany a bs).get b = if a ≤ b then (bs[b - a]?).getD (f.get b) else f.get b := by
  induction bs generalizing f a with
  | nil => simp [Cells.setMany]
  | cons x r ih =>
    rw [Cells.setMany, ih, Cells.get_set]
    by_cases h : a + 1 ≤ b
    · have h1 : a ≤ b := by omega
      have h2 : ¬ b = a := by omega
      have h3 : b - a = (b - (a + 1)) + 1 := by omega
      simp [h, h1, h2, h3]
    · by_cases h1 : b = a
      · subst h1
        rw [if_neg h, if_pos (Nat.le_refl _), if_pos rfl]
        simp
      · have h2 : ¬ a ≤ b := by omega
        simp [h, h1, h2]

/-- The canonical form as two facts about the list. -/
theorem Cells.wf_iff (f : Cells) : f.wf = true ↔ f.Pairwise (fun x y => x.1 < y.1) ∧ ∀ e ∈ f, e.2 ≠ 0 := by
  induction f with
  | nil => simp [Cells.wf]
  | cons e r ih =>
    obtain ⟨a, v⟩ := e
    cases r with
    | nil => simp [Cells.wf]
    | cons g r =>
      obtain ⟨b, w⟩ := g
      simp only [Cells.wf, Bool.and_eq_true, bne_iff_ne, ne_eq, decide_eq_true_eq, ih]
      constructor
      · rintro ⟨⟨h1, h2⟩, h3, h4⟩
        refine ⟨List.pairwise_cons.2 ⟨?_, h3⟩, ?_⟩
        · intro x hx
          rcases List.mem_cons.1 hx with rfl | hx
          · exact h2
          · exact Nat.lt_trans h2 ((List.pairwise_cons.1 h3).1 x hx)
        · intro x hx
          rcases List.mem_cons.1 hx with rfl | hx
          · exact h1
          · exact h4 x hx
      · rintro ⟨h1, h2⟩
        have h1' := List.pairwise_cons.1 h1
        exact ⟨⟨h2 _ (List.mem_cons_self ..), h1'.1 _ (List.mem_cons_self ..)⟩, h1'.2,
          fun x hx => h2 x (List.mem_cons_of_mem _ hx)⟩

theorem Cells.mem_insert {f : Cells} {a : Nat} {v : Byte} {e : Host.Cell} (h : e ∈ Cells.insert a v f) :
    e = (a, v) ∨ e ∈ f := by
  induction f with
  | nil => simpa [Cells.insert] using h
  | cons g r ih =>
    obtain ⟨b, w⟩ := g
    simp only [Cells.insert] at h
    split at h
    · simpa using h
    · split at h
      · rcases List.mem_cons.1 h with h | h
        · exact .inl h
        · exact .inr (List.mem_cons_of_mem _ h)
      · rcases List.mem_cons.1 h with h | h
        · exact .inr (h ▸ List.mem_cons_self ..)
        · exact (ih h).imp id (List.mem_cons_of_mem _)

theorem Cells.pairwise_insert {f : Cells} (a : Nat) (v : Byte) (h : f.Pairwise (fun x y => x.1 < y.1)) :
    (Cells.insert a v f).Pairwise (fun x y => x.1 < y.1) := by
  induction f with
  | nil => simp [Cells.insert]
  | cons g r ih =>
    obtain ⟨b, w⟩ := g
    have h' := List.pairwise_cons.1 h
    simp only [Cells.insert]
    split
    · rename_i hab
      refine List.pairwise_cons.2 ⟨fun x hx => ?_, h⟩
      rcases List.mem_cons.1 hx with rfl | hx
      · exact hab
      · exact Nat.lt_trans hab (h'.1 x hx)
    · split
      · subst_vars; exact List.pairwise_cons.2 ⟨h'.1, h'.2⟩
      · refine List.pairwise_cons.2 ⟨fun x hx => ?_, ih h'.2⟩
        rcases Cells.mem_insert hx with rfl | hx
        · simp only; omega
        · exact h'.1 x hx

theorem Cells.set_wf {f : Cells} (a : Nat) (v : Byte) (h : f.wf = true) : (f.set a v).wf = true := by
  rw [Cells.wf_iff] at h ⊢
  unfold Cells.set
  split
  · exact ⟨h.1.filter _, fun e he => h.2 e (List.mem_filter.1 he).1⟩
  · rename_i hv
    refine ⟨Cells.pairwise_insert a v h.1, fun e he => ?_⟩
    rcases Cells.mem_insert he with rfl | he
    · exact hv
    · exact h.2 e he

theorem Cells.setMany_wf (bs : List Byte) {f : Cells} (a : Nat) (h : f.wf = true) : (f.setMany a bs).wf = true := by
  induction bs generalizing f a with
  | nil => exact h
  | cons x r ih => exact ih _ (Cells.set_wf a x h)

/-! ### Operations that leave the arrays -/

@[simp] theorem Lane.queueFault_mem (L : Lane) (m : FaultMsg) : (L.queueFault m).mem = L.mem := by
  unfold Lane.queueFault; split
  · rfl
  · split <;> rfl

@[simp] theorem Lane.raiseBy_mem (L : Lane) (k : Kind) (inst w1 mid acc : Nat) : (L.raiseBy k inst w1 mid acc).mem = L.mem :=
  Lane.queueFault_mem _ _

@[simp] theorem Lane.raise_mem (L : Lane) (k : Kind) (inst w1 : Nat) : (L.raise k inst w1).mem = L.mem :=
  Lane.queueFault_mem _ _

@[simp] theorem Lane.setBit_mem (L : Lane) (a i : Nat) (b : Bool) : (L.setBit a i b).mem = L.mem := rfl

/-! ### Every memory operation keeps the canonical form -/

theorem Memory.wf_iff (m : Mem) : Memory.wf m = true ↔ Cells.wf m.data = true ∧ Cells.wf m.chk = true ∧ Cells.wf m.spare = true := by
  simp [Memory.wf, and_assoc]

/-- The canonical form speaks of the three cell stores alone. -/
theorem Memory.wf_of_cells {m m' : Mem} (h : Memory.wf m = true) (h1 : m'.data = m.data) (h2 : m'.chk = m.chk)
    (h3 : m'.spare = m.spare) : Memory.wf m' = true := by
  rw [Memory.wf_iff] at h ⊢; rw [h1, h2, h3]; exact h

/-- A change of a lane that keeps the canonical form of its arrays. -/
def KeepsMem (f : Lane → Lane) : Prop := ∀ L, Memory.wf L.mem = true → Memory.wf (f L).mem = true

theorem KeepsMem.foldl {α : Type} (g : Lane → α → Lane) (h : ∀ x, KeepsMem (g · x)) (xs : List α) :
    KeepsMem (xs.foldl g) := by
  induction xs with
  | nil => exact fun _ h => h
  | cons x r ih => exact fun L hL => ih _ (h x L hL)

theorem Lane.putSpare_wf (i : Nat) (d : BitVec 128) (c : BitVec 24) : KeepsMem (·.putSpare i d c) := fun L h => by
  rw [Memory.wf_iff] at h ⊢
  exact ⟨h.1, h.2.1, Cells.setMany_wf _ _ (Cells.setMany_wf _ _ h.2.2)⟩

theorem Lane.putArray_wf (A : Nat) (d : BitVec 128) (c : BitVec 24) : KeepsMem (·.putArray A d c) := fun L h => by
  rw [Memory.wf_iff] at h ⊢
  exact ⟨Cells.setMany_wf _ _ h.1, Cells.setMany_wf _ _ h.2.1, h.2.2⟩

theorem Lane.putRaw_wf (A : Nat) (d : BitVec 128) (c : BitVec 24) : KeepsMem (·.putRaw A d c) := fun L h => by
  simp only [Lane.putRaw]
  split
  · exact Lane.putSpare_wf _ _ _ L h
  · exact Lane.putArray_wf _ _ _ L h

theorem Lane.putWord_wf (A : Nat) (d : BitVec 128) : KeepsMem (·.putWord A d) := Lane.putRaw_wf A d _

theorem Lane.putPoison_wf (A : Nat) (d : BitVec 128) : KeepsMem (·.putPoison A d) := Lane.putRaw_wf A d _

/-- A count of corrections that keeps the canonical form of the arrays. -/
def CountsSafely (count : Lane → Nat → Nat → Lane) : Prop := ∀ k m, KeepsMem (count · k m)

theorem Lane.bumpMacro_mem (L : Lane) (k m : Nat) : (L.bumpMacro k m).1.mem = L.mem := by
  simp only [Lane.bumpMacro, Lane.setFld_mem]

theorem Lane.countErased_wf : CountsSafely Lane.countErased := fun k m L h => by
  simp only [Lane.countErased]
  split
  · rw [Lane.event_mem, Lane.bumpMacro_mem]; exact h
  · rw [Lane.bumpMacro_mem]; exact h

theorem Lane.outcomeBy_wf {count : Lane → Nat → Nat → Lane} (hc : CountsSafely count) (A : Nat) (f : Option Nat) (d : BitVec 128)
    (r : Decoded) (mid acc : Nat) : KeepsMem (fun L => (Lane.outcomeBy count L A f d r mid acc).1) := fun L h => by
  cases r with
  | clean => exact h
  | poison => exact h
  | uncorrectable =>
    simp only [Lane.outcomeBy, Lane.raiseBy_mem, Lane.count_mem, Lane.event_mem]
    exact h
  | corrected d' c ms =>
    refine KeepsMem.foldl _ (fun m => hc _ m) _ _ ?_
    split
    · rw [Lane.setReg_mem, Lane.count_mem, Lane.event_mem]; exact h
    · rw [Lane.raiseBy_mem, Lane.setReg_mem, Lane.count_mem, Lane.event_mem]; exact h

theorem Lane.trackOnly_wf (A : Nat) (f : Option Nat) (r : Decoded) : KeepsMem (·.trackOnly A f r) := fun L h => by
  cases r with
  | corrected d' c ms =>
    dsimp only [Lane.trackOnly]
    refine KeepsMem.foldl _ (fun m L h => ?_) _ _ h
    exact Memory.wf_of_cells h rfl rfl rfl
  | _ => exact h

theorem Lane.releaseBy_wf {count : Lane → Nat → Nat → Lane} (hc : CountsSafely count) (i mid acc : Nat) :
    KeepsMem (fun L => Lane.releaseBy count L i mid acc) := fun L h => by
  simp only [Lane.releaseBy]
  split
  · exact h
  · split
    · rw [Lane.setBit_mem]; exact h
    · exact Lane.putArray_wf _ _ _ _ (Lane.outcomeBy_wf hc _ _ _ _ mid acc _
        (Lane.trackOnly_wf _ _ _ _ (by rw [Lane.setBit_mem]; exact h)))

theorem Lane.setErasure_wf (k m mid acc : Nat) : KeepsMem (fun L => L.setErasure k m mid acc) := fun L h => by
  simp only [Lane.setErasure]
  refine KeepsMem.foldl _ (fun i L h => ?_) _ _ ?_
  · dsimp only
    split
    · exact Lane.releaseBy_wf Lane.countErased_wf i mid acc L h
    · exact h
  · rw [Lane.event_mem, Lane.setFld_mem, Lane.setBit_mem]; exact h

theorem Lane.countMacro_wf (mid acc : Nat) : CountsSafely (Lane.countMacro mid acc) := fun k m L h => by
  simp only [Lane.countMacro]
  split
  · exact Lane.countErased_wf k m L h
  · split
    · exact Lane.setErasure_wf k m mid acc _ (by rw [Lane.bumpMacro_mem]; exact h)
    · rw [Lane.bumpMacro_mem]; exact h

theorem Lane.releaseRemap_wf (i : Nat) : KeepsMem (·.releaseRemap i) := Lane.releaseBy_wf (Lane.countMacro_wf 0 1) i 0 1

theorem Lane.trackSymbol_wf (A m : Nat) (d : BitVec 128) (mid acc : Nat) :
    KeepsMem (fun L => L.trackSymbol A m d mid acc) := fun L h => by
  change Memory.wf (L.trackSymbol A m d mid acc).mem = true
  unfold Lane.trackSymbol
  split
  rename_i n rest _
  extract_lets src keep
  have hk : Memory.wf keep.mem = true := Memory.wf_of_cells h rfl rfl rfl
  clear_value keep
  dsimp only
  split
  · exact hk
  · split
    · rw [Lane.event_mem, Lane.setReg_mem]
      exact Lane.putSpare_wf _ d _ _ (Memory.wf_of_cells h rfl rfl rfl)
    · split
      · exact hk
      · rw [Lane.raiseBy_mem, Lane.event_mem]
        exact Memory.wf_of_cells hk rfl rfl rfl

theorem Lane.readOutcome_wf (A : Nat) (f : Option Nat) (d : BitVec 128) (r : Decoded) (mid acc : Nat) :
    KeepsMem (fun L => (L.readOutcome A f d r mid acc).1) := fun L h => by
  have ho := Lane.outcomeBy_wf (Lane.countMacro_wf mid acc) A f d r mid acc L h
  cases r with
  | clean => exact ho
  | poison => exact ho
  | uncorrectable => exact Lane.putPoison_wf A _ _ ho
  | corrected d' c ms => exact KeepsMem.foldl _ (fun m => Lane.trackSymbol_wf A m _ mid acc) _ _ ho

theorem Lane.readWord_wf (A mid acc : Nat) : KeepsMem (fun L => (L.readWord A mid acc).1) := fun L h =>
  Lane.readOutcome_wf A _ _ _ mid acc L h

theorem Lane.flushEntry_wf (e : MergeEntry) : KeepsMem (·.flushEntry e) := fun L h => by
  simp only [Lane.flushEntry]
  split
  · exact Lane.putWord_wf _ _ L h
  · split
    · exact Lane.putPoison_wf _ _ _ (Lane.readWord_wf _ _ _ L h)
    · exact Lane.putWord_wf _ _ _ (Lane.readWord_wf _ _ _ L h)

theorem Lane.flushWord_wf (A : Nat) : KeepsMem (·.flushWord A) := fun L h => by
  simp only [Lane.flushWord]
  split
  · exact h
  · exact Lane.flushEntry_wf _ _ (Memory.wf_of_cells h rfl rfl rfl)

theorem Lane.flushAll_wf : KeepsMem Lane.flushAll := fun _ h =>
  KeepsMem.foldl _ Lane.flushEntry_wf _ _ (Memory.wf_of_cells h rfl rfl rfl)

theorem Lane.writeChunk_wf (A : Nat) (mask : BitVec 16) (d : BitVec 128) (mid : Nat) : KeepsMem (·.writeChunk A mask d mid) :=
  fun L h => by
    change Memory.wf (L.writeChunk A mask d mid).mem = true
    unfold Lane.writeChunk
    split
    · exact Lane.putWord_wf _ _ _ (Memory.wf_of_cells h rfl rfl rfl)
    · extract_lets src M w
      have hm : Memory.wf M.mem = true := Memory.wf_of_cells h rfl rfl rfl
      clear_value M
      split
      · exact Memory.wf_of_cells hm rfl rfl rfl
      · rename_i _ _ N _ _
        refine Memory.wf_of_cells (m := N.mem) ?_ rfl rfl rfl
        simp only [N]
        split
        · exact hm
        · split
          · exact hm
          · exact Lane.flushEntry_wf _ _ (Memory.wf_of_cells hm rfl rfl rfl)

theorem Lane.writeBytes_wf (a : Nat) (bs : List Byte) (mid : Nat) : KeepsMem (·.writeBytes a bs mid) :=
  KeepsMem.foldl _ (fun _ => Lane.writeChunk_wf _ _ _ mid) _

theorem Lane.readMerged_wf (A : Nat) (mask : BitVec 16) (mid acc : Nat) : KeepsMem (fun L => (L.readMerged A mask mid acc).1) :=
  fun L h => by
    simp only [Lane.readMerged]
    split
    · split
      · exact h
      · exact Lane.readWord_wf _ _ _ _ (Lane.flushWord_wf _ _ h)
    · exact Lane.readWord_wf _ _ _ _ h

theorem Lane.readBytes_wf (a n mid acc : Nat) : KeepsMem (fun L => (L.readBytes a n mid acc).1) := by
  suffices H : ∀ (As : List Nat) (r : Lane × List Byte × Bool), Memory.wf r.1.mem = true →
      Memory.wf (As.foldl (fun (r : Lane × List Byte × Bool) A =>
        let c := chunkOf A a n
        let (L, d, p) := r.1.readMerged A (BitVec.ofNat 16 ((2 ^ c.2 - 1) * 2 ^ c.1)) mid acc
        (L, r.2.1 ++ ((leBytes d.toNat 16).drop c.1).take c.2, r.2.2 || p)) r).1.mem = true from
    fun L h => H _ (L, [], false) h
  intro As
  induction As with
  | nil => exact fun _ h => h
  | cons A r ih => exact fun x h => ih _ (Lane.readMerged_wf A _ mid acc x.1 h)

theorem Lane.poisonBytes_wf (a : Nat) (bs : List Byte) (mid : Nat) : KeepsMem (·.poisonBytes a bs mid) := fun L h =>
  KeepsMem.foldl _ (fun A L h => Lane.putPoison_wf A _ _ (Lane.flushWord_wf A L h)) _ _ (Lane.writeBytes_wf a bs mid L h)

theorem Lane.copyToSpare_wf (A i : Nat) : KeepsMem (·.copyToSpare A i) := fun L h => by
  have ho := fun f d r => Lane.outcomeBy_wf (Lane.countMacro_wf 0 1) A f d r 0 1 _
    (Lane.trackOnly_wf A f r _ (Lane.flushWord_wf A L h))
  change Memory.wf (L.copyToSpare A i).mem = true
  unfold Lane.copyToSpare
  extract_lets M f w r
  have ho := ho f w.1 r
  clear_value r
  dsimp only
  refine Lane.putSpare_wf _ _ _ _ ?_
  split
  · exact Lane.putPoison_wf _ _ _ ho
  · exact ho

theorem Lane.writeRemap_wf (w : Writer) (i : Nat) (v : Word) : KeepsMem (·.writeRemap w i v) := fun L h => by
  have hr := Lane.releaseRemap_wf i L h
  have hc : Memory.wf (L.writeRemap .core i v).mem = true := by
    simp only [Lane.writeRemap]
    dsimp only at hr
    split
    · rw [Lane.setReg_mem]; exact hr
    · rw [Lane.event_mem, Lane.setReg_mem]
      split
      · exact Lane.copyToSpare_wf _ i _ hr
      · exact hr
  cases w with
  | host p => exact (Lane.event_mem L _ _).symm ▸ h
  | core => exact hc
  | image => exact hc

theorem Lane.writeErase_wf (w : Writer) (v : Word) : KeepsMem (·.writeErase w v) := fun L h => by
  have hc : Memory.wf (L.writeErase .core v).mem = true := by
    simp only [Lane.writeErase]
    split
    · exact h
    · refine KeepsMem.foldl _ (fun k L h => ?_) _ L h
      dsimp only
      split
      · rw [Lane.setFld_mem, Lane.setBit_mem]; exact h
      · split
        · exact h
        · exact Lane.setErasure_wf k _ 0 1 L h
  cases w with
  | host p => exact (Lane.event_mem L _ _).symm ▸ h
  | core => exact hc
  | image => exact hc

theorem Lane.scrubEnd_wf (p : Scrub) : KeepsMem (·.scrubEnd p) := fun L h => by
  have hf : ∀ (ks : List Nat) (f : Nat → Word), KeepsMem fun M => ks.foldl (fun L k => L.setReg (Reg.memScrubHist k) (f k)) M :=
    fun ks f => KeepsMem.foldl _ (fun k M hM => by rw [Lane.setReg_mem]; exact hM) ks
  change Memory.wf (L.scrubEnd p).mem = true
  unfold Lane.scrubEnd
  extract_lets w M N
  rw [Lane.event_mem]
  have hN : Memory.wf N.mem = true := hf _ _ M (by
    simp only [M, Lane.setReg_mem]; exact h)
  exact Memory.wf_of_cells hN rfl rfl rfl

/-- Memory is in canonical form at reset. -/
theorem reset_memory_wf : Memory.wf State.reset.laneA.mem = true ∧ Memory.wf State.reset.laneB.mem = true := by decide

end Sys2Proof.Machine
end

