-- ==== Sys2Proof/Laws/PerInstr.lean ====
section
/-! SUPPORT. Laws of commands as syntax, one lemma per constructor. Family LaneSwap (00_scope.md R1: a lane is built like
the other): moving a command to the other lane and back gives it again, keeps it well formed or ill formed, and moves the
lane die that it needs. -/

namespace Sys2Proof.Laws

/-- The other lane. -/
def swapId : LaneId → LaneId
  | .a => .b
  | .b => .a

/-- The port of the same place at the other lane (R6). -/
def swapPort (p : Fin 4) : Fin 4 := p + 2

/-- The writer of the same place at the other lane. -/
def swapWriter : Writer → Writer
  | .host p => .host (swapPort p)
  | w => w

/-- The command moved to the other lane; a command of a shared part stays. -/
noncomputable def swapLane : Instr → Instr
  | .registerWrite l m addr v => .registerWrite (swapId l) (swapWriter m) addr v
  | .coldPowerUp l => .coldPowerUp (swapId l)
  | .memoryInitDone b => .memoryInitDone { b with lane := swapId b.lane }
  | .pllLock b => .pllLock { b with lane := swapId b.lane }
  | .pllLockTimeout l => .pllLockTimeout (swapId l)
  | .digestExchange l => .digestExchange (swapId l)
  | .partnerReportTimeout l => .partnerReportTimeout (swapId l)
  | .imageRepair l => .imageRepair (swapId l)
  | .journalPageWrite l fails => .journalPageWrite (swapId l) fails
  | .snapshot l => .snapshot (swapId l)
  | .patrol l => .patrol (swapId l)
  | .scrubInterval l => .scrubInterval (swapId l)
  | .install l => .install (swapId l)
  | .installDone l fails => .installDone (swapId l) fails
  | .crankEdge l sec e => .crankEdge (swapId l) sec e
  | .directionConfirmed l e => .directionConfirmed (swapId l) e
  | .camEdge l e => .camEdge (swapId l) e
  | .virtualEdge l => .virtualEdge (swapId l)
  | .holdSpanEnd l => .holdSpanEnd (swapId l)
  | .stall l => .stall (swapId l)
  | .silent l sec => .silent (swapId l) sec
  | .holdLimit l => .holdLimit (swapId l)
  | .conflictLimit l => .conflictLimit (swapId l)
  | .camMiss l => .camMiss (swapId l)
  | .camSilent l => .camSilent (swapId l)
  | .odoEnable l v => .odoEnable (swapId l) v
  | .odoDisable l v => .odoDisable (swapId l) v
  | .resync l v => .resync (swapId l) v
  | .odoConfigWrite l reg v => .odoConfigWrite (swapId l) reg v
  | .geoReset l v => .geoReset (swapId l) v
  | .geometryWrite l astern i v => .geometryWrite (swapId l) astern i v
  | .markEnable l g v => .markEnable (swapId l) g v
  | .microTick l => .microTick (swapId l)
  | .linkHeld l d => .linkHeld (swapId l) d
  | .commit l w v => .commit (swapId l) (swapWriter w) v
  | .commitCancel l w v => .commitCancel (swapId l) (swapWriter w) v
  | .shadowWrite l w addr v => .shadowWrite (swapId l) (swapWriter w) addr v
  | .routeRamWrite l w addr v => .routeRamWrite (swapId l) (swapWriter w) addr v
  | .schedEnable l v => .schedEnable (swapId l) v
  | .schedDisable l v => .schedDisable (swapId l) v
  | .swapDecision l => .swapDecision (swapId l)
  | .swapDecisionTimeout l r => .swapDecisionTimeout (swapId l) r
  | .start l d => .start (swapId l) d
  | .endCmd l d => .endCmd (swapId l) d
  | .stop l d => .stop (swapId l) d
  | .halt l d => .halt (swapId l) d
  | .profileSelect l n hi v => .profileSelect (swapId l) n hi v
  | .pdist l v => .pdist (swapId l) v
  | .quadCtrlWrite l q v => .quadCtrlWrite (swapId l) q v
  | .dieSettingWrite l d => .dieSettingWrite (swapId l) d
  | .channelEnable l n v => .channelEnable (swapId l) n v
  | .channelDisable l n v => .channelDisable (swapId l) n v
  | .clr l n v => .clr (swapId l) n v
  | .landingReport l => .landingReport (swapId l)
  | .seed l n v => .seed (swapId l) n v
  | .estimateWrite l n v => .estimateWrite (swapId l) n v
  | .boostEnable l k v => .boostEnable (swapId l) k v
  | .boostDisable l k v => .boostDisable (swapId l) k v
  | .dwell l d => .dwell (swapId l) d
  | .spark l d => .spark (swapId l) d
  | .chargeReport l => .chargeReport (swapId l)
  | .gateEnable l g v => .gateEnable (swapId l) g v
  | .gateDisable l g v => .gateDisable (swapId l) g v
  | .gateClear l g v => .gateClear (swapId l) g v
  | .mainOutput l a x overload => .mainOutput (swapId l) a x overload
  | .fastOutput l a x => .fastOutput (swapId l) a x
  | .scanConversionDone l m x overload => .scanConversionDone (swapId l) m x overload
  | .go l m v => .go (swapId l) m v
  | .inj l m v => .inj (swapId l) m v
  | .cal l v => .cal (swapId l) v
  | .calibrationDone l u ofs gain => .calibrationDone (swapId l) u ofs gain
  | .refillDone l a => .refillDone (swapId l) a
  | .angleChannelEnable l a v => .angleChannelEnable (swapId l) a v
  | .angleChannelDisable l a v => .angleChannelDisable (swapId l) a v
  | .adcProtectedWrite l reg v => .adcProtectedWrite (swapId l) reg v
  | .qrdWrite l m v => .qrdWrite (swapId l) m v
  | .summaryWritten l c => .summaryWritten (swapId l) c
  | .guardVerdict l => .guardVerdict (swapId l)
  | .guardVerdictTimeout l c => .guardVerdictTimeout (swapId l) c
  | .cutClr l c v => .cutClr (swapId l) c v
  | .combustionConfigWrite l addr v => .combustionConfigWrite (swapId l) addr v
  | .keepaliveLoss l => .keepaliveLoss (swapId l)
  | .startEligibleTimeout l => .startEligibleTimeout (swapId l)
  | .speedWord l d => .speedWord (swapId l) d
  | .release l v => .release (swapId l) v
  | .handover l v => .handover (swapId l) v
  | .heartbeat l => .heartbeat (swapId l)
  | .heartbeatMissed l badCrc => .heartbeatMissed (swapId l) badCrc
  | .heartbeatSend l => .heartbeatSend (swapId l)
  | .retry l badCrc => .retry (swapId l) badCrc
  | .forwardedWrite l => .forwardedWrite (swapId l)
  | .forwardAck l => .forwardAck (swapId l)
  | .remoteAccess l => .remoteAccess (swapId l)
  | .remoteResponse l => .remoteResponse (swapId l)
  | .rejoinDone l => .rejoinDone (swapId l)
  | .faultMessage l arrives => .faultMessage (swapId l) arrives
  | .fltPendClear l v => .fltPendClear (swapId l) v
  | .safeEnterKey l v => .safeEnterKey (swapId l) v
  | .safeExitKey l v => .safeExitKey (swapId l) v
  | .bist l item pass => .bist (swapId l) item pass
  | .clockFaultRecord l pll => .clockFaultRecord (swapId l) pll
  | .mergeIdleFlush l => .mergeIdleFlush (swapId l)
  | .mergeFlush l v => .mergeFlush (swapId l) v
  | .remapWrite l w i v => .remapWrite (swapId l) (swapWriter w) i v
  | .eraseWrite l w v => .eraseWrite (swapId l) (swapWriter w) v
  | .scrubGo l v => .scrubGo (swapId l) v
  | .scrubAbort l v => .scrubAbort (swapId l) v
  | .scrubWord l => .scrubWord (swapId l)
  | .nop p f => .nop (swapPort p) f
  | .write p f => .write (swapPort p) f
  | .read p f => .read (swapPort p) f
  | .fence p f => .fence (swapPort p) f
  | .fenceComplete p tag => .fenceComplete (swapPort p) tag
  | .readResp p f taken => .readResp (swapPort p) f taken
  | .doze p f => .doze (swapPort p) f
  | .stream p f => .stream (swapPort p) f
  | .streamWaitComplete p q => .streamWaitComplete (swapPort p) q
  | .moderationTimeout p => .moderationTimeout (swapPort p)
  | .portWake p => .portWake (swapPort p)
  | .portReady p => .portReady (swapPort p)
  | .hostWdog p => .hostWdog (swapPort p)
  | .hostSilenceNotice l => .hostSilenceNotice (swapId l)
  | .watchdogEnable p v => .watchdogEnable (swapPort p) v
  | .sourceArrival l k => .sourceArrival (swapId l) k
  | .claim l t => .claim (swapId l) t
  | .complete l t v => .complete (swapId l) t v
  | .clrRec l t v => .clrRec (swapId l) t v
  | .modeWrite l k v => .modeWrite (swapId l) k v
  | .pendingClear l k v => .pendingClear (swapId l) k v
  | .maskWrite l t k v => .maskWrite (swapId l) t k v
  | .swSet l v => .swSet (swapId l) v
  | .swClr l v => .swClr (swapId l) v
  | .remoteLine l => .remoteLine (swapId l)
  | .dmaGo l c w v => .dmaGo (swapId l) c (swapWriter w) v
  | .dmaStop l c v => .dmaStop (swapId l) c v
  | .descriptorFetch l c => .descriptorFetch (swapId l) c
  | .dmaRequest l c => .dmaRequest (swapId l) c
  | .dmaBurst l c => .dmaBurst (swapId l) c
  | .dmaFlowResume l c => .dmaFlowResume (swapId l) c
  | .descriptorDone l c => .descriptorDone (swapId l) c
  | .dmaTimeout l c addr => .dmaTimeout (swapId l) c addr
  | .dmaDescWrite l c v => .dmaDescWrite (swapId l) c v
  | .branch l e => .branch (swapId l) e
  | .waitInstr l e => .waitInstr (swapId l) e
  | .shift l e => .shift (swapId l) e
  | .move l e => .move (swapId l) e
  | .count l e => .count (swapId l) e
  | .time l e => .time (swapId l) e
  | .markInstr l e => .markInstr (swapId l) e
  | .capture l e => .capture (swapId l) e
  | .angle l e => .angle (swapId l) e
  | .stallRelease l e => .stallRelease (swapId l) e
  | .bywayInject l e v => .bywayInject (swapId l) e v
  | .engineEnable l e v => .engineEnable (swapId l) e v
  | .engineDisable l e v => .engineDisable (swapId l) e v
  | .engineClr l e v => .engineClr (swapId l) e v
  | .engineConfigWrite l e reg v => .engineConfigWrite (swapId l) e reg v
  | .txqWrite l w e v => .txqWrite (swapId l) (swapWriter w) e v
  | .rxqRead l e => .rxqRead (swapId l) e
  | .imemWrite l e i v => .imemWrite (swapId l) e i v
  | .bywSync l v => .bywSync (swapId l) v
  | .flagSet l v => .flagSet (swapId l) v
  | .flagClear l v => .flagClear (swapId l) v
  | .pinWrite l dir v => .pinWrite (swapId l) dir v
  | .bywayPinEdge l p level held => .bywayPinEdge (swapId l) p level held
  | .twiGo l v => .twiGo (swapId l) v
  | .twiCommandEnd l o => .twiCommandEnd (swapId l) o
  | .twiRetry l => .twiRetry (swapId l)
  | .ctlEn l v => .ctlEn (swapId l) v
  | .busStuck l sda => .busStuck (swapId l) sda
  | .twiTimeout l => .twiTimeout (swapId l)
  | .targetWrite l addr bytes => .targetWrite (swapId l) addr bytes
  | .targetRead l addr n => .targetRead (swapId l) addr n
  | .twiConfigWrite l reg v => .twiConfigWrite (swapId l) reg v
  | .clock l dev => .clock (swapId l) dev
  | .pllUnlock l => .pllUnlock (swapId l)
  | .warmReset l rail => .warmReset (swapId l) rail
  | .laneRestart l v => .laneRestart (swapId l) v
  | .coreReset l v => .coreReset (swapId l) v
  | .coreWdog l => .coreWdog (swapId l)
  | .coreWdogKick l v => .coreWdogKick (swapId l) v
  | .frstWrite l k v => .frstWrite (swapId l) k v
  | .idleRequest l v => .idleRequest (swapId l) v
  | .runRequest l v => .runRequest (swapId l) v
  | .standbyRequest l v => .standbyRequest (swapId l) v
  | .privilegedWake l i => .privilegedWake (swapId l) i
  | .wakeComplete l slept => .wakeComplete (swapId l) slept
  | .wakeTimer l => .wakeTimer (swapId l)
  | .supplyLoss l => .supplyLoss (swapId l)
  | .supply l vsup => .supply (swapId l) vsup
  | .laneTemp l temp => .laneTemp (swapId l) temp
  | .monId l line => .monId (swapId l) line
  | .monRd l addr n => .monRd (swapId l) addr n
  | .monWr l addr v => .monWr (swapId l) addr v
  | .monBaud l d line => .monBaud (swapId l) d line
  | .monKey l k bytes => .monKey (swapId l) k bytes
  | .monOpt l o => .monOpt (swapId l) o
  | .monLock l => .monLock (swapId l)
  | .monSeal l fuseOk => .monSeal (swapId l) fuseOk
  | .monChal l => .monChal (swapId l)
  | .monResp l r => .monResp (swapId l) r
  | .monRestart l => .monRestart (swapId l)
  | .challengeDelayEnd l => .challengeDelayEnd (swapId l)
  | .nonceExpiry l => .nonceExpiry (swapId l)
  | .scanEnable l m v => .scanEnable (swapId l) m v
  | .keepaliveToggle l => .keepaliveToggle (swapId l)
  | .rejoinCopy l => .rejoinCopy (swapId l)
  | .twiBusFree l => .twiBusFree (swapId l)
  | .engineCycle l e => .engineCycle (swapId l) e
  | .badReq p opcode f => .badReq (swapPort p) opcode f
  | .runRecord l => .runRecord (swapId l)
  | .startWaitEnd n => .startWaitEnd n
  | .offDrop n => .offDrop n
  | .quadDrop n => .quadDrop n
  | .eventTimeEnd n => .eventTimeEnd n
  | .maxDuration n => .maxDuration n
  | .phaseTimeEnd n => .phaseTimeEnd n
  | .currentSample n i iOdd => .currentSample n i iOdd
  | .openPeak n => .openPeak n
  | .decayStuck n => .decayStuck n
  | .boostAbort n => .boostAbort n
  | .hwTrip t => .hwTrip t
  | .dieHot d temp power => .dieHot d temp power
  | .dieFenced d temp power => .dieFenced d temp power
  | .dieCool d temp power => .dieCool d temp power
  | .offDiag q before node after => .offDiag q before node after
  | .profileCopyArrival d => .profileCopyArrival d
  | .landingWindowClose n => .landingWindowClose n
  | .railMeasurement k v => .railMeasurement k v
  | .boostCycleStart k => .boostCycleStart k
  | .boostFetOff k byLimit => .boostFetOff k byLimit
  | .senseFault k => .senseFault k
  | .chgTimeout k => .chgTimeout k
  | .setErr t => .setErr t
  | .lateSpark g => .lateSpark g
  | .restrikeGapEnd g => .restrikeGapEnd g
  | .restrikeDwellEnd g => .restrikeDwellEnd g
  | .overdwell g => .overdwell g
  | .softAbortEnd g => .softAbortEnd g
  | .gateOpenCheck g igs => .gateOpenCheck g igs
  | .gateShort g igs => .gateShort g igs
  | .stuckOn g igs => .stuckOn g igs
  | .junctionDecision f0 f1 f2 => .junctionDecision f0 f1 f2
  | .coastSafe => .coastSafe
  | .authorityChange d => .authorityChange d
  | .heldCommandExpiry d => .heldCommandExpiry d
  | .compareWindowExpiry d => .compareWindowExpiry d
  | .mismatchJudgementTimeout => .mismatchJudgementTimeout
  | .comparisonOn => .comparisonOn
  | .driveSupplyLoss => .driveSupplyLoss
  | .sensorSupplyShutdown x hot => .sensorSupplyShutdown x hot
  | .sensorSupplyRetry x => .sensorSupplyRetry x

theorem swapId_swapId (l : LaneId) : swapId (swapId l) = l := by cases l <;> rfl

theorem swapPort_swapPort : ∀ p, swapPort (swapPort p) = p := by decide

theorem swapWriter_swapWriter (w : Writer) : swapWriter (swapWriter w) = w := by
  cases w <;> simp [swapWriter, swapPort_swapPort]

theorem hostPortLane_swapPort : ∀ p, hostPortLane (swapPort p) = swapId (hostPortLane p) := by decide

/-- What the family says of a command. -/
def LaneSwap.Statement (i : Instr) : Prop :=
  swapLane (swapLane i) = i ∧ (swapLane i).wf = i.wf ∧ (swapLane i).needsLane = i.needsLane.map swapId

theorem LaneSwap.registerWrite (l : LaneId) (m : Writer) (addr : BitVec 32) (v : Word) : LaneSwap.Statement (.registerWrite l m addr v) :=
  ⟨by cases l <;> exact congrArg (fun m => Instr.registerWrite _ m addr v) (swapWriter_swapWriter m), rfl, rfl⟩
theorem LaneSwap.coldPowerUp (l : LaneId) : LaneSwap.Statement (.coldPowerUp l) :=
  ⟨by cases l <;> rfl, rfl, rfl⟩
theorem LaneSwap.memoryInitDone (b : BootEnd) : LaneSwap.Statement (.memoryInitDone b) :=
  ⟨by rcases b with ⟨_ | _, _⟩ <;> rfl, rfl, rfl⟩
theorem LaneSwap.pllLock (b : BootEnd) : LaneSwap.Statement (.pllLock b) :=
  ⟨by rcases b with ⟨_ | _, _⟩ <;> rfl, rfl, rfl⟩
theorem LaneSwap.pllLockTimeout (l : LaneId) : LaneSwap.Statement (.pllLockTimeout l) :=
  ⟨by cases l <;> rfl, rfl, rfl⟩
theorem LaneSwap.digestExchange (l : LaneId) : LaneSwap.Statement (.digestExchange l) :=
  ⟨by cases l <;> rfl, rfl, rfl⟩
theorem LaneSwap.partnerReportTimeout (l : LaneId) : LaneSwap.Statement (.partnerReportTimeout l) :=
  ⟨by cases l <;> rfl, rfl, rfl⟩
theorem LaneSwap.imageRepair (l : LaneId) : LaneSwap.Statement (.imageRepair l) :=
  ⟨by cases l <;> rfl, rfl, rfl⟩
theorem LaneSwap.journalPageWrite (l : LaneId) (fails : Bool) : LaneSwap.Statement (.journalPageWrite l fails) :=
  ⟨by cases l <;> rfl, rfl, rfl⟩
theorem LaneSwap.snapshot (l : LaneId) : LaneSwap.Statement (.snapshot l) :=
  ⟨by cases l <;> rfl, rfl, rfl⟩
theorem LaneSwap.patrol (l : LaneId) : LaneSwap.Statement (.patrol l) :=
  ⟨by cases l <;> rfl, rfl, rfl⟩
theorem LaneSwap.scrubInterval (l : LaneId) : LaneSwap.Statement (.scrubInterval l) :=
  ⟨by cases l <;> rfl, rfl, rfl⟩
theorem LaneSwap.install (l : LaneId) : LaneSwap.Statement (.install l) :=
  ⟨by cases l <;> rfl, rfl, rfl⟩
theorem LaneSwap.installDone (l : LaneId) (fails : Bool) : LaneSwap.Statement (.installDone l fails) :=
  ⟨by cases l <;> rfl, rfl, rfl⟩
theorem LaneSwap.crankEdge (l : LaneId) (sec : Bool) (e : EdgeIn) : LaneSwap.Statement (.crankEdge l sec e) :=
  ⟨by cases l <;> rfl, rfl, rfl⟩
theorem LaneSwap.directionConfirmed (l : LaneId) (e : EdgeIn) : LaneSwap.Statement (.directionConfirmed l e) :=
  ⟨by cases l <;> rfl, rfl, rfl⟩
theorem LaneSwap.camEdge (l : LaneId) (e : EdgeIn) : LaneSwap.Statement (.camEdge l e) :=
  ⟨by cases l <;> rfl, rfl, rfl⟩
theorem LaneSwap.virtualEdge (l : LaneId) : LaneSwap.Statement (.virtualEdge l) :=
  ⟨by cases l <;> rfl, rfl, rfl⟩
theorem LaneSwap.holdSpanEnd (l : LaneId) : LaneSwap.Statement (.holdSpanEnd l) :=
  ⟨by cases l <;> rfl, rfl, rfl⟩
theorem LaneSwap.stall (l : LaneId) : LaneSwap.Statement (.stall l) :=
  ⟨by cases l <;> rfl, rfl, rfl⟩
theorem LaneSwap.silent (l : LaneId) (sec : Bool) : LaneSwap.Statement (.silent l sec) :=
  ⟨by cases l <;> rfl, rfl, rfl⟩
theorem LaneSwap.holdLimit (l : LaneId) : LaneSwap.Statement (.holdLimit l) :=
  ⟨by cases l <;> rfl, rfl, rfl⟩
theorem LaneSwap.conflictLimit (l : LaneId) : LaneSwap.Statement (.conflictLimit l) :=
  ⟨by cases l <;> rfl, rfl, rfl⟩
theorem LaneSwap.camMiss (l : LaneId) : LaneSwap.Statement (.camMiss l) :=
  ⟨by cases l <;> rfl, rfl, rfl⟩
theorem LaneSwap.camSilent (l : LaneId) : LaneSwap.Statement (.camSilent l) :=
  ⟨by cases l <;> rfl, rfl, rfl⟩
theorem LaneSwap.odoEnable (l : LaneId) (v : Word) : LaneSwap.Statement (.odoEnable l v) :=
  ⟨by cases l <;> rfl, rfl, rfl⟩
theorem LaneSwap.odoDisable (l : LaneId) (v : Word) : LaneSwap.Statement (.odoDisable l v) :=
  ⟨by cases l <;> rfl, rfl, rfl⟩
theorem LaneSwap.resync (l : LaneId) (v : Word) : LaneSwap.Statement (.resync l v) :=
  ⟨by cases l <;> rfl, rfl, rfl⟩
theorem LaneSwap.odoConfigWrite (l : LaneId) (reg : OdoCfgReg) (v : Word) : LaneSwap.Statement (.odoConfigWrite l reg v) :=
  ⟨by cases l <;> rfl, rfl, rfl⟩
theorem LaneSwap.geoReset (l : LaneId) (v : Word) : LaneSwap.Statement (.geoReset l v) :=
  ⟨by cases l <;> rfl, rfl, rfl⟩
theorem LaneSwap.geometryWrite (l : LaneId) (astern : Bool) (i : Fin 1024) (v : Word) : LaneSwap.Statement (.geometryWrite l astern i v) :=
  ⟨by cases l <;> rfl, rfl, rfl⟩
theorem LaneSwap.markEnable (l : LaneId) (g : Fin 8) (v : Word) : LaneSwap.Statement (.markEnable l g v) :=
  ⟨by cases l <;> rfl, rfl, rfl⟩
theorem LaneSwap.microTick (l : LaneId) : LaneSwap.Statement (.microTick l) :=
  ⟨by cases l <;> rfl, rfl, rfl⟩
theorem LaneSwap.linkHeld (l : LaneId) (d : Fin 12) : LaneSwap.Statement (.linkHeld l d) :=
  ⟨by cases l <;> rfl, rfl, rfl⟩
theorem LaneSwap.commit (l : LaneId) (w : Writer) (v : Word) : LaneSwap.Statement (.commit l w v) :=
  ⟨by cases l <;> exact congrArg (fun w => Instr.commit _ w v) (swapWriter_swapWriter w), rfl, rfl⟩
theorem LaneSwap.commitCancel (l : LaneId) (w : Writer) (v : Word) : LaneSwap.Statement (.commitCancel l w v) :=
  ⟨by cases l <;> exact congrArg (fun w => Instr.commitCancel _ w v) (swapWriter_swapWriter w), rfl, rfl⟩
theorem LaneSwap.shadowWrite (l : LaneId) (w : Writer) (addr : BitVec 32) (v : Word) : LaneSwap.Statement (.shadowWrite l w addr v) :=
  ⟨by cases l <;> exact congrArg (fun w => Instr.shadowWrite _ w addr v) (swapWriter_swapWriter w), rfl, rfl⟩
theorem LaneSwap.routeRamWrite (l : LaneId) (w : Writer) (addr : BitVec 32) (v : Word) : LaneSwap.Statement (.routeRamWrite l w addr v) :=
  ⟨by cases l <;> exact congrArg (fun w => Instr.routeRamWrite _ w addr v) (swapWriter_swapWriter w), rfl, rfl⟩
theorem LaneSwap.schedEnable (l : LaneId) (v : Word) : LaneSwap.Statement (.schedEnable l v) :=
  ⟨by cases l <;> rfl, rfl, rfl⟩
theorem LaneSwap.schedDisable (l : LaneId) (v : Word) : LaneSwap.Statement (.schedDisable l v) :=
  ⟨by cases l <;> rfl, rfl, rfl⟩
theorem LaneSwap.swapDecision (l : LaneId) : LaneSwap.Statement (.swapDecision l) :=
  ⟨by cases l <;> rfl, rfl, rfl⟩
theorem LaneSwap.swapDecisionTimeout (l : LaneId) (r : Fin 240) : LaneSwap.Statement (.swapDecisionTimeout l r) :=
  ⟨by cases l <;> rfl, rfl, rfl⟩
theorem LaneSwap.start (l : LaneId) (d : LinkEnd) : LaneSwap.Statement (.start l d) :=
  ⟨by cases l <;> rfl, rfl, rfl⟩
theorem LaneSwap.startWaitEnd (n : Fin 192) : LaneSwap.Statement (.startWaitEnd n) :=
  ⟨rfl, rfl, rfl⟩
theorem LaneSwap.offDrop (n : Fin 192) : LaneSwap.Statement (.offDrop n) :=
  ⟨rfl, rfl, rfl⟩
theorem LaneSwap.quadDrop (n : Fin 192) : LaneSwap.Statement (.quadDrop n) :=
  ⟨rfl, rfl, rfl⟩
theorem LaneSwap.endCmd (l : LaneId) (d : LinkEnd) : LaneSwap.Statement (.endCmd l d) :=
  ⟨by cases l <;> rfl, rfl, rfl⟩
theorem LaneSwap.stop (l : LaneId) (d : LinkEnd) : LaneSwap.Statement (.stop l d) :=
  ⟨by cases l <;> rfl, rfl, rfl⟩
theorem LaneSwap.halt (l : LaneId) (d : LinkEnd) : LaneSwap.Statement (.halt l d) :=
  ⟨by cases l <;> rfl, rfl, rfl⟩
theorem LaneSwap.eventTimeEnd (n : Fin 192) : LaneSwap.Statement (.eventTimeEnd n) :=
  ⟨rfl, rfl, rfl⟩
theorem LaneSwap.maxDuration (n : Fin 192) : LaneSwap.Statement (.maxDuration n) :=
  ⟨rfl, rfl, rfl⟩
theorem LaneSwap.phaseTimeEnd (n : Fin 192) : LaneSwap.Statement (.phaseTimeEnd n) :=
  ⟨rfl, rfl, rfl⟩
theorem LaneSwap.currentSample (n : Fin 192) (i : BitVec 11) (iOdd : BitVec 11) : LaneSwap.Statement (.currentSample n i iOdd) :=
  ⟨rfl, rfl, rfl⟩
theorem LaneSwap.openPeak (n : Fin 192) : LaneSwap.Statement (.openPeak n) :=
  ⟨rfl, rfl, rfl⟩
theorem LaneSwap.decayStuck (n : Fin 192) : LaneSwap.Statement (.decayStuck n) :=
  ⟨rfl, rfl, rfl⟩
theorem LaneSwap.boostAbort (n : Fin 192) : LaneSwap.Statement (.boostAbort n) :=
  ⟨rfl, rfl, rfl⟩
theorem LaneSwap.hwTrip (t : TripPoint) : LaneSwap.Statement (.hwTrip t) :=
  ⟨rfl, rfl, rfl⟩
theorem LaneSwap.dieHot (d : Fin 12) (temp : BitVec 12) (power : BitVec 12) : LaneSwap.Statement (.dieHot d temp power) :=
  ⟨rfl, rfl, rfl⟩
theorem LaneSwap.dieFenced (d : Fin 12) (temp : BitVec 12) (power : BitVec 12) : LaneSwap.Statement (.dieFenced d temp power) :=
  ⟨rfl, rfl, rfl⟩
theorem LaneSwap.dieCool (d : Fin 12) (temp : BitVec 12) (power : BitVec 12) : LaneSwap.Statement (.dieCool d temp power) :=
  ⟨rfl, rfl, rfl⟩
theorem LaneSwap.offDiag (q : Fin 48) (before : BitVec 4) (node : Bool) (after : BitVec 4) : LaneSwap.Statement (.offDiag q before node after) :=
  ⟨rfl, rfl, rfl⟩
theorem LaneSwap.profileSelect (l : LaneId) (n : Fin 192) (hi : Bool) (v : Word) : LaneSwap.Statement (.profileSelect l n hi v) :=
  ⟨by cases l <;> rfl, rfl, rfl⟩
theorem LaneSwap.pdist (l : LaneId) (v : Word) : LaneSwap.Statement (.pdist l v) :=
  ⟨by cases l <;> rfl, rfl, rfl⟩
theorem LaneSwap.profileCopyArrival (d : Fin 12) : LaneSwap.Statement (.profileCopyArrival d) :=
  ⟨rfl, rfl, rfl⟩
theorem LaneSwap.quadCtrlWrite (l : LaneId) (q : Fin 48) (v : Word) : LaneSwap.Statement (.quadCtrlWrite l q v) :=
  ⟨by cases l <;> rfl, rfl, rfl⟩
theorem LaneSwap.dieSettingWrite (l : LaneId) (d : Fin 12) : LaneSwap.Statement (.dieSettingWrite l d) :=
  ⟨by cases l <;> rfl, rfl, rfl⟩
theorem LaneSwap.channelEnable (l : LaneId) (n : Fin 192) (v : Word) : LaneSwap.Statement (.channelEnable l n v) :=
  ⟨by cases l <;> rfl, rfl, rfl⟩
theorem LaneSwap.channelDisable (l : LaneId) (n : Fin 192) (v : Word) : LaneSwap.Statement (.channelDisable l n v) :=
  ⟨by cases l <;> rfl, rfl, rfl⟩
theorem LaneSwap.clr (l : LaneId) (n : Fin 192) (v : Word) : LaneSwap.Statement (.clr l n v) :=
  ⟨by cases l <;> rfl, rfl, rfl⟩
theorem LaneSwap.landingReport (l : LaneId) : LaneSwap.Statement (.landingReport l) :=
  ⟨by cases l <;> rfl, rfl, rfl⟩
theorem LaneSwap.landingWindowClose (n : Fin 192) : LaneSwap.Statement (.landingWindowClose n) :=
  ⟨rfl, rfl, rfl⟩
theorem LaneSwap.seed (l : LaneId) (n : Fin 192) (v : Word) : LaneSwap.Statement (.seed l n v) :=
  ⟨by cases l <;> rfl, rfl, rfl⟩
theorem LaneSwap.estimateWrite (l : LaneId) (n : Fin 192) (v : Word) : LaneSwap.Statement (.estimateWrite l n v) :=
  ⟨by cases l <;> rfl, rfl, rfl⟩
theorem LaneSwap.railMeasurement (k : Fin 4) (v : BitVec 12) : LaneSwap.Statement (.railMeasurement k v) :=
  ⟨rfl, rfl, rfl⟩
theorem LaneSwap.boostCycleStart (k : Fin 4) : LaneSwap.Statement (.boostCycleStart k) :=
  ⟨rfl, rfl, rfl⟩
theorem LaneSwap.boostFetOff (k : Fin 4) (byLimit : Bool) : LaneSwap.Statement (.boostFetOff k byLimit) :=
  ⟨rfl, rfl, rfl⟩
theorem LaneSwap.senseFault (k : Fin 4) : LaneSwap.Statement (.senseFault k) :=
  ⟨rfl, rfl, rfl⟩
theorem LaneSwap.chgTimeout (k : Fin 4) : LaneSwap.Statement (.chgTimeout k) :=
  ⟨rfl, rfl, rfl⟩
theorem LaneSwap.boostEnable (l : LaneId) (k : Fin 4) (v : Word) : LaneSwap.Statement (.boostEnable l k v) :=
  ⟨by cases l <;> rfl, rfl, rfl⟩
theorem LaneSwap.boostDisable (l : LaneId) (k : Fin 4) (v : Word) : LaneSwap.Statement (.boostDisable l k v) :=
  ⟨by cases l <;> rfl, rfl, rfl⟩
theorem LaneSwap.setErr (t : SetTarget) : LaneSwap.Statement (.setErr t) :=
  ⟨rfl, rfl, rfl⟩
theorem LaneSwap.dwell (l : LaneId) (d : LinkEnd) : LaneSwap.Statement (.dwell l d) :=
  ⟨by cases l <;> rfl, rfl, rfl⟩
theorem LaneSwap.spark (l : LaneId) (d : LinkEnd) : LaneSwap.Statement (.spark l d) :=
  ⟨by cases l <;> rfl, rfl, rfl⟩
theorem LaneSwap.lateSpark (g : Fin 48) : LaneSwap.Statement (.lateSpark g) :=
  ⟨rfl, rfl, rfl⟩
theorem LaneSwap.restrikeGapEnd (g : Fin 48) : LaneSwap.Statement (.restrikeGapEnd g) :=
  ⟨rfl, rfl, rfl⟩
theorem LaneSwap.restrikeDwellEnd (g : Fin 48) : LaneSwap.Statement (.restrikeDwellEnd g) :=
  ⟨rfl, rfl, rfl⟩
theorem LaneSwap.overdwell (g : Fin 48) : LaneSwap.Statement (.overdwell g) :=
  ⟨rfl, rfl, rfl⟩
theorem LaneSwap.softAbortEnd (g : Fin 48) : LaneSwap.Statement (.softAbortEnd g) :=
  ⟨rfl, rfl, rfl⟩
theorem LaneSwap.gateOpenCheck (g : Fin 48) (igs : BitVec 10) : LaneSwap.Statement (.gateOpenCheck g igs) :=
  ⟨rfl, rfl, rfl⟩
theorem LaneSwap.gateShort (g : Fin 48) (igs : BitVec 10) : LaneSwap.Statement (.gateShort g igs) :=
  ⟨rfl, rfl, rfl⟩
theorem LaneSwap.stuckOn (g : Fin 48) (igs : BitVec 10) : LaneSwap.Statement (.stuckOn g igs) :=
  ⟨rfl, rfl, rfl⟩
theorem LaneSwap.chargeReport (l : LaneId) : LaneSwap.Statement (.chargeReport l) :=
  ⟨by cases l <;> rfl, rfl, rfl⟩
theorem LaneSwap.gateEnable (l : LaneId) (g : Fin 48) (v : Word) : LaneSwap.Statement (.gateEnable l g v) :=
  ⟨by cases l <;> rfl, rfl, rfl⟩
theorem LaneSwap.gateDisable (l : LaneId) (g : Fin 48) (v : Word) : LaneSwap.Statement (.gateDisable l g v) :=
  ⟨by cases l <;> rfl, rfl, rfl⟩
theorem LaneSwap.gateClear (l : LaneId) (g : Fin 48) (v : Word) : LaneSwap.Statement (.gateClear l g v) :=
  ⟨by cases l <;> rfl, rfl, rfl⟩
theorem LaneSwap.mainOutput (l : LaneId) (a : Fin 24) (x : Int) (overload : Bool) : LaneSwap.Statement (.mainOutput l a x overload) :=
  ⟨by cases l <;> rfl, rfl, rfl⟩
theorem LaneSwap.fastOutput (l : LaneId) (a : Fin 24) (x : BitVec 12) : LaneSwap.Statement (.fastOutput l a x) :=
  ⟨by cases l <;> rfl, rfl, rfl⟩
theorem LaneSwap.scanConversionDone (l : LaneId) (m : Fin 8) (x : Int) (overload : Bool) : LaneSwap.Statement (.scanConversionDone l m x overload) :=
  ⟨by cases l <;> rfl, rfl, rfl⟩
theorem LaneSwap.go (l : LaneId) (m : Fin 8) (v : Word) : LaneSwap.Statement (.go l m v) :=
  ⟨by cases l <;> rfl, rfl, rfl⟩
theorem LaneSwap.inj (l : LaneId) (m : Fin 8) (v : Word) : LaneSwap.Statement (.inj l m v) :=
  ⟨by cases l <;> rfl, rfl, rfl⟩
theorem LaneSwap.cal (l : LaneId) (v : Word) : LaneSwap.Statement (.cal l v) :=
  ⟨by cases l <;> rfl, rfl, rfl⟩
theorem LaneSwap.calibrationDone (l : LaneId) (u : Modulator) (ofs : Int) (gain : BitVec 24) : LaneSwap.Statement (.calibrationDone l u ofs gain) :=
  ⟨by cases l <;> rfl, rfl, rfl⟩
theorem LaneSwap.refillDone (l : LaneId) (a : Fin 24) : LaneSwap.Statement (.refillDone l a) :=
  ⟨by cases l <;> rfl, rfl, rfl⟩
theorem LaneSwap.angleChannelEnable (l : LaneId) (a : Fin 24) (v : Word) : LaneSwap.Statement (.angleChannelEnable l a v) :=
  ⟨by cases l <;> rfl, rfl, rfl⟩
theorem LaneSwap.angleChannelDisable (l : LaneId) (a : Fin 24) (v : Word) : LaneSwap.Statement (.angleChannelDisable l a v) :=
  ⟨by cases l <;> rfl, rfl, rfl⟩
theorem LaneSwap.adcProtectedWrite (l : LaneId) (reg : AdcProtReg) (v : Word) : LaneSwap.Statement (.adcProtectedWrite l reg v) :=
  ⟨by cases l <;> rfl, rfl, rfl⟩
theorem LaneSwap.qrdWrite (l : LaneId) (m : Fin 8) (v : Word) : LaneSwap.Statement (.qrdWrite l m v) :=
  ⟨by cases l <;> rfl, rfl, rfl⟩
theorem LaneSwap.summaryWritten (l : LaneId) (c : Fin 24) : LaneSwap.Statement (.summaryWritten l c) :=
  ⟨by cases l <;> rfl, rfl, rfl⟩
theorem LaneSwap.guardVerdict (l : LaneId) : LaneSwap.Statement (.guardVerdict l) :=
  ⟨by cases l <;> rfl, rfl, rfl⟩
theorem LaneSwap.guardVerdictTimeout (l : LaneId) (c : Fin 24) : LaneSwap.Statement (.guardVerdictTimeout l c) :=
  ⟨by cases l <;> rfl, rfl, rfl⟩
theorem LaneSwap.cutClr (l : LaneId) (c : Fin 24) (v : Word) : LaneSwap.Statement (.cutClr l c v) :=
  ⟨by cases l <;> rfl, rfl, rfl⟩
theorem LaneSwap.combustionConfigWrite (l : LaneId) (addr : BitVec 32) (v : Word) : LaneSwap.Statement (.combustionConfigWrite l addr v) :=
  ⟨by cases l <;> rfl, rfl, rfl⟩
theorem LaneSwap.junctionDecision (f0 : VoterFault) (f1 : VoterFault) (f2 : VoterFault) : LaneSwap.Statement (.junctionDecision f0 f1 f2) :=
  ⟨rfl, rfl, rfl⟩
theorem LaneSwap.keepaliveLoss (l : LaneId) : LaneSwap.Statement (.keepaliveLoss l) :=
  ⟨by cases l <;> rfl, rfl, rfl⟩
theorem LaneSwap.startEligibleTimeout (l : LaneId) : LaneSwap.Statement (.startEligibleTimeout l) :=
  ⟨by cases l <;> rfl, rfl, rfl⟩
theorem LaneSwap.coastSafe : LaneSwap.Statement .coastSafe :=
  ⟨rfl, rfl, rfl⟩
theorem LaneSwap.authorityChange (d : Fin 12) : LaneSwap.Statement (.authorityChange d) :=
  ⟨rfl, rfl, rfl⟩
theorem LaneSwap.heldCommandExpiry (d : Fin 12) : LaneSwap.Statement (.heldCommandExpiry d) :=
  ⟨rfl, rfl, rfl⟩
theorem LaneSwap.speedWord (l : LaneId) (d : LinkEnd) : LaneSwap.Statement (.speedWord l d) :=
  ⟨by cases l <;> rfl, rfl, rfl⟩
theorem LaneSwap.compareWindowExpiry (d : Fin 12) : LaneSwap.Statement (.compareWindowExpiry d) :=
  ⟨rfl, rfl, rfl⟩
theorem LaneSwap.mismatchJudgementTimeout : LaneSwap.Statement .mismatchJudgementTimeout :=
  ⟨rfl, rfl, rfl⟩
theorem LaneSwap.comparisonOn : LaneSwap.Statement .comparisonOn :=
  ⟨rfl, rfl, rfl⟩
theorem LaneSwap.release (l : LaneId) (v : Word) : LaneSwap.Statement (.release l v) :=
  ⟨by cases l <;> rfl, rfl, rfl⟩
theorem LaneSwap.handover (l : LaneId) (v : Word) : LaneSwap.Statement (.handover l v) :=
  ⟨by cases l <;> rfl, rfl, rfl⟩
theorem LaneSwap.heartbeat (l : LaneId) : LaneSwap.Statement (.heartbeat l) :=
  ⟨by cases l <;> rfl, rfl, rfl⟩
theorem LaneSwap.heartbeatMissed (l : LaneId) (badCrc : Bool) : LaneSwap.Statement (.heartbeatMissed l badCrc) :=
  ⟨by cases l <;> rfl, rfl, rfl⟩
theorem LaneSwap.heartbeatSend (l : LaneId) : LaneSwap.Statement (.heartbeatSend l) :=
  ⟨by cases l <;> rfl, rfl, rfl⟩
theorem LaneSwap.retry (l : LaneId) (badCrc : Bool) : LaneSwap.Statement (.retry l badCrc) :=
  ⟨by cases l <;> rfl, rfl, rfl⟩
theorem LaneSwap.forwardedWrite (l : LaneId) : LaneSwap.Statement (.forwardedWrite l) :=
  ⟨by cases l <;> rfl, rfl, rfl⟩
theorem LaneSwap.forwardAck (l : LaneId) : LaneSwap.Statement (.forwardAck l) :=
  ⟨by cases l <;> rfl, rfl, rfl⟩
theorem LaneSwap.remoteAccess (l : LaneId) : LaneSwap.Statement (.remoteAccess l) :=
  ⟨by cases l <;> rfl, rfl, rfl⟩
theorem LaneSwap.remoteResponse (l : LaneId) : LaneSwap.Statement (.remoteResponse l) :=
  ⟨by cases l <;> rfl, rfl, rfl⟩
theorem LaneSwap.rejoinDone (l : LaneId) : LaneSwap.Statement (.rejoinDone l) :=
  ⟨by cases l <;> rfl, rfl, rfl⟩
theorem LaneSwap.faultMessage (l : LaneId) (arrives : Option (Word × Word)) : LaneSwap.Statement (.faultMessage l arrives) :=
  ⟨by cases l <;> rfl, rfl, rfl⟩
theorem LaneSwap.fltPendClear (l : LaneId) (v : Word) : LaneSwap.Statement (.fltPendClear l v) :=
  ⟨by cases l <;> rfl, rfl, rfl⟩
theorem LaneSwap.safeEnterKey (l : LaneId) (v : Word) : LaneSwap.Statement (.safeEnterKey l v) :=
  ⟨by cases l <;> rfl, rfl, rfl⟩
theorem LaneSwap.safeExitKey (l : LaneId) (v : Word) : LaneSwap.Statement (.safeExitKey l v) :=
  ⟨by cases l <;> rfl, rfl, rfl⟩
theorem LaneSwap.bist (l : LaneId) (item : Fin 10) (pass : Bool) : LaneSwap.Statement (.bist l item pass) :=
  ⟨by cases l <;> rfl, rfl, rfl⟩
theorem LaneSwap.clockFaultRecord (l : LaneId) (pll : Bool) : LaneSwap.Statement (.clockFaultRecord l pll) :=
  ⟨by cases l <;> rfl, rfl, rfl⟩
theorem LaneSwap.mergeIdleFlush (l : LaneId) : LaneSwap.Statement (.mergeIdleFlush l) :=
  ⟨by cases l <;> rfl, rfl, rfl⟩
theorem LaneSwap.mergeFlush (l : LaneId) (v : Word) : LaneSwap.Statement (.mergeFlush l v) :=
  ⟨by cases l <;> rfl, rfl, rfl⟩
theorem LaneSwap.remapWrite (l : LaneId) (w : Writer) (i : Fin 16) (v : Word) : LaneSwap.Statement (.remapWrite l w i v) :=
  ⟨by cases l <;> exact congrArg (fun w => Instr.remapWrite _ w i v) (swapWriter_swapWriter w), rfl, rfl⟩
theorem LaneSwap.eraseWrite (l : LaneId) (w : Writer) (v : Word) : LaneSwap.Statement (.eraseWrite l w v) :=
  ⟨by cases l <;> exact congrArg (fun w => Instr.eraseWrite _ w v) (swapWriter_swapWriter w), rfl, rfl⟩
theorem LaneSwap.scrubGo (l : LaneId) (v : Word) : LaneSwap.Statement (.scrubGo l v) :=
  ⟨by cases l <;> rfl, rfl, rfl⟩
theorem LaneSwap.scrubAbort (l : LaneId) (v : Word) : LaneSwap.Statement (.scrubAbort l v) :=
  ⟨by cases l <;> rfl, rfl, rfl⟩
theorem LaneSwap.scrubWord (l : LaneId) : LaneSwap.Statement (.scrubWord l) :=
  ⟨by cases l <;> rfl, rfl, rfl⟩
theorem LaneSwap.nop (p : Fin 4) (f : Frame) : LaneSwap.Statement (.nop p f) :=
  ⟨congrArg (fun p => Instr.nop p f) (swapPort_swapPort p), rfl, congrArg some (hostPortLane_swapPort p)⟩
theorem LaneSwap.write (p : Fin 4) (f : Frame) : LaneSwap.Statement (.write p f) :=
  ⟨congrArg (fun p => Instr.write p f) (swapPort_swapPort p), rfl, congrArg some (hostPortLane_swapPort p)⟩
theorem LaneSwap.read (p : Fin 4) (f : Frame) : LaneSwap.Statement (.read p f) :=
  ⟨congrArg (fun p => Instr.read p f) (swapPort_swapPort p), rfl, congrArg some (hostPortLane_swapPort p)⟩
theorem LaneSwap.fence (p : Fin 4) (f : Frame) : LaneSwap.Statement (.fence p f) :=
  ⟨congrArg (fun p => Instr.fence p f) (swapPort_swapPort p), rfl, congrArg some (hostPortLane_swapPort p)⟩
theorem LaneSwap.fenceComplete (p : Fin 4) (tag : Fin 64) : LaneSwap.Statement (.fenceComplete p tag) :=
  ⟨congrArg (fun p => Instr.fenceComplete p tag) (swapPort_swapPort p), rfl, congrArg some (hostPortLane_swapPort p)⟩
theorem LaneSwap.readResp (p : Fin 4) (f : Frame) (taken : Nat) : LaneSwap.Statement (.readResp p f taken) :=
  ⟨congrArg (fun p => Instr.readResp p f taken) (swapPort_swapPort p), rfl, congrArg some (hostPortLane_swapPort p)⟩
theorem LaneSwap.doze (p : Fin 4) (f : Frame) : LaneSwap.Statement (.doze p f) :=
  ⟨congrArg (fun p => Instr.doze p f) (swapPort_swapPort p), rfl, congrArg some (hostPortLane_swapPort p)⟩
theorem LaneSwap.stream (p : Fin 4) (f : Frame) : LaneSwap.Statement (.stream p f) :=
  ⟨congrArg (fun p => Instr.stream p f) (swapPort_swapPort p), rfl, congrArg some (hostPortLane_swapPort p)⟩
theorem LaneSwap.streamWaitComplete (p : Fin 4) (q : Fin 4) : LaneSwap.Statement (.streamWaitComplete p q) :=
  ⟨congrArg (fun p => Instr.streamWaitComplete p q) (swapPort_swapPort p), rfl, congrArg some (hostPortLane_swapPort p)⟩
theorem LaneSwap.moderationTimeout (p : Fin 4) : LaneSwap.Statement (.moderationTimeout p) :=
  ⟨congrArg (fun p => Instr.moderationTimeout p) (swapPort_swapPort p), rfl, congrArg some (hostPortLane_swapPort p)⟩
theorem LaneSwap.portWake (p : Fin 4) : LaneSwap.Statement (.portWake p) :=
  ⟨congrArg (fun p => Instr.portWake p) (swapPort_swapPort p), rfl, congrArg some (hostPortLane_swapPort p)⟩
theorem LaneSwap.portReady (p : Fin 4) : LaneSwap.Statement (.portReady p) :=
  ⟨congrArg (fun p => Instr.portReady p) (swapPort_swapPort p), rfl, congrArg some (hostPortLane_swapPort p)⟩
theorem LaneSwap.hostWdog (p : Fin 4) : LaneSwap.Statement (.hostWdog p) :=
  ⟨congrArg (fun p => Instr.hostWdog p) (swapPort_swapPort p), rfl, congrArg some (hostPortLane_swapPort p)⟩
theorem LaneSwap.hostSilenceNotice (l : LaneId) : LaneSwap.Statement (.hostSilenceNotice l) :=
  ⟨by cases l <;> rfl, rfl, rfl⟩
theorem LaneSwap.watchdogEnable (p : Fin 4) (v : Word) : LaneSwap.Statement (.watchdogEnable p v) :=
  ⟨congrArg (fun p => Instr.watchdogEnable p v) (swapPort_swapPort p), rfl, congrArg some (hostPortLane_swapPort p)⟩
theorem LaneSwap.sourceArrival (l : LaneId) (k : Fin 256) : LaneSwap.Statement (.sourceArrival l k) :=
  ⟨by cases l <;> rfl, rfl, rfl⟩
theorem LaneSwap.claim (l : LaneId) (t : Fin 5) : LaneSwap.Statement (.claim l t) :=
  ⟨by cases l <;> rfl, rfl, rfl⟩
theorem LaneSwap.complete (l : LaneId) (t : Fin 5) (v : Word) : LaneSwap.Statement (.complete l t v) :=
  ⟨by cases l <;> rfl, rfl, rfl⟩
theorem LaneSwap.clrRec (l : LaneId) (t : Fin 5) (v : Word) : LaneSwap.Statement (.clrRec l t v) :=
  ⟨by cases l <;> rfl, rfl, rfl⟩
theorem LaneSwap.modeWrite (l : LaneId) (k : Fin 16) (v : Word) : LaneSwap.Statement (.modeWrite l k v) :=
  ⟨by cases l <;> rfl, rfl, rfl⟩
theorem LaneSwap.pendingClear (l : LaneId) (k : Fin 8) (v : Word) : LaneSwap.Statement (.pendingClear l k v) :=
  ⟨by cases l <;> rfl, rfl, rfl⟩
theorem LaneSwap.maskWrite (l : LaneId) (t : Fin 5) (k : Fin 8) (v : Word) : LaneSwap.Statement (.maskWrite l t k v) :=
  ⟨by cases l <;> rfl, rfl, rfl⟩
theorem LaneSwap.swSet (l : LaneId) (v : Word) : LaneSwap.Statement (.swSet l v) :=
  ⟨by cases l <;> rfl, rfl, rfl⟩
theorem LaneSwap.swClr (l : LaneId) (v : Word) : LaneSwap.Statement (.swClr l v) :=
  ⟨by cases l <;> rfl, rfl, rfl⟩
theorem LaneSwap.remoteLine (l : LaneId) : LaneSwap.Statement (.remoteLine l) :=
  ⟨by cases l <;> rfl, rfl, rfl⟩
theorem LaneSwap.dmaGo (l : LaneId) (c : Fin 16) (w : Writer) (v : Word) : LaneSwap.Statement (.dmaGo l c w v) :=
  ⟨by cases l <;> exact congrArg (fun w => Instr.dmaGo _ c w v) (swapWriter_swapWriter w), rfl, rfl⟩
theorem LaneSwap.dmaStop (l : LaneId) (c : Fin 16) (v : Word) : LaneSwap.Statement (.dmaStop l c v) :=
  ⟨by cases l <;> rfl, rfl, rfl⟩
theorem LaneSwap.descriptorFetch (l : LaneId) (c : Fin 16) : LaneSwap.Statement (.descriptorFetch l c) :=
  ⟨by cases l <;> rfl, rfl, rfl⟩
theorem LaneSwap.dmaRequest (l : LaneId) (c : Fin 16) : LaneSwap.Statement (.dmaRequest l c) :=
  ⟨by cases l <;> rfl, rfl, rfl⟩
theorem LaneSwap.dmaBurst (l : LaneId) (c : Fin 16) : LaneSwap.Statement (.dmaBurst l c) :=
  ⟨by cases l <;> rfl, rfl, rfl⟩
theorem LaneSwap.dmaFlowResume (l : LaneId) (c : Fin 16) : LaneSwap.Statement (.dmaFlowResume l c) :=
  ⟨by cases l <;> rfl, rfl, rfl⟩
theorem LaneSwap.descriptorDone (l : LaneId) (c : Fin 16) : LaneSwap.Statement (.descriptorDone l c) :=
  ⟨by cases l <;> rfl, rfl, rfl⟩
theorem LaneSwap.dmaTimeout (l : LaneId) (c : Fin 16) (addr : BitVec 32) : LaneSwap.Statement (.dmaTimeout l c addr) :=
  ⟨by cases l <;> rfl, rfl, rfl⟩
theorem LaneSwap.dmaDescWrite (l : LaneId) (c : Fin 16) (v : Word) : LaneSwap.Statement (.dmaDescWrite l c v) :=
  ⟨by cases l <;> rfl, rfl, rfl⟩
theorem LaneSwap.branch (l : LaneId) (e : Fin 8) : LaneSwap.Statement (.branch l e) :=
  ⟨by cases l <;> rfl, rfl, rfl⟩
theorem LaneSwap.waitInstr (l : LaneId) (e : Fin 8) : LaneSwap.Statement (.waitInstr l e) :=
  ⟨by cases l <;> rfl, rfl, rfl⟩
theorem LaneSwap.shift (l : LaneId) (e : Fin 8) : LaneSwap.Statement (.shift l e) :=
  ⟨by cases l <;> rfl, rfl, rfl⟩
theorem LaneSwap.move (l : LaneId) (e : Fin 8) : LaneSwap.Statement (.move l e) :=
  ⟨by cases l <;> rfl, rfl, rfl⟩
theorem LaneSwap.count (l : LaneId) (e : Fin 8) : LaneSwap.Statement (.count l e) :=
  ⟨by cases l <;> rfl, rfl, rfl⟩
theorem LaneSwap.time (l : LaneId) (e : Fin 8) : LaneSwap.Statement (.time l e) :=
  ⟨by cases l <;> rfl, rfl, rfl⟩
theorem LaneSwap.markInstr (l : LaneId) (e : Fin 8) : LaneSwap.Statement (.markInstr l e) :=
  ⟨by cases l <;> rfl, rfl, rfl⟩
theorem LaneSwap.capture (l : LaneId) (e : Fin 8) : LaneSwap.Statement (.capture l e) :=
  ⟨by cases l <;> rfl, rfl, rfl⟩
theorem LaneSwap.angle (l : LaneId) (e : Fin 8) : LaneSwap.Statement (.angle l e) :=
  ⟨by cases l <;> rfl, rfl, rfl⟩
theorem LaneSwap.stallRelease (l : LaneId) (e : Fin 8) : LaneSwap.Statement (.stallRelease l e) :=
  ⟨by cases l <;> rfl, rfl, rfl⟩
theorem LaneSwap.bywayInject (l : LaneId) (e : Fin 8) (v : Word) : LaneSwap.Statement (.bywayInject l e v) :=
  ⟨by cases l <;> rfl, rfl, rfl⟩
theorem LaneSwap.engineEnable (l : LaneId) (e : Fin 8) (v : Word) : LaneSwap.Statement (.engineEnable l e v) :=
  ⟨by cases l <;> rfl, rfl, rfl⟩
theorem LaneSwap.engineDisable (l : LaneId) (e : Fin 8) (v : Word) : LaneSwap.Statement (.engineDisable l e v) :=
  ⟨by cases l <;> rfl, rfl, rfl⟩
theorem LaneSwap.engineClr (l : LaneId) (e : Fin 8) (v : Word) : LaneSwap.Statement (.engineClr l e v) :=
  ⟨by cases l <;> rfl, rfl, rfl⟩
theorem LaneSwap.engineConfigWrite (l : LaneId) (e : Fin 8) (reg : BywCfgReg) (v : Word) : LaneSwap.Statement (.engineConfigWrite l e reg v) :=
  ⟨by cases l <;> rfl, rfl, rfl⟩
theorem LaneSwap.txqWrite (l : LaneId) (w : Writer) (e : Fin 8) (v : Word) : LaneSwap.Statement (.txqWrite l w e v) :=
  ⟨by cases l <;> exact congrArg (fun w => Instr.txqWrite _ w e v) (swapWriter_swapWriter w), rfl, rfl⟩
theorem LaneSwap.rxqRead (l : LaneId) (e : Fin 8) : LaneSwap.Statement (.rxqRead l e) :=
  ⟨by cases l <;> rfl, rfl, rfl⟩
theorem LaneSwap.imemWrite (l : LaneId) (e : Fin 8) (i : Fin 32) (v : Word) : LaneSwap.Statement (.imemWrite l e i v) :=
  ⟨by cases l <;> rfl, rfl, rfl⟩
theorem LaneSwap.bywSync (l : LaneId) (v : Word) : LaneSwap.Statement (.bywSync l v) :=
  ⟨by cases l <;> rfl, rfl, rfl⟩
theorem LaneSwap.flagSet (l : LaneId) (v : Word) : LaneSwap.Statement (.flagSet l v) :=
  ⟨by cases l <;> rfl, rfl, rfl⟩
theorem LaneSwap.flagClear (l : LaneId) (v : Word) : LaneSwap.Statement (.flagClear l v) :=
  ⟨by cases l <;> rfl, rfl, rfl⟩
theorem LaneSwap.pinWrite (l : LaneId) (dir : Bool) (v : Word) : LaneSwap.Statement (.pinWrite l dir v) :=
  ⟨by cases l <;> rfl, rfl, rfl⟩
theorem LaneSwap.bywayPinEdge (l : LaneId) (p : Fin 16) (level : Bool) (held : Nat) : LaneSwap.Statement (.bywayPinEdge l p level held) :=
  ⟨by cases l <;> rfl, rfl, rfl⟩
theorem LaneSwap.twiGo (l : LaneId) (v : Word) : LaneSwap.Statement (.twiGo l v) :=
  ⟨by cases l <;> rfl, rfl, rfl⟩
theorem LaneSwap.twiCommandEnd (l : LaneId) (o : TwiOutcome) : LaneSwap.Statement (.twiCommandEnd l o) :=
  ⟨by cases l <;> rfl, rfl, rfl⟩
theorem LaneSwap.twiRetry (l : LaneId) : LaneSwap.Statement (.twiRetry l) :=
  ⟨by cases l <;> rfl, rfl, rfl⟩
theorem LaneSwap.ctlEn (l : LaneId) (v : Word) : LaneSwap.Statement (.ctlEn l v) :=
  ⟨by cases l <;> rfl, rfl, rfl⟩
theorem LaneSwap.busStuck (l : LaneId) (sda : Bool) : LaneSwap.Statement (.busStuck l sda) :=
  ⟨by cases l <;> rfl, rfl, rfl⟩
theorem LaneSwap.twiTimeout (l : LaneId) : LaneSwap.Statement (.twiTimeout l) :=
  ⟨by cases l <;> rfl, rfl, rfl⟩
theorem LaneSwap.targetWrite (l : LaneId) (addr : BitVec 7) (bytes : List Byte) : LaneSwap.Statement (.targetWrite l addr bytes) :=
  ⟨by cases l <;> rfl, rfl, rfl⟩
theorem LaneSwap.targetRead (l : LaneId) (addr : BitVec 7) (n : Nat) : LaneSwap.Statement (.targetRead l addr n) :=
  ⟨by cases l <;> rfl, rfl, rfl⟩
theorem LaneSwap.twiConfigWrite (l : LaneId) (reg : TwiCfgReg) (v : Word) : LaneSwap.Statement (.twiConfigWrite l reg v) :=
  ⟨by cases l <;> rfl, rfl, rfl⟩
theorem LaneSwap.clock (l : LaneId) (dev : BitVec 16) : LaneSwap.Statement (.clock l dev) :=
  ⟨by cases l <;> rfl, rfl, rfl⟩
theorem LaneSwap.pllUnlock (l : LaneId) : LaneSwap.Statement (.pllUnlock l) :=
  ⟨by cases l <;> rfl, rfl, rfl⟩
theorem LaneSwap.warmReset (l : LaneId) (rail : Bool) : LaneSwap.Statement (.warmReset l rail) :=
  ⟨by cases l <;> rfl, rfl, rfl⟩
theorem LaneSwap.laneRestart (l : LaneId) (v : Word) : LaneSwap.Statement (.laneRestart l v) :=
  ⟨by cases l <;> rfl, rfl, rfl⟩
theorem LaneSwap.coreReset (l : LaneId) (v : Word) : LaneSwap.Statement (.coreReset l v) :=
  ⟨by cases l <;> rfl, rfl, rfl⟩
theorem LaneSwap.coreWdog (l : LaneId) : LaneSwap.Statement (.coreWdog l) :=
  ⟨by cases l <;> rfl, rfl, rfl⟩
theorem LaneSwap.coreWdogKick (l : LaneId) (v : Word) : LaneSwap.Statement (.coreWdogKick l v) :=
  ⟨by cases l <;> rfl, rfl, rfl⟩
theorem LaneSwap.frstWrite (l : LaneId) (k : Fin 10) (v : Word) : LaneSwap.Statement (.frstWrite l k v) :=
  ⟨by cases l <;> rfl, rfl, rfl⟩
theorem LaneSwap.idleRequest (l : LaneId) (v : Word) : LaneSwap.Statement (.idleRequest l v) :=
  ⟨by cases l <;> rfl, rfl, rfl⟩
theorem LaneSwap.runRequest (l : LaneId) (v : Word) : LaneSwap.Statement (.runRequest l v) :=
  ⟨by cases l <;> rfl, rfl, rfl⟩
theorem LaneSwap.standbyRequest (l : LaneId) (v : Word) : LaneSwap.Statement (.standbyRequest l v) :=
  ⟨by cases l <;> rfl, rfl, rfl⟩
theorem LaneSwap.privilegedWake (l : LaneId) (i : Fin 6) : LaneSwap.Statement (.privilegedWake l i) :=
  ⟨by cases l <;> rfl, rfl, rfl⟩
theorem LaneSwap.wakeComplete (l : LaneId) (slept : Nat) : LaneSwap.Statement (.wakeComplete l slept) :=
  ⟨by cases l <;> rfl, rfl, rfl⟩
theorem LaneSwap.wakeTimer (l : LaneId) : LaneSwap.Statement (.wakeTimer l) :=
  ⟨by cases l <;> rfl, rfl, rfl⟩
theorem LaneSwap.supplyLoss (l : LaneId) : LaneSwap.Statement (.supplyLoss l) :=
  ⟨by cases l <;> rfl, rfl, rfl⟩
theorem LaneSwap.driveSupplyLoss : LaneSwap.Statement .driveSupplyLoss :=
  ⟨rfl, rfl, rfl⟩
theorem LaneSwap.supply (l : LaneId) (vsup : Nat) : LaneSwap.Statement (.supply l vsup) :=
  ⟨by cases l <;> rfl, rfl, rfl⟩
theorem LaneSwap.laneTemp (l : LaneId) (temp : BitVec 16) : LaneSwap.Statement (.laneTemp l temp) :=
  ⟨by cases l <;> rfl, rfl, rfl⟩
theorem LaneSwap.monId (l : LaneId) (line : MonLine) : LaneSwap.Statement (.monId l line) :=
  ⟨by cases l <;> rfl, rfl, rfl⟩
theorem LaneSwap.monRd (l : LaneId) (addr : BitVec 32) (n : Nat) : LaneSwap.Statement (.monRd l addr n) :=
  ⟨by cases l <;> rfl, rfl, rfl⟩
theorem LaneSwap.monWr (l : LaneId) (addr : BitVec 32) (v : Word) : LaneSwap.Statement (.monWr l addr v) :=
  ⟨by cases l <;> rfl, rfl, rfl⟩
theorem LaneSwap.monBaud (l : LaneId) (d : Word) (line : MonLine) : LaneSwap.Statement (.monBaud l d line) :=
  ⟨by cases l <;> rfl, rfl, rfl⟩
theorem LaneSwap.monKey (l : LaneId) (k : KeyName) (bytes : List Byte) : LaneSwap.Statement (.monKey l k bytes) :=
  ⟨by cases l <;> rfl, rfl, rfl⟩
theorem LaneSwap.monOpt (l : LaneId) (o : OptArg) : LaneSwap.Statement (.monOpt l o) :=
  ⟨by cases l <;> rfl, rfl, rfl⟩
theorem LaneSwap.monLock (l : LaneId) : LaneSwap.Statement (.monLock l) :=
  ⟨by cases l <;> rfl, rfl, rfl⟩
theorem LaneSwap.monSeal (l : LaneId) (fuseOk : Bool) : LaneSwap.Statement (.monSeal l fuseOk) :=
  ⟨by cases l <;> rfl, rfl, rfl⟩
theorem LaneSwap.monChal (l : LaneId) : LaneSwap.Statement (.monChal l) :=
  ⟨by cases l <;> rfl, rfl, rfl⟩
theorem LaneSwap.monResp (l : LaneId) (r : RespArg) : LaneSwap.Statement (.monResp l r) :=
  ⟨by cases l <;> rfl, rfl, rfl⟩
theorem LaneSwap.monRestart (l : LaneId) : LaneSwap.Statement (.monRestart l) :=
  ⟨by cases l <;> rfl, rfl, rfl⟩
theorem LaneSwap.challengeDelayEnd (l : LaneId) : LaneSwap.Statement (.challengeDelayEnd l) :=
  ⟨by cases l <;> rfl, rfl, rfl⟩
theorem LaneSwap.nonceExpiry (l : LaneId) : LaneSwap.Statement (.nonceExpiry l) :=
  ⟨by cases l <;> rfl, rfl, rfl⟩
theorem LaneSwap.scanEnable (l : LaneId) (m : Fin 8) (v : Word) : LaneSwap.Statement (.scanEnable l m v) :=
  ⟨by cases l <;> rfl, rfl, rfl⟩
theorem LaneSwap.keepaliveToggle (l : LaneId) : LaneSwap.Statement (.keepaliveToggle l) :=
  ⟨by cases l <;> rfl, rfl, rfl⟩
theorem LaneSwap.rejoinCopy (l : LaneId) : LaneSwap.Statement (.rejoinCopy l) :=
  ⟨by cases l <;> rfl, rfl, rfl⟩
theorem LaneSwap.twiBusFree (l : LaneId) : LaneSwap.Statement (.twiBusFree l) :=
  ⟨by cases l <;> rfl, rfl, rfl⟩
theorem LaneSwap.engineCycle (l : LaneId) (e : Fin 8) : LaneSwap.Statement (.engineCycle l e) :=
  ⟨by cases l <;> rfl, rfl, rfl⟩
theorem LaneSwap.badReq (p : Fin 4) (opcode : Byte) (f : Frame) : LaneSwap.Statement (.badReq p opcode f) :=
  ⟨congrArg (fun p => Instr.badReq p opcode f) (swapPort_swapPort p), rfl, congrArg some (hostPortLane_swapPort p)⟩
theorem LaneSwap.runRecord (l : LaneId) : LaneSwap.Statement (.runRecord l) :=
  ⟨by cases l <;> rfl, rfl, rfl⟩
theorem LaneSwap.sensorSupplyShutdown (x : Fin 8) (hot : Bool) : LaneSwap.Statement (.sensorSupplyShutdown x hot) :=
  ⟨rfl, rfl, rfl⟩
theorem LaneSwap.sensorSupplyRetry (x : Fin 8) : LaneSwap.Statement (.sensorSupplyRetry x) :=
  ⟨rfl, rfl, rfl⟩

end Sys2Proof.Laws
end

