-- ==== Sys2Proof/Laws/Rows.lean ====
section
/-! SUPPORT. What the shared operations behind single rows can do: what waits in the cycle, a die without supply, a turn of the DMA engine, the lock of
the PLL, the hour of the journal's budget, the block of a READ_RESP, and a bus that another controller takes. -/

namespace Sys2Proof.Machine

/-- With nothing waiting in the cycle no write comes before an access (13_memory.md R279). -/
theorem State.writesFirst_of_empty (s : State) (l : LaneId) (a n : Nat) (h : s.pending = []) : s.writesFirst l a n = s := by
  simp [State.writesFirst, h]

/-- With nothing waiting in the cycle no access of the host comes before an engine's (18_byways.md R380). -/
theorem State.hostAhead_of_empty (s : State) (l : LaneId) (e : Nat) (h : s.pending = []) : s.hostAhead l e = s := by
  simp [State.hostAhead, h]

/-- No command moves a switch while VSUP is absent (22_electrical.md R426). -/
@[simp] theorem State.dieExec_of_vsupLow (s : State) (l : LaneId) (d : Nat) (c : DrvCmd) (h : s.vsupLow = true) :
    s.dieExec l d c = s := by
  simp [State.dieExec, h]

/-- A turn reads at most 64 bytes, and no more than the channel's 2 KiB leave room for (17_dma.md R358). -/
theorem Lane.dmaReads_le (L : Lane) (c : Nat) : L.dmaReads c ≤ 64 ∧ L.dmaReads c ≤ 2048 - 4 * (L.dch c).buf.length := by
  simp only [Lane.dmaReads]
  split <;> omega

/-- A turn writes at most 64 bytes, all of them from the buffer, and no more than the destination takes (17_dma.md R358,
R362). -/
theorem State.dmaWrites_le (s : State) (l : LaneId) (c : Nat) :
    s.dmaWrites l c ≤ 64 ∧ s.dmaWrites l c ≤ 4 * ((s.lane l).dch c).buf.length
      ∧ s.dmaWrites l c ≤ s.dmaRoom ((s.lane l).dch c) := by
  simp only [State.dmaWrites]
  omega

/-- A lock of the PLL is taken only within the 10 ms of an attempt (20_clocks_power.md R400). -/
theorem Power.lockTaken_window {p : Power} {now : Nat} (h : p.lockTaken now = true) :
    p.pllAt ≤ now ∧ now ≤ p.pllAt + 4000000 := by
  simp only [Power.lockTaken, Bool.and_eq_true, decide_eq_true_eq] at h
  exact h.1

/-- The last hour holds just the times less than an hour old (14_start_up.md R313). -/
theorem mem_lastHour {now t : Nat} {ts : List Nat} : t ∈ lastHour now ts ↔ t ∈ ts ∧ now < t + hourTclk := by
  simp [lastHour]

theorem insertAt_length {α : Type} (key : α → Nat) (x : α) (xs : List α) : (insertAt key x xs).length = xs.length + 1 := by
  induction xs with
  | nil => rfl
  | cons y ys ih => simp only [insertAt]; split <;> simp [ih]

/-- A READ_RESP puts the responses into the order of the next block and loses none (15_host_ports.md R329). -/
theorem respOrder_length (q : List Resp) : (respOrder q).length = q.length := by
  have sorted : ∀ r : List Resp, (r.foldr (insertAt (·.num)) []).length = r.length := by
    intro r
    induction r with
    | nil => rfl
    | cons x xs ih => simp [insertAt_length, ih]
  simp only [respOrder, List.length_append, sorted]
  induction q with
  | nil => rfl
  | cons x xs ih => cases h : x.sent <;> simp [h] <;> omega

theorem respSent_length (q : List Resp) (n t : Nat) : (respSent q n t).length = q.length := by
  simp [respSent, respOrder_length]

end Sys2Proof.Machine
end

