-- ==== Sys2Proof/Machine/Pins.lean ====
section
/-! DEFINITION. The module's connector positions and the pins they carry (22_electrical.md R432, 00_scope.md R1, R2). -/

namespace Sys2Proof.Machine

/-- A connector (R432). -/
inductive Connector where
  | j1 | j2 | j3
deriving DecidableEq, Repr

/-- A pin or net of the module (R432); those of a lane group carry the lane. -/
inductive Pin where
  | ch (n : Nat) | qhs (q : Nat) | vbat (k : Nat) | br (k : Nat) | pgnd | sgnd | gnd | vsup | errN
  | crkP (l : LaneId) | crkN (l : LaneId) | camP (l : LaneId) | camN (l : LaneId) | dir (l : LaneId)
  | bstSw (k : Nat) | bstCs (k : Nat) | bstFb (k : Nat) | bstGnd (k : Nat)
  | ig (g : Nat) | igs (g : Nat) | acP (a : Nat) | acN (a : Nat) | scan (s : Nat) | sup (x : Nat)
  | hSck (n : Nat) | hCsN (n : Nat) | hIo (n i : Nat) | hIrqN (n : Nat) | hWakeN (n : Nat)
  | nfIo (l : LaneId) (i : Nat) | nfCeN (l : LaneId) | nfCle (l : LaneId) | nfAle (l : LaneId) | nfWeN (l : LaneId)
  | nfReN (l : LaneId) | nfWpN (l : LaneId) | nfRbN (l : LaneId) | nfVcc (l : LaneId)
  | twiScl (l : LaneId) | twiSda (l : LaneId) | byw (l : LaneId) (i : Nat) | dbgTx (l : LaneId) | dbgRx (l : LaneId)
  | xin (l : LaneId) | xout (l : LaneId) | lfltN (l : LaneId) | auth (l : LaneId)
deriving DecidableEq, Repr

/-- The pins of one host port, in the order of a lane group. -/
def portPin (n i : Nat) : Pin :=
  match i with
  | 0 => .hSck n
  | 1 => .hCsN n
  | 6 => .hIrqN n
  | 7 => .hWakeN n
  | i => .hIo n (i - 2)

/-- The pin at position i of a lane group, from 0 to 55. -/
def groupPin (l : LaneId) (i : Nat) : Pin :=
  if i < 16 then portPin (2 * laneNum l + i / 8) (i % 8)
  else if i < 24 then .nfIo l (i - 16)
  else if 34 ≤ i ∧ i < 50 then .byw l (i - 34)
  else match i with
    | 24 => .nfCeN l | 25 => .nfCle l | 26 => .nfAle l | 27 => .nfWeN l | 28 => .nfReN l | 29 => .nfWpN l | 30 => .nfRbN l
    | 31 => .nfVcc l | 32 => .twiScl l | 33 => .twiSda l | 50 => .dbgTx l | 51 => .dbgRx l | 52 => .xin l | 53 => .xout l
    | 54 => .lfltN l | _ => .auth l

/-- The pin of a lane's sensor inputs at position i of six. -/
def sensorPin (l : LaneId) (i : Nat) : Pin :=
  match i with
  | 0 => .crkP l | 1 => .crkN l | 2 => .camP l | 3 => .camN l | 4 => .dir l | _ => .sgnd

/-- The pin at a position of connector J1. -/
def pinJ1 (i : Nat) : Option Pin :=
  if i = 0 ∨ 400 < i then none
  else if i < 193 then some (.ch (i - 1))
  else if i < 289 then some (.qhs ((i - 193) / 2))
  else if i < 313 then some (.vbat ((i - 289) / 6))
  else if i < 329 then some (.br ((i - 313) / 4))
  else some .pgnd

/-- The pin at a position of connector J2. -/
def pinJ2 (i : Nat) : Option Pin :=
  if i = 0 ∨ 300 < i then none
  else if i < 7 then some (sensorPin .a (i - 1))
  else if i < 13 then some (sensorPin .b (i - 7))
  else if i < 29 then
    let k := (i - 13) / 4
    some (match (i - 13) % 4 with | 0 => .bstSw k | 1 => .bstCs k | 2 => .bstFb k | _ => .bstGnd k)
  else if i < 77 then some (.ig (i - 29))
  else if i < 125 then some (.igs (i - 77))
  else if i < 173 then some (if (i - 125) % 2 = 0 then .acP ((i - 125) / 2) else .acN ((i - 125) / 2))
  else if i < 269 then some (.scan (i - 173))
  else if i < 277 then some (.sup (i - 269))
  else some .sgnd

/-- The pin at a position of connector J3. -/
def pinJ3 (i : Nat) : Option Pin :=
  if i = 0 ∨ 140 < i then none
  else if i < 7 then some .vsup
  else if i < 13 then some .gnd
  else if i < 69 then some (groupPin .a (i - 13))
  else if i < 125 then some (groupPin .b (i - 69))
  else if i = 125 then some .errN
  else some .gnd

/-- The pin at a connector's position, numbered from 1 (R432). -/
def pinAt (c : Connector) (i : Nat) : Option Pin :=
  match c with
  | .j1 => pinJ1 i
  | .j2 => pinJ2 i
  | .j3 => pinJ3 i

/-- A position of Lane B, which the S variant leaves unconnected inside the module (R1, R2). -/
def laneBPosition (c : Connector) (i : Nat) : Bool :=
  match c with
  | .j1 => false
  | .j2 => decide (7 ≤ i ∧ i < 13)
  | .j3 => decide (69 ≤ i ∧ i < 125)

/-- The position is connected inside this module (R1, R432). -/
def State.connected (s : State) (c : Connector) (i : Nat) : Bool := (pinAt c i).isSome && !(s.variantS && laneBPosition c i)

end Sys2Proof.Machine
end

