-- ==== Sys2Proof/Tests/Slice0.lean ====
section
/-! SUPPORT. The model's own tests: worked values of the spec, an ill-formed term for each check of WellFormed, and a witness
for the hypotheses of every statement that has some. Each witness names a small concrete state and operands. -/

set_option Elab.async false

namespace Sys2Proof.Machine

/-! ### Small states -/

/-- The clocks of both lanes run, at LANE_TIME and module time 1,000,000, and nothing else has happened since reset. -/
def on2 : State :=
  { State.reset with
    now := 1000000, laneA := { run := .running, time := 1000000 }, laneB := { run := .running, time := 1000000 } }

/-- Lane A has authority at every drive die. -/
def authA (s : State) : State :=
  { s with jct := { s.jct with state := .auth .a, voted := .laneA }, dies := s.dies.map fun x => { x with auth := .laneA } }

/-- A command at the front of Lane A's link to die 1. -/
def onLink (c : DrvCmd) (s : State) : State :=
  s.upd .a fun L => { L with sched := { L.sched with links := vmod L.sched.links 1 fun _ => [⟨c, 999900, 1000000⟩] } }

/-- The front of Lane A's link to die 1. -/
def front (c : DrvCmd) : LinkEntry := ⟨c, 999900, 1000000⟩

/-- Registers of Lane A set as listed. -/
def regsA (rs : List (Nat × Word)) (s : State) : State := s.upd .a fun L => rs.foldl (fun L r => L.setReg r.1 r.2) L

/-! ### Statements about the queue and every command -/

theorem test_witness_queue :
    on2.pending = [] ∧ (on2.laneA.on = true ∧ State.reset.laneA.run = .off)
      ∧ ((Instr.monId .b .good).needsLane = some .b ∧ ({ on2 with variantS := true } : State).fitted .b = false ∧ on2.fitted .b = true)
      ∧ ({ on2 with pending := [Instr.monId .b .good] } : State).queueFits
      ∧ ((Instr.monId .a .good).needsClocks = some .a ∧ State.reset.fitted .a = true ∧ State.reset.laneA.on = false) := by
  refine ⟨by decide, by decide, by decide, ?_, by decide⟩
  intro c h l hl
  cases l <;> decide

theorem test_witness_keeps_queue : ∃ t, exec (.monId .a .good) on2 = .next t := ⟨_, rfl⟩

theorem test_witness_tags : on2.tagsDiffer ∧ ∃ t, step on2 = .next t :=
  ⟨by unfold State.tagsDiffer Port.tagsDiffer; decide, _, rfl⟩

/-! ### The ends of events -/

/-- Channel 5 runs this event. -/
def runs5 (e : Event) (c : Chan := {}) : State := on2.chanUpd 5 fun _ => { c with state := .run, ev := some e }

/-- An event that began at time 0 and is to end at 500. -/
def due5 : Event := { prof := 0, angle := false, start := 0, stop := some 500 }

/-- A profile whose phase 0 uses boost to a peak of 100. -/
def boosts : BitVec 512 := BitVec.ofNat 512 ((2 ^ 45 + 2 ^ 40 + 100 * 2 ^ 29) * 2 ^ 128)

/-- Channel 6 runs a phase that uses boost. -/
def with6 (s : State) : State := s.chanUpd 6 fun c => { c with state := .run, ev := some { due5 with prof := boosts } }

theorem test_witness_event_ends :
    let t := runs5 due5
    let a := runs5 { due5 with angle := true }
    (t.chan 5).ev = some due5 ∧ 500 ≤ t.now ∧ (a.chan 5).ev = some { due5 with angle := true } ∧ a.pending = [] ∧ due5.blocked = none
      ∧ phExit (profPhase due5.prof 0) = 0 ∧ phKind (profPhase due5.prof 1) = 0 ∧ due5.phaseAt + phTime (profPhase due5.prof 0) ≤ t.now
      ∧ t.selectChop 1 = false := by decide +kernel

theorem test_witness_event_timeouts :
    let e := { due5 with prof := boosts }
    let o := runs5 e { pkwin := 0x00100000 }
    let d := on2.chanUpd 5 fun c => { c with state := .decay, decaying := true, decayAt := 0 }
    let b := with6 (runs5 { due5 with blocked := some 0 })
    (peakLevel e.prof = some 100 ∧ ((o.chan 5).peakWin e).2 ≠ 0 ∧ e.peaked = false ∧ e.start + ((o.chan 5).peakWin e).2 * 40 ≤ o.now ∧ o.pending = [])
      ∧ ((d.chan 5).decaying = true ∧ (d.chan 5).decayAt + 200000 ≤ d.now)
      ∧ (b.boostBusy 5 = true ∧ 0 + b.maxDefer 1 ≤ b.now) := by decide +kernel

theorem test_witness_waiting_starts :
    let w : WaitStart := ⟨{ kind := .startT, slot := 1, cyc := 3, idx := 2, dur := 5 }, .b, 0, 0, none⟩
    let s := (authA on2).chanUpd 5 fun c => { c with state := .wait, wait := some w, slots := vmod c.slots 1 fun _ => some boosts }
    let d := on2.chanUpd 5 fun c => { c with state := .decay, decaying := true, wait := some w, offtime := 0 }
    let q := with6 (s.chanUpd 5 fun c => { c with wait := some { w with quadSince := some 0 } })
    ((s.chan 5).decaying = false ∧ (votedLane (s.die (5 / 16)).auth).isSome = true ∧ s.quadBlock 5 (phBoost (profPhase boosts 0)) none = none ∧ s.dutyFull 5 = false ∧ phKind (profPhase boosts 0) ≠ 0)
      ∧ ((d.chan 5).decaying = true ∧ bits (d.chan 5).offtime 16 16 * 400 < d.now - w.arrived)
      ∧ ((q.quadBlock 5 (phBoost (profPhase boosts 0)) (some 0)).isSome = true ∧ 0 + q.maxDefer 1 ≤ q.now) := by decide +kernel

/-! ### Gates -/

/-- Gate 5 as given. -/
def gate5 (x : Gate) : State := (authA on2).gateUpd 5 fun _ => x

theorem test_witness_dwell :
    let s := onLink { kind := .dwell, ch := 1, slot := 2 } (gate5 { state := .idle })
    s.dieRuns .a 1 (front { kind := .dwell, ch := 1, slot := 2 }) ∧ (s.gate 5).state = .idle
      ∧ ((s.sparkSet 5 2).1.getLsbD 31 = true → setTgt (s.sparkSet 5 2) ≠ 0) := by decide +kernel

theorem test_witness_spark :
    let s := onLink { kind := .spark, ch := 1 } (gate5 { state := .dwell, drive := .high, td := 0 })
    let w := onLink { kind := .spark, ch := 1 } (gate5 { state := .dwell, drive := .high, td := 999999 })
    (s.dieRuns .a 1 (front { kind := .spark, ch := 1 }) ∧ (s.gate 5).state = .dwell ∧ (s.gate 5).heldTo = none
        ∧ s.shortSoon 5 = false ∧ (s.gate 5).td + setFloor (s.sparkSet 5 (s.gate 5).set) ≤ s.now)
      ∧ (w.dieRuns .a 1 (front { kind := .spark, ch := 1 }) ∧ (w.gate 5).state = .dwell ∧ (w.gate 5).heldTo = none
        ∧ w.shortSoon 5 = false ∧ w.now < (w.gate 5).td + setFloor (w.sparkSet 5 (w.gate 5).set)) := by decide +kernel

theorem test_witness_held_spark_and_restrikes :
    let s := gate5 { state := .dwell, heldTo := some 1000000 }
    let r := gate5 { state := .restrike, rsLeft := 1 }
    let h := gate5 { state := .restrike, rsLeft := 1, drive := .high }
    ((s.gate 5).heldTo = some 1000000 ∧ (s.gate 5).state = .dwell ∧ 1000000 ≤ s.now)
      ∧ ((r.gate 5).state = .restrike ∧ (r.gate 5).on = false
        ∧ (r.gate 5).rsAt + bits (r.sparkSet 5 (r.gate 5).set).2.2.2 10 10 * 400 ≤ r.now)
      ∧ ((h.gate 5).state = .restrike ∧ (h.gate 5).on = true
        ∧ (h.gate 5).rsAt + bits (h.sparkSet 5 (h.gate 5).set).2.2.2 0 10 * 400 ≤ h.now) := by decide +kernel

theorem test_witness_gate_protections :
    let s := { gate5 { state := .dwell, drive := .high } with now := 3000000 }
    let w := gate5 { state := .soft, softAt := 200000 }
    let c := gate5 { state := .dwell, ctrl := 0x000A0041 }
    let x := gate5 { state := .idle }
    let z := gate5 { state := .soft, afterSoft := .idle }
    ((s.gate 5).state = .dwell ∧ (s.gate 5).heldTo = none ∧ s.pending = []
        ∧ (s.gate 5).td + setMax (s.sparkSet 5 (s.gate 5).set) ≤ s.now)
      ∧ ((w.gate 5).state = .soft ∧ (w.gate 5).softAt + 800000 ≤ w.now)
      ∧ ((c.gate 5).state = .dwell ∧ (c.gate 5).ctrl.getLsbD 6 = true ∧ (c.gate 5).openDone = false
        ∧ (c.gate 5).td + bits (c.sparkSet 5 (c.gate 5).set).2.2.1 0 12 * 400 ≤ c.now
        ∧ (0 : BitVec 10).toNat < bits (c.sparkSet 5 (c.gate 5).set).2.2.1 12 10)
      ∧ (bits (s.sparkSet 5 (s.gate 5).set).2.2.1 22 10 ≤ (1023 : BitVec 10).toNat)
      ∧ ((z.gate 5).state = .soft ∧ (z.gate 5).afterSoft ≠ .fault ∧ bits (z.sparkSet 5 (z.gate 5).set).2.2.1 22 10 ≤ (1023 : BitVec 10).toNat)
      ∧ ((x.gate 5).drive = .low ∧ bits (x.gate 5).ctrl 16 10 < (1023 : BitVec 10).toNat ∧ (x.gate 5).leakAt + 4000 ≤ x.now) := by decide +kernel

theorem test_witness_gate_control :
    let o := gate5 { state := .off }
    let d := gate5 { state := .dwell }
    let f := gate5 { state := .fault }
    o.takesWrite .a (Reg.ignCtrl 5) ∧ o.gateTakes 5 .a = true ∧ (1 : Word).getLsbD 0 = true ∧ (1 : Word).getLsbD 7 = false
      ∧ (o.gate 5).state = .off
      ∧ d.takesWrite .a (Reg.ignCtrl 5) ∧ d.gateTakes 5 .a = true ∧ (d.gate 5).state = .dwell
      ∧ f.takesWrite .a (Reg.ignCtrl 5) ∧ f.gateTakes 5 .a = true ∧ (0x81 : Word).getLsbD 7 = true ∧ (f.gate 5).state = .fault
      ∧ (f.die (5 / 4)).fenced = false := by
  decide +kernel

theorem test_witness_charge_report :
    let s := (authA on2).upd .a fun L => { L with chargeQ := [⟨5, 0, none⟩] }
    (s.lane .a).chargeQ.head? = some ⟨5, 0, none⟩ ∧ s.runs .a := by decide +kernel

/-! ### Boost rails -/

/-- Rail 1 as given. -/
def rail1 (r : Rail) (s : State := on2) : State := s.railUpd 1 fun _ => r

theorem test_witness_rail_measurement :
    let o := rail1 { state := .ramp, enAt := 0, v0 := 700 }
    let r := rail1 { state := .reg, uvRun := 9, thresh := 0x0643FE00 }
    (((o.rail 1).vset ≤ (o.rail 1).rampTarget o.now) ∧ (o.rail 1).vAt < o.now)
      ∧ (bits (r.rail 1).thresh 9 9 * 8 > 0 ∧ (r.rail 1).ovLevel ≤ 4095 ∧ (r.rail 1).ov = false) := by decide +kernel

theorem test_witness_rail_cycles :
    let c := rail1 { state := .reg, charging := true, chargeAt := some 0 }
    let f := rail1 { state := .reg, fet := true, fetAt := 0, limitRun := 16 }
    ((c.rail 1).fet = false ∧ (c.rail 1).ov = false ∧ (c.rail 1).fetAt + (c.rail 1).toffIn ≤ c.now ∧ 0 + 4000000 ≤ ({ c with now := 4000000 } : State).now ∧ c.pending = [])
      ∧ ((f.rail 1).fet = true ∧ (f.rail 1).fetAt + 4000 ≤ f.now ∧ 16 ≤ (f.rail 1).limitRun) := by decide +kernel

theorem test_witness_rail_settings :
    let s := authA on2
    let c := (authA on2).upd .b fun L => { L with ready := true }
    s.takesWrite .a (Reg.bstCtrl 1) ∧ s.sender 3 = .a ∧ (s.rail 1).state = .off ∧ (s.die 3).auth ≠ .safe ∧ s.vsupLow = false
      ∧ (s.lane (s.sender 3)).on = true ∧ (s.lane (s.sender 5)).on = true ∧ s.compares .b = false
      ∧ (c.takesWrite .a (Reg.bstCtrl 1) ∧ c.sender 3 = .a ∧ c.compares .b = true
        ∧ (c.lane .a).written (Reg.bstCtrl 1) 1 ≠ (c.lane .b).reg (Reg.bstCtrl 1) ∧ (c.lane .b).railSent.getLsbD 1 = false)
      ∧ (regsA [(Reg.bstSet 1, 7)] c).laneA.reg (Reg.bstSet 1) ≠ c.laneB.reg (Reg.bstSet 1) := by decide +kernel

theorem test_witness_sensor_supplies : (∀ t, (vget on2.sups 3 ({} : Sup)).hotAt = some t → t + 40000000 ≤ on2.now) := by
  intro t h
  cases h

/-! ### Channels -/

/-- A profile of one FREEWHEEL phase of TIME 100 that ends by time. -/
def profFree : BitVec 512 := BitVec.ofNat 512 ((3 * 2 ^ 45 + 100) * 2 ^ 128 + 2 ^ 31)

/-- A profile of one PEAK phase with I_HI 50 and I_LO 40. -/
def profPeak : BitVec 512 := BitVec.ofNat 512 ((2 * 2 ^ 45 + 50 * 2 ^ 29 + 40 * 2 ^ 18 + 1000) * 2 ^ 128 + 2 ^ 31)

/-- Channel 17 as given, Lane A in authority. -/
def chan17 (c : Chan) : State := (authA on2).chanUpd 17 fun _ => c

/-- An event of a profile that began 4,000 TCLK ago. -/
def eventOf (p : BitVec 512) : Event := { prof := p, angle := false, start := 996000, stop := none }

/-- Channel 17 idle with slot copy 2 valid. -/
def idle17 : State := chan17 { state := .idle, slots := vmod (Vector.replicate 8 none) 2 fun _ => some profFree }

/-- A START for channel 17. -/
def start17 : DrvCmd := { kind := .startT, ch := 1, slot := 2, dur := 50, cyc := 3, idx := 1 }

theorem test_witness_start :
    let s := onLink start17 idle17
    let w := onLink start17 (chan17 { state := .run, ev := some (eventOf profFree) })
    (s.dieRuns .a 1 (front start17) ∧ s.oddMember 17 = false ∧ vget (s.chan 17).slots 2 none = some profFree
        ∧ (profMax profFree ≤ if s.paired 17 then 1875 else 937) ∧ (s.chan 17).state = .idle ∧ (s.chan 17).wait = none
        ∧ (s.chan 17).ev = none ∧ (s.chan 17).decaying = false ∧ (s.die 1).hot = false ∧ s.dutyFull 17 = false ∧ (s.chan 17).prevEnd = none
        ∧ s.quadBlock 17 (phBoost (profPhase profFree 0)) none = none)
      ∧ (w.dieRuns .a 1 (front start17) ∧ w.oddMember 17 = false ∧ (w.chan 17).state = .run) := by decide +kernel

theorem test_witness_end_stop_halt :
    let s := onLink { kind := .endA, ch := 1 } (chan17 { state := .run, ev := some { eventOf profFree with angle := true } })
    let w := onLink { kind := .stop } (chan17 { state := .run, ev := some { eventOf profFree with angle := true } })
    let x := onLink { kind := .halt } (chan17 { state := .run, ev := some (eventOf profFree) })
    (s.dieRuns .a 1 (front { kind := .endA, ch := 1 }) ∧ s.oddMember 17 = false
        ∧ (s.chan 17).ev = some { eventOf profFree with angle := true })
      ∧ (w.dieRuns .a 1 (front { kind := .stop }) ∧ (w.chan 17).ev = some { eventOf profFree with angle := true })
      ∧ (x.dieRuns .a 1 (front { kind := .halt }) ∧ (x.chan 17).ev = some (eventOf profFree)) := by decide +kernel

theorem test_witness_samples :
    let d := chan17 { state := .decay, decaying := true }
    let e := { eventOf profPeak with peaked := true, elAt := 990000 }
    let r := chan17 { state := .run, ev := some e }
    let p := chan17 { state := .run, ev := some (eventOf profPeak), pkwin := 0x00FF00FF }
    (d.oddMember 17 = false ∧ ((d.mixPass (17 / 4)).chan 17).blankTo ≤ d.now ∧ (d.chan 17).ev = none ∧ (d.chan 17).decaying = true
        ∧ (d.chan 17).wait = none ∧ 15 * 16 < 250)
      ∧ (r.oddMember 17 = false ∧ ((r.mixPass (17 / 4)).chan 17).blankTo ≤ r.now ∧ (r.chan 17).ev = some e ∧ e.detect = none ∧ e.blocked = none
        ∧ phReg (profPhase e.prof e.phase) = true ∧ phHi (profPhase e.prof e.phase) ≤ 50
        ∧ e.elAt + max (bits (profWord e.prof 0) 8 8) 50 * 40 ≤ r.now)
      ∧ (p.oddMember 17 = false ∧ ((p.mixPass (17 / 4)).chan 17).blankTo ≤ p.now ∧ (p.chan 17).ev = some (eventOf profPeak)
        ∧ peakLevel profPeak = some 50 ∧ p.now - (eventOf profPeak).start < ((p.chan 17).peakWin (eventOf profPeak)).1 * 40) := by
  decide +kernel

theorem test_witness_off_state_diagnosis :
    let s := chan17 { state := .idle, ctrl := 0x21 }
    (s.chan (s.governs (4 * 4 + 1))).ctrl.getLsbD 5 = true
      ∧ (∀ i : Fin 4, (s.chan (4 * 4 + i)).state ∈ [.off, .slave, .fault]
          ∨ (s.chan (4 * 4 + i)).state = .idle ∧ (s.chan (4 * 4 + i)).idleAt + 400000 ≤ s.now)
      ∧ (vget s.quads 4 {}).osdAt = none := by decide +kernel

/-! ### Settings, profiles and landing -/

theorem test_witness_channel_settings :
    let o := chan17 {}
    let d := chan17 { state := .idle, ctrl := 0xD }
    let f := chan17 { state := .fault }
    o.takesWrite .a (Reg.chnCtrl 17) ∧ o.dieTakes (17 / 16) .a = true ∧ (o.chan 17).state = .off
      ∧ (d.takesWrite .a (Reg.chnCtrl 17) ∧ d.dieTakes (17 / 16) .a = true
        ∧ (0xC : Word).getLsbD 0 = false ∧ (0xC : Word).getLsbD 7 = false)
      ∧ (f.takesWrite .a (Reg.chnCtrl 17) ∧ (f.chan 17).state = .fault ∧ (f.chan 17).ev = none ∧ (f.chan 17).wait = none
        ∧ (f.die (17 / 16)).fenced = false ∧ (0x80 : Word).getLsbD 7 = true)
      ∧ (o.takesWrite .a (Reg.quadCtrl 4) ∧ o.dieTakes (4 / 4) .a = true) := by decide +kernel

theorem test_witness_setting_write :
    let s := (chan17 {}).upd .a fun L => { L with dieWrites := vmod L.dieWrites 1 fun _ => [⟨Reg.chnDuty 17, 5⟩] }
    s.fitted .a = true ∧ (vget (s.lane .a).dieWrites 1 []).head? = some ⟨Reg.chnDuty 17, 5⟩ ∧ s.dieTakes 1 .a = true := by
  decide +kernel

/-- Lane A alone runs, and a copy of profile 1 waits for slot 3 of channel 17. -/
def copying : State :=
  { (authA on2) with laneB := {} }.upd .a fun L =>
    { L.writeBytes 0x04100040 (leBytes profPeak.toNat 64) 0 with pdQ := vmod L.pdQ 1 fun _ => [⟨17, 3, 1⟩] }

theorem test_witness_profile_distribution :
    copying.takesWrite .a (profileSelAddr 17 false) ∧ copying.takesWrite .a Reg.chnPdist ∧ copying.sender 1 = .a
      ∧ (vget (copying.lane .a).pdQ 1 []).head? = some ⟨17, 3, 1⟩ ∧ (copying.lane .b).on = false
      ∧ ((vget (copying.lane .b).pdQ 1 []).all fun e => !(e.ch == 17 && e.slot == 3)) = true
      ∧ ((copying.lane .a).readProfile 1 (copying.paired 17)).2.2 = true := by decide +kernel

theorem test_witness_landing :
    let s := (regsA [(Reg.lndClamp 17, 0xFFFF0000)] on2).upd .a fun L => { L with landingQ := [⟨17, 1, 4000, 3, 0⟩] }
    let e := { eventOf profFree with detect := some {} }
    let w := chan17 { state := .run, ev := some e }
    (s.lane .a).landingQ.head? = some ⟨17, 1, 4000, 3, 0⟩ ∧ s.runs .a ∧ (s.lane .a).oddMember 17 = false ∧ (s.lane .a).fld (Reg.lndClamp 17) 0 16 * 400 ≤ 4000
      ∧ 4000 ≤ (s.lane .a).fld (Reg.lndClamp 17) 16 16 * 400
      ∧ ((w.chan 17).ev = some e ∧ e.detect.isSome = true ∧ w.sampleSoon 17 = none ∧ e.window.2 ≤ w.now)
      ∧ s.takesWrite .a (Reg.lndCtrl 17) ∧ (4 : Word).getLsbD 2 = true ∧ s.takesWrite .a (Reg.lndEst 17) := by decide +kernel

/-! ### Junction -/

/-- Both lanes are READY, eligible and unfenced, with their keep-alives present. -/
def bothReady (v : VoterState) (d : Voted) : State :=
  { on2 with
    now := 300000000
    laneA := { on2.laneA with ready := true, standby := true }.setView d 0
    laneB := { on2.laneB with ready := true, standby := true }.setView d 0
    jct := { on2.jct with
      state := v, voted := d, a := { kaLost := false, kaAt := 299999000 }, b := { kaLost := false, kaAt := 299999000 } } }

/-- The same with Lane A alone eligible since module time 1000. -/
def onlyA (v : VoterState) (d : Voted) : State :=
  let s := bothReady v d
  { s with laneB := { s.laneB with ready := false }, jct := { s.jct with a := { s.jct.a with eligAt := some 1000 } } }

theorem test_witness_voters :
    let r := { bothReady (.auth .a) .laneA with laneA := { on2.laneA with ready := false } }
    let c := { onlyA (.auth .b) .laneB with jct := { (onlyA (.auth .b) .laneB).jct with a := { kaLost := true } } }
    let d := bothReady (.auth .a) .laneA
    let h := { d with laneB := d.laneB.setView .laneB 0 }
    twoHealthy .healthy .healthy (.stuck .invalid) ∧ on2.jct.judge = []
      ∧ (let s := bothReady .start .none; s.jct.state = .start ∧ s.eligible .a = true ∧ s.eligible .b = true)
      ∧ (r.jct.state = .auth .a ∧ r.claim .a = 0 ∧ r.eligible .b = true)
      ∧ (c.jct.state = .auth .b ∧ c.claim .b = 0 ∧ c.eligible .a = false ∧ c.variantS = false)
      ∧ (h.jct.state = .auth .a ∧ h.claim .a = 2 ∧ h.claim .b = 2)
      ∧ (let s := bothReady .coast .none; s.jct.state = .coast ∧ s.eligible s.pref = true) := by decide +kernel

theorem test_witness_junction_timers :
    let s := bothReady (.auth .a) .laneA
    let t := onlyA .start .none
    let c := { on2 with jct := { on2.jct with state := .coast } }
    let b := { on2 with laneA := { on2.laneA with run := .standby } }
    ((b.lane .a).run = .standby ∧ (s.lane .a).run ≠ .standby) ∧ (s.fitted .a = true ∧ (s.lane .a).run = .running ∧ (s.jl .a).kaAt + 200 ≤ s.now)
      ∧ ((s.jl .a).kaLost = false ∧ (s.jl .a).kaAt + 800 ≤ s.now ∧ s.pending = [])
      ∧ ((t.jl .a).eligAt = some 1000 ∧ t.jct.state = .start ∧ 1000 + 200000000 ≤ t.now ∧ t.eligible .a = true
        ∧ t.eligible .b = false ∧ twoHealthy t.jct.f0 t.jct.f1 t.jct.f2)
      ∧ (c.jct.state = .coast ∧ c.jct.coastAt + 8000 ≤ c.now ∧ c.pending = [] ∧ c.eligible .a = false ∧ c.eligible .b = false
        ∧ c.jct.voted ≠ .safe ∧ twoHealthy c.jct.f0 c.jct.f1 c.jct.f2) := by decide +kernel

theorem test_witness_authority_change :
    let s := { chan17 { state := .run, ev := some (eventOf profFree) } with jct := { on2.jct with voted := .safe } }
    let n := { chan17 {} with jct := { on2.jct with voted := .none } }
    let l := { chan17 {} with jct := { on2.jct with voted := .laneB } }
    ((s.die 1).auth ≠ s.jct.voted ∧ s.jct.voted = .safe ∧ (s.chan 17).ev.isSome = true)
      ∧ ((n.die 1).auth ≠ n.jct.voted ∧ n.jct.voted = .none) ∧ ((l.die 1).auth ≠ l.jct.voted ∧ l.jct.voted = votedOf .b) := by
  decide +kernel

theorem test_witness_comparison :
    let m := { bothReady (.auth .a) .laneA with jct := { (bothReady (.auth .a) .laneA).jct with judge := [(0, 1)] } }
    let k := on2.dieUpd 1 fun x => { x with cmpOn := true, store := [⟨.a, start17, 900000, true, true, false⟩] }
    on2.runs .a ∧ (k.die 1).cmpOn = true ∧ ((k.die 1).store.any fun x => x.open_ && k.overWindow 1 x) = true
      ∧ ((0, 1) ∈ m.jct.judge ∧ 0 + 800 ≤ m.now ∧ m.claim .a ≠ 0 ∧ m.claim .b ≠ 0 ∧ twoHealthy m.jct.f0 m.jct.f1 m.jct.f2) := by
  decide +kernel

/-- Two linked READY lanes in FULL_SYNC, whose comparison may be on. -/
def compared : State :=
  let v := { bothReady (.auth .a) .laneA with mirror := .linked }
  let f := fun (L : Lane) => { L with odo := { L.odo with state := .fullSync } }
  { v with laneA := f v.laneA, laneB := f v.laneB, jct := { v.jct with cmpOk := true } }

theorem test_witness_comparison_base : compared.cmpBase = true ∧ compared.jct.cmpOk = true := by decide +kernel

/-- No route of it is enabled, so none holds its comparison off. -/
theorem test_witness_comparison_routes (l : LaneId) :
    ((List.range 240).all fun r =>
      decide (2 ≤ ((compared.lane l).route r).cmpCycles) || !((compared.lane l).route r).en && !(compared.lane l).liveEn r) = true := by
  cases l <;> decide +kernel

theorem test_witness_release_and_handover :
    let s := bothReady (.auth .a) .laneA
    let h := { s with mirror := .linked, jct := { s.jct with cmpOn := true } }
    s.takesWrite .a Reg.jctFence ∧ s.variantS = false ∧ s.jct.voted = votedOf .a ∧ bits 0xA5F00000#32 16 16 = 0xA5F0
      ∧ s.mirror ≠ .linked ∧ bits 0x5A0F0000#32 16 16 = 0x5A0F
      ∧ (h.jct.voted = votedOf .a ∧ h.jct.state = .auth .a ∧ h.claim .a = 2 ∧ h.claim .b = 1 ∧ h.mirror = .linked
        ∧ h.jct.cmpOn = true ∧ h.jct.judge = [] ∧ twoHealthy h.jct.f0 h.jct.f1 h.jct.f2) := by decide +kernel

/-! ### Crosswalk -/

/-- The link is UP and the given frame has arrived first at Lane A. -/
def arrived (m : XMsg) (f : State → State := id) : State :=
  f ({ on2 with link := .up }.upd .a fun L => { L with xwk := { L.xwk with rx := [m] } })

/-- A heartbeat. -/
def beat0 : XMsg := .heartbeat ⟨1, true, .stopped, false, 0, 0, 0, 0, false⟩

theorem test_witness_heartbeats :
    let s := arrived beat0
    let u := { on2 with link := .up }
    s.runs .a ∧ (s.lane .a).xwk.rx.head? = some beat0 ∧ beat0.isHb = true
      ∧ (u.variantS = false ∧ (u.lane .a).xwk.sentAt + 400 ≤ (u.lane .a).time)
      ∧ ((u.lane .a).xwk.rx.any XMsg.isHb) = false ∧ u.pending = [] ∧ (u.lane .a).xwk.slotAt + 400 ≤ (u.lane .a).time
      ∧ u.link = .up ∧ (let r := s.upd .b fun L => { L with xwk := { L.xwk with rx := [.fwdAck 3] } }; r.link = .up ∧ r.outstanding .a = true ∧ r.frameSoon .a = false ∧ (r.lane .a).xwk.frameAt + 400 ≤ r.now) := by decide +kernel

/-- Host port 0 has a mirrored write of tag 3 and remote reads of tag 4 under way. -/
def busy0 (s : State) : State :=
  (s.portUpd 0 fun x => { x with reqs := [⟨3, .mirrored 0 4⟩, ⟨4, .remote false 0x10000⟩] }).upd .a fun L =>
    { L with xwk := { L.xwk with unacked := [⟨7, 0, 3, 999000, false, 0, 4⟩] } }

theorem test_witness_frames :
    let w := arrived (.fwdWrite 7 0 0x100 [1, 2, 3, 4])
    let a := arrived (.fwdAck 7) busy0
    let r := arrived (.remote ⟨2, 5, false, 0x100, 16, []⟩)
    let p := arrived (.response 0 4 0 0 [9]) busy0
    (w.runs .a ∧ (w.lane .a).waitsInit 0x100 4 = false ∧ (w.lane .a).xwk.rx.head? = some (.fwdWrite 7 0 0x100 [1, 2, 3, 4]))
      ∧ (a.runs .a ∧ (a.lane .a).xwk.rx.head? = some (.fwdAck 7)
        ∧ (a.lane .a).xwk.unacked.find? (fun w => w.num == 7) = some ⟨7, 0, 3, 999000, false, 0, 4⟩
        ∧ ((a.port 0).reqs.any fun r => r.tag == 3) = true)
      ∧ (r.runs .a ∧ r.reaches .a ∧ (r.lane .a).waitsInit 0x100 16 = false ∧ (r.lane .a).xwk.rx.head? = some (.remote ⟨2, 5, false, 0x100, 16, []⟩))
      ∧ (p.runs .a ∧ (p.lane .a).xwk.rx.head? = some (.response 0 4 0 0 [9])
        ∧ ((p.port 0).reqs.any fun r => r.tag == 4 && r.kind == .remote false 0x10000) = true) := by decide +kernel

theorem test_witness_rejoin_and_digests :
    let c := on2.upd .a fun L => { L with xwk := { L.xwk with rx := [.copy (.cuts (Vector.replicate 240 3))], copyNext := some 330 } }
    let d := on2.upd .a fun L => { L with xwk := { L.xwk with copyNext := some (256 + 64 + 11) } }
    let g := { on2 with link := .up }.upd .a fun L => { L with reported := some 0, xwk := { L.xwk with digestIn := some (5, 7) } }
    c.runs .a ∧ (c.lane .a).xwk.copyNext = some 330 ∧ (c.lane .a).xwk.rx.head? = some (.copy (.cuts (Vector.replicate 240 3)))
      ∧ ((d.lane .a).xwk.copyNext = some 331 ∧ (d.lane .b).copyPlan.length ≤ 331)
      ∧ ((g.lane .a).xwk.digestIn = some (5, 7) ∧ g.link = .up ∧ (g.lane .a).reported.isSome = true) := by decide +kernel

/-! ### Odometer -/

/-- Lane A's Odometer is enabled with a wheel of 12 positions, one tooth missing, M = 16, Hall inputs. -/
def on12 (o : Odo) (four : Bool := false) (s : State := on2) : State :=
  (regsA [(Reg.odoCtrl, 1), (Reg.odoWheel, if four then 0x0051000C else 0x0041000C), (Reg.odoGapratio, 0x400C3020),
    (Reg.odoSensor, 0x80800000), (Reg.odoInterp, 4), (Reg.odoSpdwin, 0x10000000), (Reg.odoTimeout, 0x40020001),
    (Reg.odoCamwin, 0x10020000), (Reg.odoDir, 0)] s).upd .a fun L => { L with odo := o }

/-- An edge of a Hall input. -/
def hall0 : EdgeIn := {}

/-- A crank sensor whose last span lasted 1000 TCLK before the present edge. -/
def turning : Tracker := { edges := 20, last := 998997, seen := some 998997, p0 := 900, p1 := 1000, pos := some 4, lock := true }

/-- The same with a gap candidate of 2000 TCLK pending, one gap found, and N − G − 1 teeth since. -/
def atGap : Tracker := { turning with cand := true, pg := 2000, gaps := 1, k := 10 }

theorem test_witness_crank_inputs :
    let v := regsA [(Reg.odoSensor, 0x00000A00)] (on12 {})
    let w := { on12 {} with laneB := (on12 {}).laneA.setReg Reg.odoSrc 8 }
    v.runs .a ∧ v.odoCalm .a ∧ w.runs .a ∧ w.odoCalm .a
      ∧ (v.laneA.hallIn false = false ∧ v.laneA.inPolarity false hall0 = true ∧ v.laneA.armLevel none < 500)
      ∧ (w.laneA.crankTakes w.variantS false hall0 = true ∧ w.laneB.on = true ∧ w.laneB.odoEn = true ∧ w.laneB.secEn w.variantS = true) := by
  decide +kernel

theorem test_witness_crank_edges :
    let off := on12 {} |>.upd .a fun L => L.setReg Reg.odoCtrl 0
    let a := on12 {}
    let b := on12 { state := .seek, pri := atGap }
    let b4 := on12 { state := .seek, pri := atGap } true
    let bd := on12 { state := .seek, pri := atGap, dir := true } |>.upd .a fun L => L.setReg Reg.odoDir 0x80000000
    (off.runs .a ∧ off.odoCalm .a ∧ (off.lane .a).crankTakes off.variantS false hall0 = false)
      ∧ (a.tracks .a hall0 999997 ∧ a.laneA.odo.state = .stopped)
      ∧ (∀ s ∈ [b, b4], s.tracks .a hall0 999997 ∧ s.laneA.odo.state = .seek ∧ s.laneA.edgeResult false 999997 = .gapFound
          ∧ s.laneA.fld Reg.odoGapratio 30 2 < 2 ∧ s.laneA.odo.pri.k + 1 = s.laneA.odoN - s.laneA.odoG)
      ∧ (b.laneA.fourStroke = false ∧ b4.laneA.fourStroke = true ∧ bd.tracks .a hall0 999997 ∧ bd.laneA.bit Reg.odoDir 29 = false
          ∧ bd.laneA.edgeResult false 999997 = .gapFound) := by decide +kernel

theorem test_witness_crank_edges_in_sync :
    let c := on12 { state := .fullSync, pri := turning, pos := 4, base := 64, ang := 70, t0 := 998997, pp := 900 }
    let d := on12 { state := .fullSync, pri := atGap, pos := 4, base := 64, ang := 70, t0 := 998997, pp := 900 }
    let f := regsA [(Reg.odoDir, 0x84000000)] (on12 { state := .seek, pri := turning })
    (c.tracks .a hall0 999997 ∧ c.laneA.edgeResult false 999997 = expectedAt 5)
      ∧ (d.tracks .a hall0 999997 ∧ d.laneA.edgeResult false 999997 ≠ expectedAt 5)
      ∧ (f.runs .a ∧ f.odoCalm .a ∧ f.laneA.toothSeen f.variantS hall0 = some (999997, !f.laneA.odo.dir)
          ∧ f.laneA.odo.contrary.length < f.laneA.fld Reg.odoDir 26 2) := by decide +kernel

theorem test_witness_reversals_and_cam :
    let r := regsA [(Reg.odoDir, 0x80000000)] (on12 { state := .fullSync, pri := turning })
    let c := on12 { state := .crankSync, pos := 1 } true
    let c' := on12 { state := .crankSync, pos := 5 } true
    let f := on12 { state := .fullSync, pos := 5 } true
    let m := on12 { state := .fullSync, camOpen := some 3 } true
    let q := on12 { state := .crankSync, absPos := 30 } true
    let k := on12 { state := .fullSync, conflicts := 1 } true
    let v := on12 { state := .fullSync, actSec := true, virt := [(999990, 6)], pos := 5, t0 := 999000 }
    (r.runs .a ∧ r.odoCalm .a ∧ r.laneA.confirms r.variantS hall0 = true ∧ c.laneA.confirms c.variantS hall0 = false)
      ∧ (∀ s ∈ [c, c', f], s.odoCalm .a ∧ s.laneA.camTakes hall0 = true
          ∧ s.laneA.fld Reg.odoWheel 22 2 = 1 ∧ s.laneA.pulseWidth = false ∧ s.crankSoon .a (some false) = false)
      ∧ ({ c with pending := [.crankEdge .a false hall0] }.crankSoon .a (some false) = true)
      ∧ (c.laneA.fld Reg.odoCamwin 0 11 % c.laneA.odoN = 0 ∧ c.laneA.fld Reg.odoCamwin 16 11 % c.laneA.odoN = 2)
      ∧ (m.runs .a ∧ m.laneA.odo.camOpen = some 3 ∧ m.laneA.fld Reg.odoWheel 22 2 = 1)
      ∧ (q.runs .a ∧ 2 * q.laneA.odoN ≤ q.laneA.odo.absPos)
      ∧ (k.runs .a ∧ 0 < k.laneA.fld Reg.odoCamwin 28 4 ∧ k.laneA.fld Reg.odoCamwin 28 4 ≤ k.laneA.odo.conflicts ∧ k.edgeMoves .a = false)
      ∧ (v.runs .a ∧ v.laneA.odo.virt.head? = some (999990, 6) ∧ 999990 ≤ v.laneA.time ∧ 6 < v.laneA.odoN ∧ 5 < v.laneA.cyclePos) := by decide +kernel

theorem test_witness_stall_and_hold :
    let a := on12 { state := .fullSync, pri := { turning with last := 500000, seen := some 500000 }, pp := 900 }
    let b := regsA [(Reg.odoSrc, 8)] (on12 { state := .seek, sec := { noEdge := 4 } })
    let h := on12 { state := .hold, t0 := 999000, pp := 900, holdCount := 5 }
    (a.runs .a ∧ a.odoCalm .a ∧ a.laneA.timedOut false = true ∧ a.laneA.secEn a.variantS = false ∧ a.crankSoon .a (some false) = false)
      ∧ (b.runs .a ∧ b.laneA.odoEn = true ∧ b.laneA.secEn b.variantS = true ∧ b.laneA.odo.sec.silent = false)
      ∧ (h.runs .a ∧ h.laneA.odo.t0 + h.laneA.odo.pp ≤ h.laneA.time
          ∧ max 1 (h.laneA.fld Reg.odoTimeout 16 6) ≤ h.laneA.odo.holdCount ∧ h.edgeMoves .a = false) := by decide +kernel

theorem test_witness_odometer_settings :
    let a := on12 {} |>.upd .a fun L => L.setReg Reg.odoCtrl 0
    let b := on12 { state := .hold }
    let m := regsA [(Reg.markStep 1, 0x401)] b
    (a.takesWrite .a Reg.odoCtrl ∧ a.laneA.odoEn = false ∧ a.laneA.odo.valid = false ∧ a.laneA.wheelOk = true ∧ on2.laneA.wheelOk = false)
      ∧ (b.takesWrite .a Reg.odoCtrl ∧ b.laneA.odoEn = true ∧ b.laneA.odo.state ≠ .stopped)
      ∧ (m.laneA.bit (Reg.markCtrl 1) 31 = false ∧ (3 - 1) * m.laneA.fld (Reg.markStep 1) 8 24 / 1 < m.laneA.cycleLen) := by
  decide +kernel

theorem test_witness_angle_word_wraps :
    let a := on12 { state := .fullSync, base := 190, ang := 191, word := 191, t0 := 999000, pp := 2000, cycle := 0xFFFFFFFF }
    let b := on12 { state := .fullSync, base := 64, ang := 64, word := 64, t0 := 999000, pp := 2000 }
    (∀ s ∈ [a, b], s.runs .a ∧ s.edgeSoon .a = false ∧ s.laneA.tickDue = true ∧ 0 < s.laneA.cycleLen
        ∧ s.laneA.odo.word = s.laneA.odo.ang % s.laneA.cycleLen)
      ∧ (a.laneA.odo.word + 1 = a.laneA.cycleLen ∧ a.laneA.odo.cycle = 0xFFFFFFFF ∧ b.laneA.odo.word + 1 ≠ b.laneA.cycleLen) := by
  decide +kernel

theorem test_witness_micro_tick :
    let a := on12 { state := .fullSync, base := 64, ang := 64, word := 64, t0 := 999000, pp := 2000 }
    a.runs .a ∧ a.edgeSoon .a = false ∧ a.laneA.tickDue = true ∧ on2.laneA.tickDue = false
      ∧ ({ a with pending := [.crankEdge .a false hall0] }.edgeSoon .a = true) := by decide +kernel

/-! ### Scheduler -/

/-- Lane A's scheduler changed. -/
def schedA (f : Sched → Sched) (s : State := on2) : State := s.upd .a fun L => { L with sched := f L.sched }

theorem test_witness_commits_and_route_writes :
    let p := schedA fun c => { c with pendAh := 0x20 }
    let e := schedA fun c => { c with routes := vmod c.routes 5 fun t => { t with w0 := 0x80000000 } }
    let v : Word := 5
    on2.takesWrite .a Reg.wptCommit ∧ bits v 0 8 = 5 ∧ on2.laneA.owns .core 5 = true ∧ on2.laneA.owns (.host 0) 5 = true
      ∧ on2.laneA.owns (.host 1) 5 = false ∧ on2.laneA.sched.pend false 5 = false ∧ p.laneA.sched.pend false 5 = true
      ∧ (on2.laneA.route 5).en = false ∧ (e.laneA.route 5).en = true ∧ on2.laneA.mem.merge.length < 8 := by decide +kernel

theorem test_witness_scheduler :
    let e := on2.upd .a fun L => { L with odo := { L.odo with state := .fullSync } }
    let d := regsA [(Reg.wptCtrl, 1)] e
    let q := schedA (fun c => { c with gov := 0 }) e
    let v := e.upd .a fun L => L.setView .safe 0
    let c : HeldCross := ⟨17, 1, { kind := .startT }, 999000, 0⟩
    let h := schedA (fun x => { x with held := [c] }) (on2.upd .a fun L => { L with ready := true })
    let x : Decision := ⟨5, 0, true, false, 7⟩
    let k := schedA (fun x => { x with held := [{ c with route := 240 }] }) h
    let m := schedA (fun x => { x with routes := vmod x.routes 17 fun t => { t with w1 := 1 } }) h
    let p := regsA [(Reg.wptCtrl, 1)] h
    let w := (schedA fun c => { c with routes := vmod c.routes 5 fun t => { t with decWait := some 990000 } }).upd .a fun L =>
      { L with xwk := { L.xwk with rx := [.decision x] } }
    let z := (schedA fun c => { c with routes := vmod c.routes 5 fun t => { t with phase := .running } }).upd .a fun L =>
      { L with xwk := { L.xwk with rx := [.decision x] } }
    let n := on2.upd .a fun L => { L with xwk := { L.xwk with rx := [.decision x] } }
    (e.takesWrite .a Reg.wptCtrl ∧ e.laneA.bit Reg.wptCtrl 0 = false ∧ e.laneA.odo.valid = true ∧ e.laneA.sched.gov.getLsbD 10 = true
        ∧ e.laneA.view ≠ .safe ∧ v.laneA.view = .safe ∧ q.laneA.view ≠ .safe ∧ q.laneA.sched.gov.getLsbD 10 = false ∧ on2.laneA.odo.valid = false)
      ∧ (d.takesWrite .a Reg.wptCtrl ∧ d.laneA.bit Reg.wptCtrl 0 = true ∧ h.laneA.mute = false)
      ∧ (h.runs .a ∧ h.laneA.sched.held.find? (fun h => h.die == 1) = some c ∧ h.laneA.linkDepth h.now 1 < 16)
      ∧ (k.laneA.sched.held.find? (fun h => h.die == 1) = some { c with route := 240 } ∧ k.runs .a)
      ∧ (m.laneA.sched.held.find? (fun h => h.die == 1) = some c ∧ m.runs .a ∧ (m.laneA.route 17).lateMax = 400 ∧ 400 < c.cmd.lateness + (m.now - c.since))
      ∧ (p.laneA.sched.held.any (fun h => h.die == 1) = true ∧ p.takesWrite .a Reg.wptCtrl ∧ p.laneA.bit Reg.wptCtrl 0 = true ∧ p.laneA.linkFull p.now 1 = true)
      ∧ (z.laneA.xwk.rx.head? = some (.decision x) ∧ (z.laneA.route 5).decWait = none ∧ (z.laneA.route 5).phase = .running)
      ∧ (w.laneA.xwk.rx.head? = some (.decision x) ∧ (w.laneA.route 5).rcn = x.rcn ∧ (w.laneA.route 5).decWait = some 990000
          ∧ 990000 + 1600 ≤ w.laneA.time ∧ Instr.swapDecision .a ∉ w.pending)
      ∧ (n.laneA.xwk.rx.head? = some (.decision x) ∧ (n.laneA.route 5).decWait = none) := by decide +kernel

/-! ### Start-up and the configuration store -/

/-- Lane A changed. -/
def laneA' (f : Lane → Lane) (s : State := on2) : State := s.upd .a f

theorem test_witness_starts :
    let p := laneA' fun L => { L with run := .init, power := { L.power with cold := true, pllAt := 0 } }
    let k := p
    let p := { p with now := 5000000 }
    let w := laneA' fun L => { L with run := .stopped }
    let f := w.upd .a fun L => { L with mon := { L.mon with fuse := vmod (vmod L.mon.fuse 0 fun c => { c with opt := 1 }) 1 fun c => { c with opt := 2 } } }
    let m := laneA' fun L => { L.setFld Reg.cfgBoot 28 4 2 with power := { L.power with cold := true } }
    let r := laneA' fun L => { L.setFld Reg.cfgBoot 28 4 8 with
      reported := some 0, time := 70000000, store := { L.store with image := some 0 } }
    (State.reset.fitted .a = true ∧ State.reset.laneA.run = .off ∧ State.reset.allDown .a = true
        ∧ { on2 with laneA := {} }.allDown .a = false ∧ State.reset.laneA.mon.fuseBad = false ∧ on2.laneA.run ≠ .off)
      ∧ (p.laneA.run = .init ∧ p.laneA.mon.fuseBad = false ∧ p.laneA.power.clockFault = false ∧ p.laneA.power.pllAt + 4000000 ≤ p.now
          ∧ p.laneA.power.lockTaken p.now = false ∧ k.laneA.run = .init ∧ k.laneA.power.lockTaken k.now = true
          ∧ (∀ k, Instr.pllLock ⟨.a, k⟩ ∉ p.pending))
      ∧ (f.laneA.run = .stopped ∧ f.laneA.mon.fuseBad = true)
      ∧ (w.laneA.run = .stopped ∧ w.laneA.power.cold = false ∧ { w.laneA.store.nand with params := [] }.fitted = false)
      ∧ (m.laneA.initing = true ∧ m.ports.toList.all (fun x => !x.reqs.any Req.isHeld) = true ∧ m.laneA.mon.wait = none ∧ m.laneA.mem.waits = [])
      ∧ (r.laneA.on = true ∧ r.laneA.reported = some 0 ∧ r.laneA.store.image.isSome = true ∧ r.laneA.fld Reg.cfgBoot 28 4 = 8
          ∧ r.laneA.xwk.digestIn = none ∧ r.laneA.ready = false ∧ r.laneA.mon.hold = false) := by decide +kernel

theorem test_witness_service_core :
    let j := laneA' fun L => { L with store := { L.store with found := true, buf := [{ typ := 4, rseq := 0, time := 0, payload := [] }], urgent := true } }
    let d := laneA' fun L => { L with time := 2 * hourTclk, ready := true, store := { L.store with found := true, image := some 0 } }
    let d := regsA [(Reg.cfgStore, 0x101)] d
    let i := laneA' fun L => { L with store := { L.store with install := some [] } }
    let z := laneA' fun L => { L.setFld Reg.cfgBoot 28 4 2 with power := { L.power with cold := true } }
    (j.runs .a ∧ j.laneA.jrnDue = true ∧ (lastHour j.laneA.time j.laneA.store.urgentAt).length < 64
        ∧ (lastHour j.laneA.time j.laneA.store.pagesAt).length < 3600 ∧ j.laneA.store.nand.worn = [] ∧ j.laneA.store.found = true
        ∧ j.laneA.format.ringGood j.laneA.store.head 1024 = some 0)
      ∧ (d.runs .a ∧ d.laneA.snapNow = true ∧ 0 < d.laneA.fld Reg.cfgStore 8 12 ∧ d.laneA.store.install = none
          ∧ d.laneA.store.patrolAt + d.laneA.fld Reg.cfgStore 8 12 * hourTclk ≤ d.laneA.time
          ∧ 0 < d.laneA.fld Reg.cfgStore 0 8 ∧ d.laneA.mem.scrub = none
          ∧ d.laneA.store.scrubAt + d.laneA.fld Reg.cfgStore 0 8 * hourTclk ≤ d.laneA.time
          ∧ d.laneA.store.repaired = false ∧ d.laneA.store.runAt + hourTclk ≤ d.laneA.time)
      ∧ (on2.laneA.store.found = false ∧ z.laneA.initing = true ∧ on2.laneA.initing = false ∧ d.laneA.ready = true
          ∧ d.laneA.store.found = true ∧ d.laneA.store.image.isSome = true)
      ∧ (on2.takesWrite .a Reg.cfgInstall ∧ on2.laneA.bit Reg.cfgInstall 15 = false)
      ∧ (i.laneA.store.install = some [] ∧ i.laneA.installCheck i.variantS [] ≠ 1) := by decide +kernel

/-- A signed image without a record (R304 to R307). -/
def plainImage : List Byte :=
  let h := leBytes 0x49435A4C 4 ++ leBytes 3 2 ++ leBytes 0 2 ++ leBytes 1 4 ++ leBytes 144 4 ++ leBytes 16 4
    ++ leBytes 0x2448 2 ++ List.replicate 42 0
  let x := h ++ leBytes 0xFF 2 ++ List.replicate 14 0
  let x := x ++ sha256 x
  x ++ hmac [1] x

theorem test_witness_install_passes :
    let i := laneA' fun L => { L.setReg Reg.cfgStageLen 144 with
      mon := { L.mon with ka := [1] }, store := { L.store with install := some plainImage, found := true } }
    i.runs .a ∧ i.laneA.store.install = some plainImage ∧ i.laneA.installCheck i.variantS plainImage = 1 := by decide +kernel

/-! ### Clocks, resets, power -/

theorem test_witness_clocks_and_resets :
    let f := regsA [(Reg.clkMon, 1)] (laneA' fun L => { L with run := .stopped, power := { L.power with clockFault := true } })
    let w := { on2 with now := 900000000 }
    let b := authA on2
    let h := laneA' fun L => { L with run := .init }
    (on2.fitted .a = true ∧ on2.laneA.on = true ∧ 1000 < (1001#16).toInt.natAbs ∧ on2.laneA.bit (Reg.capInfo 1) 31 = false
        ∧ on2.laneA.power.clockFault = false)
      ∧ (f.laneA.power.clockFault = true ∧ f.laneA.bit Reg.clkMon 0 = true ∧ f.laneA.run = .stopped ∧ bits (0xC3A50000 : Word) 16 16 = 0xC3A5)
      ∧ (h.laneA.run = .init ∧ { on2 with laneA := { on2.laneA with run := .standby } }.laneA.run = .standby)
      ∧ (w.laneA.run ≠ .off ∧ w.laneA.power.coreAt + max 1 (w.laneA.fld Reg.clkCoreWdog 0 16) * 400000 ≤ w.now ∧ w.pending = [])
      ∧ (b.nothingHeld ∧ b.laneA.reg (frstReg 0) = 0 ∧ b.laneA.freshMask (frstReg 0) = 0 ∧ b.dieTakes 0 .a = true) := by decide +kernel

theorem test_witness_power_states :
    let i := laneA' fun L => { L with power := { L.power with idle := true } }
    let t := laneA' fun L => { L with run := .standby, power := { L.power with waking := true, wakeAt := some 5 } }
    let e := laneA' fun L => { L with run := .standby, power := { L.power with entry := some 5 } }
    let t := regsA [(Reg.icuWake, 0x3F)] t
    let c := regsA [(Reg.twiCtrl, 2), (Reg.twiTaddr, 0x42)] t
    (on2.laneA.power.idle = false ∧ on2.laneA.odo.state = .stopped ∧ votedLane on2.laneA.view ≠ some .a ∧ i.laneA.power.idle = true
        ∧ (on12 { state := .hold }).laneA.odo.state ≠ .stopped)
      ∧ (bits (0x57BD0003 : Word) 0 2 = 3 ∧ bits (0x57BD0003 : Word) 16 16 = 0x57BD)
      ∧ (t.fitted .a = true ∧ t.laneA.run = .standby ∧ t.laneA.bit Reg.icuWake 3 = true ∧ t.laneA.power.entry = none
          ∧ { c with laneA := { c.laneA with run := .standby } }.laneA.twiMatch 0x42 = some 1 ∧ c.laneA.twiMatch 0x43 = none
          ∧ t.laneA.power.waking = true ∧ t.laneA.power.wakeAt = some 5 ∧ 5 ≤ t.now ∧ e.laneA.power.entry.isSome = true)
      ∧ (t.laneA.power.supLo = false ∧ t.laneA.bit Reg.icuWake 4 = true ∧ on2.laneA.srcMode 12 ≠ 0)
      ∧ (on2.laneA.power.supLo = false ∧ 0 < on2.laneA.fld Reg.clkSupwarn 0 8
          ∧ (BitVec.ofNat 16 (on2.laneA.fld Reg.clkTemp 16 16)).toInt < (on2.laneA.fld Reg.clkTemp 0 8 : Int) * 8) := by decide +kernel

/-! ### Faults and memories -/

/-- A fault message of a kind, in the queue of Lane A. -/
def msgA (k : Kind) : State := laneA' fun L => { L with fltQ := [{ w0 := faultWord k 0, w1 := 0 }] }

theorem test_witness_fault_messages :
    let r := laneA' (fun L => { L with ready := true, standby := true }) { on2 with jct := { on2.jct with state := .auth .a, voted := .laneA, a := { on2.jct.a with kaLost := false } } }
    let x := laneA' (fun L => { L with ready := true, standby := true }) { on2 with jct := { on2.jct with state := .safe, voted := .safe } }
    let b := regsA [(Reg.fltBist, 0x80000000)] on2
    (nextFault (msgA .odoLost).laneA.fltQ = some { w0 := faultWord .odoLost 0, w1 := 0 } ∧ (msgA .odoLost).nothingHeld ∧ (msgA .odoLost).runs .a
        ∧ on2.laneA.bit (Reg.capInfo 1) 31 = false ∧ on2.laneA.reaction false { w0 := faultWord .odoLost 0, w1 := 0 } = 1)
      ∧ (twoHealthy r.jct.f0 r.jct.f1 r.jct.f2 ∧ r.eligible .a = true ∧ r.jct.state ≠ .safe ∧ r.jct.voted ≠ .safe
          ∧ bits (0x9C630000 : Word) 16 16 = 0x9C63 ∧ on2.laneA.reaction false { w0 := faultWord .jctCoastSafe 0, w1 := 0 } = 4)
      ∧ (x.exitOk .a = true ∧ on2.exitOk .a = false ∧ bits (0x3C960000 : Word) 16 16 = 0x3C96)
      ∧ (b.laneA.bit Reg.fltBist 31 = true ∧ putBit (0x3BF#10) 6 true = 0x3FF) := by decide +kernel

theorem test_witness_memories :
    let m := laneA' fun L => { L with mem := { L.mem with merge := [⟨0x20, 3, 5, 6⟩] } }
    let p := laneA' fun L => { L with mem := { L.mem with scrub := some { next := 0x20, last := 0x40, start := 0 } } }
    let e := laneA' fun L => { L with mem := { L.mem with scrub := some { next := 0x40, last := 0x40, start := 0 } } }
    let i := p.upd .a fun L => { L.setFld Reg.cfgBoot 28 4 2 with power := { L.power with cold := true } }
    (m.runs .a ∧ m.laneA.mem.narrowAt + 128 ≤ m.laneA.time ∧ bits (0x81000000 : Word) 24 5 ≤ 18)
      ∧ (on2.laneA.mem.scrub = none ∧ arrayOf (on2.laneA.scrubAddr Reg.memScrubStart) = some 0
          ∧ on2.laneA.scrubAddr Reg.memScrubStart ≤ on2.laneA.scrubAddr Reg.memScrubEnd)
      ∧ (p.laneA.mem.scrub.isSome = true ∧ p.laneA.initing = false ∧ p.pending = [] ∧ i.laneA.mem.scrub.isSome = true ∧ i.laneA.initing = true
          ∧ i.laneA.waitsInit 0x100 4 = true ∧ decodeWord none (p.laneA.rawWord 0x20).1 (p.laneA.rawWord 0x20).2 = .clean)
      ∧ (e.laneA.mem.scrub.map Scrub.next = some 0x40 ∧ e.laneA.mem.scrub.map Scrub.last = some 0x40)
      ∧ (arrayOf 0x100 = some 0 ∧ arrayOf 0x04100000 = some 2 ∧ on2.takesWrite .a Reg.wptHostsil ∧ on2.takesWrite .a (Reg.chnEvent 7)) := by
  decide +kernel

/-! ### Acquisition and combustion -/

/-- Lane A with this acquisition and these registers. -/
def acqA (q : Acq) (rs : List (Nat × Word) := []) : State := regsA rs (laneA' fun L => { L with acq := q })

/-- Angle channel 3. -/
def chan3 (c : AcChan) : Acq := { acs := vmod (Vector.replicate 24 {}) 3 fun _ => c }

/-- Scan modulator 2. -/
def mod2 (c : ScanMod) : Acq := { scs := vmod (Vector.replicate 8 {}) 2 fun _ => c }

/-- Cylinder 5. -/
def cyl5 (c : Cyl) : Acq := { cyls := vmod (Vector.replicate 24 {}) 5 fun _ => c }

/-- A mark that waits between two outputs. -/
def mark0 : AcMark := ⟨0, 950000, false, false, 0, true⟩

/-- Settings of a guard that trips above 0, for 2 cycles, of injector routes 0 to 3. -/
def guard0 : CylAcc :=
  { ctrl := 0, peg := 0, win := 0, limit := 0x80000000, cut := 0x0200000F, pegref := 0, pmax := some (5, 1, false) }

theorem test_witness_samples_and_scans :
    let c := acqA (chan3 { state := .capture, marks := [mark0], outs := [(100, 960000, false), (100, 940000, false)] }) [(Reg.acCtrl 3, 0x80040000), (Reg.acWin 3, 8)]
    let f := acqA { chan3 { lay := true } with fired := 1 } [(Reg.acCtrl 3, 0x80000000), (Reg.acComp 3, 0x80100000), (Reg.acArm 3, 0xFFFF0000)]
    let g := acqA (mod2 { state := .seq }) [(Reg.scCtrl 2, 0x80010000)]
    let j := acqA (mod2 { state := .inj, inj := some 1 }) [(Reg.scCtrl 2, 0x80000000), (Reg.scInjCfg 2 1, 0x40000000)]
    let t := acqA (mod2 { state := .idle }) [(Reg.scCtrl 2, 0xC0000000), (Reg.scInjCfg 2 1, 0x40000000)]
    let q := acqA (mod2 { qrdFirst := some on2.laneA.time }) [(Reg.scCtrl 2, 0x80000000)]
    (c.runs .a ∧ c.laneA.acRuns 3 = true ∧ (c.laneA.ac 3).refill = none ∧ (c.laneA.ac 3).marks.head? = some mark0 ∧ mark0.framed = true
        ∧ (c.laneA.ac 3).closing = false ∧ c.laneA.initing = false ∧ (c.laneA.ac 3).marks.length = 1 ∧ (c.laneA.ac 3).state = .capture
        ∧ (c.laneA.ac 3).count + 1 ≠ c.laneA.acLen 3 ∧ c.laneA.sampleAddr 3 0 0 + 4 ≤ 0x00200000)
      ∧ (match placeMark [(7, 1000000, false), (100, 960000, false), (100, 940000, false)] mark0 (c.laneA.acGd 3) (c.laneA.acT 3) with
          | .value _ _ => true | _ => false) = true
      ∧ (f.runs .a ∧ f.laneA.acRuns 3 = true ∧ f.laneA.fld (Reg.acComp 3) 16 12 = 0x10)
      ∧ (g.runs .a ∧ g.laneA.bit (Reg.scCtrl 2) 31 = true ∧ g.laneA.power.idle = false ∧ (g.laneA.sc 2).state = .seq ∧ (g.laneA.sc 2).inj = none
          ∧ ((g.qrdAhead .a 2).laneA).scFill 2 < ((g.qrdAhead .a 2).laneA).scQlen 2
          ∧ (g.laneA.sc 2).entry < g.laneA.fld (Reg.scCtrl 2) 16 5)
      ∧ (j.runs .a ∧ j.laneA.bit (Reg.scCtrl 2) 31 = true ∧ j.laneA.power.idle = false ∧ (j.laneA.sc 2).state = .inj ∧ (j.laneA.sc 2).inj = some 1)
      ∧ (t.takesWrite .a (Reg.scCtrl 2) ∧ t.takesWrite .a (Reg.scInj 2) ∧ t.laneA.bit (Reg.scCtrl 2) 31 = true ∧ (t.laneA.sc 2).state = .idle ∧ (t.laneA.sc 2).pend = 0 ∧ t.laneA.power.idle = false
          ∧ t.laneA.fld (Reg.scInjCfg 2 1) 30 2 = 1 ∧ bits (2 : Word) 0 4 = 2 ^ 1)
      ∧ (on2.takesWrite .a (Reg.scCtrl 2) ∧ on2.laneA.bit (Reg.scCtrl 2) 31 = false ∧ on2.takesWrite .a (Reg.scQrd 2) ∧ (on2.laneA.sc 2).qrdFirst = none
          ∧ (q.laneA.sc 2).qrdFirst = some q.laneA.time) := by decide +kernel

theorem test_witness_calibration :
    let k := acqA { chan3 { state := .cal } with calRun := 8 } [(Reg.acCtrl 3, 0x80000000)]
    let p := acqA { mod2 { state := .cal } with calRun := 2 ^ 26 }
    let r := acqA (chan3 { state := .cal, refill := some 990000 })
    let w := acqA {} [(Reg.acWin 3, 8)]
    let d := acqA (chan3 { state := .capture }) [(Reg.acCtrl 3, 0x80000000)]
    (on2.laneA.acq.calRun = 0 ∧ k.laneA.acq.calRun.getLsbD 3 = true ∧ k.laneA.power.idle = false ∧ (k.laneA.ac 3).calDue = false ∧ p.laneA.acq.calRun.getLsbD 26 = true ∧ (p.laneA.sc 2).state = .cal
        ∧ coefOk 0 0x800000 = true ∧ coefOk 200000 0x800000 = false)
      ∧ (r.runs .a ∧ (r.laneA.ac 3).refill = some 990000 ∧ 990000 ≤ r.laneA.time ∧ r.laneA.power.idle = false)
      ∧ (w.takesWrite .a (Reg.acCtrl 3) ∧ w.laneA.acLen 3 = 8 ∧ on2.laneA.acLen 3 = 0)
      ∧ (d.takesWrite .a (Reg.acCtrl 3) ∧ d.laneA.bit (Reg.acCtrl 3) 31 = true ∧ (d.laneA.ac 3).state = .capture) := by decide +kernel

theorem test_witness_combustion :
    let e := acqA (cyl5 { closed := some (guard0, ⟨5, false, 0, 1, 0, false, false, false⟩) })
    let o := acqA (cyl5 { own := some (9, true, 900000, 0x0200000F) })
    let v := laneA' fun L => { L with xwk := { L.xwk with rx := [.verdict 5 9 true] } }
    (e.runs .a ∧ (e.laneA.cyl 5).closed = some (guard0, ⟨5, false, 0, 1, 0, false, false, false⟩) ∧ guard0.trips false = true
          ∧ e.role .a = .alone ∧ bits guard0.cut 24 8 ≠ 0)
      ∧ (o.runs .a ∧ (o.laneA.cyl 5).own = some (9, true, 900000, 0x0200000F) ∧ 900000 + 1600 ≤ o.laneA.time ∧ Instr.guardVerdict .a ∉ o.pending
          ∧ ((cylRoutes 5).any fun r => (o.laneA.route r).armed.any (·.waited)) = false)
      ∧ (v.runs .a ∧ takeVerdict v.laneA.xwk.rx = some ((5, 9, true), [])) := by decide +kernel

/-! ### Host ports -/

/-- A frame of this opcode and these fields with its CRC. -/
def sealed (op : Byte) (f : Frame) : Frame := { f with crc := crc32c (frameHead op f ++ f.payload) }

/-- Port 0 of Lane A as given. -/
def port0 (x : Port) (s : State := on2) : State := s.portUpd 0 fun _ => x

/-- A READ of CFG_STAGE, a WRITE of it, and a WRITE to main SRAM. -/
def readF : Frame := sealed 2 { len := 4, addr := BitVec.ofNat 32 Reg.cfgStage }
def writeF : Frame := sealed 1 { len := 4, addr := BitVec.ofNat 32 Reg.cfgStage, payload := [1, 2, 3, 4] }
def sramF : Frame := sealed 1 { len := 4, addr := 0x100, payload := [1, 2, 3, 4] }

theorem test_witness_refused_frames :
    let bad : Frame := { readF with crc := 0 }
    let odd := sealed 2 { len := 6 }
    let dup := port0 { queue := [⟨0, 0, [], 0, 0, false⟩] }
    let doze := port0 { doze := true }
    (frameOf (.read 0 bad) = some (0, 2, bad) ∧ frameGood 2 bad = false ∧ on2.laneA.held .a (Reg.hstStat 0) = false
        ∧ (on2.port 0).awake on2.now = true)
      ∧ (frameOf (.read 0 odd) = some (0, 2, odd) ∧ frameGood 2 odd = true ∧ frameFields 2 odd = false)
      ∧ (frameGood 2 readF = true ∧ frameFields 2 readF = true ∧ (dup.port 0).tags.contains (frameTag readF) = true)
      ∧ (doze.port 0).awake doze.now = false := by decide +kernel

theorem test_witness_taken_frames :
    let act := sealed 1 { len := 4, addr := BitVec.ofNat 32 Reg.cfgInstall, payload := [0, 0, 0, 0] }
    on2.takesFrame 0 0 (sealed 0 {}) ∧ on2.takesFrame 0 5 (sealed 5 {}) ∧ on2.takesFrame 0 4 (sealed 4 { arg := 1 })
      ∧ (port0 { reqs := [⟨5, .mirrored 0 4⟩] }).takesFrame 0 1 act ∧ isActionWrite 1 act = true := by decide +kernel

theorem test_witness_port_timers :
    let late := port0 { modEnd := some 999000, wakeTo := some 999000, wdEnd := some 999000 }
    let std := laneA' fun L => ({ L with run := .standby }).setReg Reg.icuWake 4
    let note := laneA' fun L => { L with xwk := { L.xwk with rx := [.silence 1] } }
    ((late.port 0).modEnd = some 999000 ∧ (late.port 0).wakeTo = some 999000 ∧ (late.port 0).wdEnd = some 999000
        ∧ 999000 ≤ late.now ∧ late.pending = [] ∧ late.laneA.on = true)
      ∧ (std.laneA.run = .standby ∧ std.laneA.bit Reg.icuWake 2 = true ∧ std.laneA.power.entry = none ∧ std.fitted (portLane 0) = true)
      ∧ note.laneA.xwk.rx.head? = some (.silence 1) ∧ on2.takesWrite .a (Reg.hstWdog 0) := by decide +kernel

theorem test_witness_held_requests :
    let h := port0 { reqs := [⟨5, .held 2 readF⟩] }
    let r := port0 { reqs := [⟨5, .remote true 0x100⟩] }
    (h.takesFrame 0 1 writeF ∧ (h.port 0).reqs.any Req.isHeld = true ∧ h.takesFrame 0 2 readF)
      ∧ (r.takesFrame 0 2 readF ∧ readF.addr.getLsbD 31 = false ∧ (r.port 0).reqs.any Req.comesBack = true ∧ r.nothingHeld)
      ∧ (on2.laneA.waitsInit readF.addr.toNat 4 = false ∧ on2.laneA.waitsInit 0x100 4 = false
          ∧ ((on2.port 0).reqs.any Req.comesBack) = false) := by decide +kernel

theorem test_witness_own_lane :
    let hole := sealed 1 { len := 4, addr := 0x30000000, payload := [1, 2, 3, 4] }
    (on2.nothingHeld ∧ on2.takesFrame 0 2 readF ∧ readF.addr.getLsbD 31 = false)
      ∧ (on2.takesFrame 0 1 writeF ∧ writeF.addr.toNat = Reg.cfgStage ∧ writeF.len.toNat = 4 ∧ on2.takesWrite .a Reg.cfgStage)
      ∧ (on2.takesFrame 0 1 hole ∧ mirrored 0x30000000 = false ∧ mapped 0x30000000 = false) := by decide +kernel

theorem test_witness_other_lane :
    let far := sealed 2 { len := 4, addr := 0x80000100 }
    let farW := sealed 1 { len := 4, addr := 0x80000100, payload := [1, 2, 3, 4] }
    let up : State := { on2 with link := .up, mirror := .linked }
    (on2.takesFrame 0 2 far ∧ far.addr.getLsbD 31 = true ∧ on2.link ≠ .up)
      ∧ (up.takesFrame 0 2 far ∧ up.takesFrame 0 1 farW ∧ isActionWrite 1 farW = false ∧ up.variantS = false ∧ up.link = .up) := by
  decide +kernel

theorem test_witness_mirrored_writes :
    let up : State := { on2 with link := .up, mirror := .linked }
    let up := up.upd .a fun L => { L with ready := true }
    on2.takesFrame 0 1 sramF ∧ arrayOf 0x100 = some 0 ∧ on2.laneA.ready = false ∧ up.mirrorWay .a 0x100 = .forward
      ∧ { up with mirror := MirrorState.solo, jct := { on2.jct with voted := .laneB } }.mirrorWay .a 0x100 = .busy
      ∧ { up with mirror := MirrorState.solo }.mirrorWay .a 0x100 = .marked
      ∧ { up with variantS := true }.mirrorWay .a 0x100 = .alone := by decide +kernel

theorem test_witness_fences_and_streams :
    let st := sealed 6 { len := 4, arg := 1 }
    let f := port0 { reqs := [⟨5, .fence [] true⟩] }
    let w := port0 { reqs := [⟨5, .stream 0 8 true⟩] }
    let w2 := port0 { reqs := [⟨5, .stream 0 8 true⟩], streams := Vector.replicate 4 [(1, false), (2, false)] }
    (on2.takesFrame 0 3 (sealed 3 {}) ∧ (f.port 0).reqs.find? (fun r => r.tag == 5) = some ⟨5, .fence [] true⟩ ∧ f.nothingHeld)
      ∧ (on2.takesFrame 0 6 st ∧ st.addr.toNat = 0 ∧ (on2.port 0).streamHead 0 = none)
      ∧ ((w.port 0).streamHead 0 = some (5, 8, true) ∧ 4 * (vget (w.port 0).streams 0 []).length < 8
          ∧ 8 ≤ 4 * (vget (w2.port 0).streams 0 []).length ∧ w.takesFrame 0 6 st) := by decide +kernel

theorem test_witness_unknown_opcode :
    let f := sealed 9 {}
    frameGood 9 f = true ∧ on2.laneA.on = true ∧ on2.laneA.held .a (Reg.hstStat 0) = false ∧ (on2.port 0).awake on2.now = true := by
  decide +kernel

/-! ### Interrupts -/

theorem test_witness_interrupts :
    let a := regsA [(Reg.icuSw, 1), (Reg.tgtEn 0 5, 0x01000000)] on2
    let e := regsA [(Reg.icuMode 11, 0x00010000)] a
    let r := a.upd .a fun L => { L with icu := { L.icu with recs := vmod L.icu.recs 0 fun _ => some 7 } }
    let c := { a with pending := [.claim .a 0] }
    let x := laneA' fun L => { L with xwk := { L.xwk with rx := [.line 1 true] } }
    (a.runs .a ∧ srcReserved 184 = false ∧ srcReserved 14 = true ∧ a.laneA.srcSignal 184 = true ∧ a.laneA.icu.last.getLsbD 184 = false
        ∧ e.laneA.srcMode 184 = 1)
      ∧ (a.takesWrite .a (Reg.tgtClaim 0) ∧ a.laneA.icuRec 0 = none ∧ a.laneA.srcEligible 0 184 = true
          ∧ (∀ o ∈ a.claimsSoon .a, 0 ≤ o) ∧ c.claimsSoon .a = [0] ∧ Instr.claim .a 0 ∈ c.pending ∧ c.laneA.icuRec 0 = none
          ∧ c.laneA.srcNext 0 = some 184 ∧ c.laneA.icuRec 1 = none
          ∧ (∀ j : Fin 192, j < 184 → a.laneA.srcEligible 0 j = false) ∧ (∀ j : Fin 192, on2.laneA.srcEligible 0 j = false))
      ∧ (r.takesWrite .a (Reg.tgtComplete 0) ∧ r.laneA.icuRec 0 = some (bits (7 : Word) 0 10) ∧ r.laneA.icuRec 0 ≠ some (bits (9 : Word) 0 10)
          ∧ r.takesWrite .a (Reg.tgtCtrl 0) ∧ bits (0x3E5A0000 : Word) 16 16 = 0x3E5A)
      ∧ (on2.takesWrite .a (Reg.icuMode 11) ∧ on2.takesWrite .a (Reg.icuPend 5) ∧ on2.takesWrite .a (Reg.tgtEn 0 5) ∧ on2.takesWrite .a Reg.icuSw
          ∧ on2.laneA.icu.old = [])
      ∧ (x.laneA.xwk.rx.head? = some (.line 1 true) ∧ 1 = remoteTarget (otherLane .a) 0) := by decide +kernel

/-! ### DMA -/

/-- DMA channel 3 of Lane A. -/
def dma3 (d : DmaChan) (rs : List (Nat × Word) := []) (s : State := on2) : State :=
  regsA rs (laneA' (fun L => { L with dma := vmod L.dma 3 fun _ => d }) s)

/-- The words of a descriptor that moves 8 bytes within the main SRAM, and is the last. -/
def desc3 : Vector Word 5 := #v[0xC0, 8, 0x100, 0x200, 0]

theorem test_witness_dma_starts :
    let busy := dma3 { state := .move, desc := desc3 }
    let f := (dma3 { state := .fetch, cur := 0x40 }).upd .a fun L => L.writeBytes 0x40 (wordBytes [0xC0, 8, 0x100, 0x200, 0, 0, 0, 0]) 5
    let r := (f.laneA.setReg (Reg.dmaHops 3) 1).readBytes 0x40 32 0x13 1
    let w := fun (i : Nat) => (BitVec.ofNat 32 (leNat ((r.2.1.drop (4 * i)).take 4)) : Word)
    let o := dma3 { state := .fetch } [(Reg.dmaHops 3, 9), (Reg.dmaCtrl 3, 1)]
    let q := dma3 { state := .waitReq, desc := #v[0x01000080, 8, 0, 0, 0] } [(Reg.dmaReqcnt 0, 1)]
    (on2.takesWrite .a (Reg.dmaStart 3) ∧ (on2.laneA.dch 3).state = .idle ∧ (busy.laneA.dch 3).state ≠ .idle
        ∧ busy.takesWrite .a (Reg.dmaStart 3) ∧ busy.takesWrite .a (Reg.dmaDesc 3))
      ∧ (f.runs .a ∧ f.laneA.initing = false ∧ f.pending = [] ∧ (f.laneA.dch 3).state = .fetch ∧ r.2.2 = false ∧ descValid .a false w = true
          ∧ max 1 (f.laneA.fld (Reg.dmaCtrl 3) 0 16) ≥ (f.laneA.reg (Reg.dmaHops 3)).toNat + 1)
      ∧ (max 1 (o.laneA.fld (Reg.dmaCtrl 3) 0 16) < (o.laneA.reg (Reg.dmaHops 3)).toNat + 1)
      ∧ (q.runs .a ∧ (q.laneA.dch 3).state = .waitReq ∧ reqSource (q.laneA.dch 3).req = some 0 ∧ 0 < q.laneA.fld (Reg.dmaReqcnt 0) 0 4) := by
  decide +kernel

/-- What a turn of channel 3 reads. -/
def turn3 (s : State) : List DmaWord := (s.laneA.dmaRead 3 (s.laneA.dmaReads 3)).2

theorem test_witness_dma_bursts :
    let m := dma3 { state := .move, desc := desc3 }
    let p := dma3 { state := .move, desc := #v[0x300C0, 8, 0x100, 0, 0] }
    let e := dma3 { state := .move, desc := #v[0x1000C0, 8, 0, 0x200, 0] }
    let d := dma3 { state := .move, desc := desc3, moved := 8, cur := 0x40 }
    let w := dma3 { state := .waitFlow, desc := desc3 }
    let x := dma3 { state := .move, desc := #v[0x1000C0, 8, 0, 0x200, 0] } [(Reg.scQbase 0, 0x1FFFF8), (Reg.scQrd 0, 1), (Reg.scQwr 0, 2)]
    let y := dma3 { state := .move, desc := #v[0x1000C0, 8, 0, 0x200, 0] } [(Reg.scQbase 0, 0x1000), (Reg.scQwr 0, 2)]
    let q := (dma3 { state := .move, desc := #v[0x200C0, 8, 0x100, 0x200, 0] }).upd .a fun L => L.putPoison 0x100 7
    (m.runs .a ∧ m.laneA.initing = false ∧ (m.laneA.dch 3).moved < (m.laneA.dch 3).total ∧ (∀ c ∈ m.laneA.dmaBefore 3, m.dmaReady .a c = false)
        ∧ (m.dmaFirst .a 3).laneA.dmaReads 3 = 8 ∧ (m.laneA.dch 3).dstT = 0 ∧ (turn3 (m.dmaFirst .a 3)).any DmaWord.poison = false
        ∧ m.dmaRoom (m.laneA.dch 3) = 8)
      ∧ (p.dmaRoom (p.laneA.dch 3) = 4096 ∧ (p.laneA.dch 3).dstT = 3 ∧ e.laneA.dmaReads 3 = 0 ∧ (e.laneA.dch 3).buf = [] ∧ (e.laneA.dch 3).state = .move)
      ∧ (d.runs .a ∧ (d.laneA.dch 3).total ≤ (d.laneA.dch 3).moved ∧ 0x40 % 32 = 0)
      ∧ (x.laneA.dmaReads 3 = 8 ∧ x.laneA.dmaOff (x.laneA.dch 3) 8 = some 0x200000 ∧ m.laneA.dmaOff (m.laneA.dch 3) 8 = none)
      ∧ ((y.laneA.dch 3).srcT = 1 ∧ y.laneA.dmaReads 3 = 8 ∧ y.laneA.dmaOff (y.laneA.dch 3) 8 = none)
      ∧ ((q.laneA.dch 3).dstT = 2 ∧ (turn3 q).any DmaWord.poison = true)
      ∧ ((w.laneA.dch 3).state = .waitFlow ∧ 0 < w.laneA.dmaReads 3 ∧ 4 ≤ w.dmaRoom (w.laneA.dch 3))
      ∧ (m.pending = [] ∧ (m.laneA.dch 3).state = .move ∧ (m.laneA.dch 3).answerAt ≠ some m.laneA.time) := by decide +kernel

/-! ### Byway engines -/

/-- Engine 2 of Lane A runs and has a cycle due, with the instruction of these OP, ARG and low bits at PC 0. -/
def eng2 (op arg : Nat) (b : Byw := { due := 1 }) : State :=
  regsA [(Reg.bywCtrl 2, 1), (Reg.bywImem 2 0, BitVec.ofNat 32 (op * 2 ^ 20 + arg * 2 ^ 8))] (laneA' fun L => { L with byw := vmod L.byw 2 fun _ => b })

theorem test_witness_byway_fetches :
    (∀ op ∈ [1, 2, 3, 4, 5, 6, 7, 8, 9, 0], (eng2 op 0).fetches .a 2 op)
      ∧ argOf ((eng2 1 0x500).laneA.fetchImem 2) 8 4 = 5 ∧ argOf ((eng2 2 0x200).laneA.fetchImem 2) 9 3 = 1
      ∧ argOf ((eng2 3 0x920).laneA.fetchImem 2) 11 1 = 1 ∧ argOf ((eng2 6 0x800).laneA.fetchImem 2) 10 2 = 2 := by decide +kernel

theorem test_witness_byway_stalls :
    let a := eng2 2 0 { due := 1, stalled := true, latch := 0x200000 }
    let b := eng2 2 0 { due := 1, stalled := true, latch := 0x210000 }
    let c := eng2 2 0 { due := 1, idle := 3 }
    (a.laneA.bywReady 2 = true ∧ (a.laneA.eng 2).stalled = true ∧ ((a.laneA.cycleTake 2).bywExec 2 0x200000 false).completes.isSome = true)
      ∧ (b.laneA.bywReady 2 = true ∧ (b.laneA.eng 2).stalled = true ∧ ((b.laneA.cycleTake 2).bywExec 2 0x210000 false).completes.isNone = true)
      ∧ (c.laneA.bywReady 2 = true ∧ (c.laneA.eng 2).stalled = false ∧ 0 < (c.laneA.eng 2).idle)
      ∧ (∀ x ∈ on2.pending.filterMap (on2.accessSoon .a), x.txWords 2 = [] ∧ x.rxReads 2 = 0)
      ∧ (on2.takesWrite .a (Reg.bywInj 2) ∧ ((a.laneA.eng 2).stalled && a.laneA.bywReady 2) = true ∧ (on2.laneA.bywExec 2 0x500000 false).completes.isSome = true
          ∧ (on2.laneA.bywExec 2 0 false).completes.isNone = true) := by decide +kernel

theorem test_witness_byway_settings :
    let q := laneA' fun L => { L with byw := vmod L.byw 2 fun _ => { rx := [5], tx := [1, 2, 3, 4] } }
    (on2.takesWrite .a (Reg.bywCtrl 2) ∧ (∀ r ∈ [BywCfgReg.raten, .rated, .pincfg, .qcfg], on2.takesWrite .a (bywCfgAddr 2 r))
        ∧ on2.laneA.bit (Reg.bywCtrl 2) 0 = false ∧ (eng2 1 0).laneA.bit (Reg.bywCtrl 2) 0 = true)
      ∧ (q.takesWrite .a (Reg.bywTxq 2) ∧ (q.laneA.bywCap 2).2 ≤ (q.laneA.eng 2).tx.length ∧ ¬ (on2.laneA.bywCap 2).2 ≤ (on2.laneA.eng 2).tx.length
          ∧ (q.laneA.eng 2).rx ≠ [] ∧ q.takesWrite .a (Reg.bywRxq 2) ∧ (on2.laneA.eng 2).rx = [])
      ∧ (on2.takesWrite .a (Reg.bywImem 2 7) ∧ on2.laneA.imemOld.lookup (Reg.bywImem 2 7) = none)
      ∧ (on2.takesWrite .a Reg.bywSync ∧ on2.takesWrite .a Reg.bywFlags ∧ on2.takesWrite .a (pinLatchAddr true))
      ∧ (on2.laneA.fld Reg.bywPinflt0 0 4 = 0 ∧ on2.laneA.pins.getLsbD 0 ≠ true) := by decide +kernel

/-! ### Two-wire bus -/

/-- Lane A's two-wire block with these registers. -/
def twiA (t : Twi) (rs : List (Nat × Word) := []) : State := regsA rs (laneA' fun L => { L with twi := t })

theorem test_witness_two_wire_controller :
    let e := twiA {} [(Reg.twiCtrl, 1)]
    let a := twiA { state := .active, cmd := 0x00020100, retries := 1 } [(Reg.twiCtrl, 5)]
    let b := twiA { state := .active } [(Reg.twiCtrl, 5)]
    let g := twiA { state := .check, go := true, free := false } [(Reg.twiCtrl, 5)]
    let c := twiA { state := .check, free := false } [(Reg.twiCtrl, 1)]
    (e.takesWrite .a Reg.twiCcmd ∧ e.laneA.twi.free = true ∧ e.laneA.twi.state = .idle ∧ e.laneA.bit Reg.twiCtrl 0 = true
        ∧ bits (e.laneA.written Reg.twiCcmd 0x80000000) 8 7 = 0 ∧ bits (e.laneA.written Reg.twiCcmd 0x80000000) 16 7 = 0
        ∧ on2.laneA.bit Reg.twiCtrl 0 = false ∧ on2.takesWrite .a Reg.twiCcmd ∧ c.laneA.twi.go = false ∧ c.takesWrite .a Reg.twiCcmd)
      ∧ (a.runs .a ∧ a.laneA.twi.state = .active ∧ 0 < a.laneA.twi.retries ∧ b.laneA.twi.retries = 0
          ∧ g.laneA.twi.state = .check ∧ g.laneA.twi.go = true)
      ∧ (on2.takesWrite .a Reg.twiCtrl ∧ on2.laneA.twi.state = .idle)
      ∧ (c.twiSoon .a = false ∧ c.laneA.twi.state = .check ∧ c.laneA.bit Reg.twiCtrl 0 = true ∧ g.twiSoon .a = false ∧ g.laneA.bit Reg.twiCtrl 0 = true)
      ∧ (a.twiSoon .a = false ∧ a.laneA.twi.runs = true ∧ g.laneA.twi.runs = true ∧ a.laneA.bit Reg.twiCtrl 2 = true ∧ a.laneA.bit Reg.twiCtrl 1 = false
          ∧ c.laneA.bit Reg.twiCtrl 2 = false) := by decide +kernel

theorem test_witness_two_wire_target :
    let g := twiA {} [(Reg.twiCtrl, 6), (Reg.twiTaddr, 0x42)]
    let h := twiA { heardAt := some on2.laneA.time } [(Reg.twiCtrl, 6), (Reg.twiTaddr, 0x42)]
    let w := twiA {} [(Reg.twiCtrl, 2), (Reg.twiTaddr, 0x42), (Reg.twiTwin, 0x80000000)]
    (g.runs .a ∧ g.laneA.initing = false ∧ g.laneA.twiMatch 0x42 = some 1 ∧ g.laneA.twiMatch 0x43 = none ∧ g.laneA.bit Reg.twiTwin 31 = false
        ∧ g.laneA.mem.merge.length + 4 ≤ 8)
      ∧ (w.laneA.twiMatch 0x42 = some 1 ∧ w.laneA.bit Reg.twiTwin 31 = true)
      ∧ (g.targetSoon .a = false ∧ g.laneA.bit Reg.twiCtrl 1 = true ∧ g.laneA.bit Reg.twiCtrl 2 = true ∧ g.laneA.twi.heardAt = none
          ∧ g.laneA.twi.runs = false ∧ h.laneA.twi.heardAt = some h.laneA.time)
      ∧ (∀ r ∈ [TwiCfgReg.tim0, .tim1, .tout, .taddr, .twin], on2.takesWrite .a (twiCfgAddr r))
      ∧ (g.laneA.bit Reg.twiCtrl 0 || g.laneA.bit Reg.twiCtrl 1) = true := by decide +kernel

/-! ### Monitor -/

/-- Lane A's monitor in a lock state. -/
def monA (m : Mon) : State := laneA' fun L => { L with mon := m }

theorem test_witness_monitor_commands :
    let o := monA {}
    let k := List.replicate 32 (1 : Byte)
    let full := monA { ka := k, kc := k }
    let r := monA {} |>.upd .a fun L => { L with ready := true }
    (o.runs .a ∧ o.laneA.mon.lock = .opened ∧ (monA { lock := .locked }).laneA.mon.lock = .locked)
      ∧ (full.laneA.mon.ka ≠ [] ∧ full.laneA.mon.kc ≠ [] ∧ k.length = 32)
      ∧ (r.laneA.ready && !r.variantS) = true
      ∧ ((o.readWord .a Reg.cfgStage 0).2.2 = .ok ∧ (o.writeWord .a .core Reg.cfgStage 5).2 = .ok ∧ mapped 0x30000000 = false
          ∧ (arrayOf 0x30000000).isSome = false)
      ∧ ((o.upd .a fun L => L.putPoison 16 7).readWord .a 16 0).2.2 = .poison := by decide +kernel

theorem test_witness_challenge :
    let n := monA { lock := .locked, nonce := some ([1, 2], 0), delay := some 2000000 }
    let r := List.replicate 16 (0 : Byte)
    (n.laneA.mon.nonce = some ([1, 2], 0) ∧ n.now ≤ 0 + 24000000000 ∧ r.length = 16 ∧ n.laneA.odo.state = .stopped)
      ∧ (decide (n.now < 2000000) = true ∧ (monA { lock := .locked }).laneA.mon.delay = none) := by decide +kernel

/-- The answer that R416 calls correct is of the length that RESP takes, so a correct RESP exists for every nonce. -/
theorem test_witness_right_answer (s : State) (q : List Byte) :
    ((hmac s.laneA.mon.kc (q ++ leBytes (Config.serial 0).toNat 4 ++ [0x41])).take 16).length = 16 := by
  simp [hmac_length]

/-! ### Accesses that wait, and what waits in the same cycle -/

/-- Lane A while it initialises its arrays. -/
def initA (s : State := on2) : State :=
  regsA [(Reg.cfgBoot, 0x20000000)] (laneA' (fun L => { L with power := { L.power with cold := true }, mem := { L.mem with initDone := false } }) s)

theorem test_witness_initialisation_waits :
    let i := initA
    let m := i.upd .a fun L => { L with mon := { L.mon with lock := .opened } }
    (i.runs .a ∧ i.laneA.initing = true ∧ i.laneA.waitsInit 0x100 4 = true ∧ on2.laneA.waitsInit 0x100 4 = false)
      ∧ (i.takesFrame 0 1 sramF ∧ i.laneA.reqWaits 1 sramF = true ∧ on2.laneA.initing = false)
      ∧ (m.laneA.mon.lock = .opened ∧ m.laneA.waitsInit 0x100 4 = true ∧ m.laneA.waitsInit Reg.cfgStage 4 = false ∧ mapped 0x100 = true
          ∧ m.laneA.ready = false) := by decide +kernel

theorem test_witness_waiting_commands :
    let f := { on2 with pending := [.nop 0 (sealed 0 {})] }
    let d := { dma3 { state := .move, desc := desc3 } with pending := [.dmaBurst .a 3] }
    let o := { dma3 { state := .move, desc := desc3, moved := 8 } with pending := [.descriptorDone .a 3] }
    let x := dma3 { state := .move, desc := desc3, answerAt := some on2.laneA.time }
    let t := { twiA {} [(Reg.twiCtrl, 6)] with pending := [.targetRead .a 0x42 1] }
    let e := laneA' fun L => { L with byw := vmod L.byw 2 fun _ => { txEarly := 1, rx := [5], tx := [] } }
    (frameOf (.nop 0 (sealed 0 {})) = some (0, 0, sealed 0 {}) ∧ frameGood 0 (sealed 0 {}) = true ∧ (f.port 0).awake f.now = true
        ∧ f.laneA.held .a (Reg.hstStat 0) = false)
      ∧ (Instr.dmaBurst .a 3 ∈ d.pending ∧ Instr.descriptorDone .a 3 ∈ o.pending ∧ (x.laneA.dch 3).answerAt = some x.laneA.time ∧ x.pending = [])
      ∧ (t.laneA.twi.state ≠ .active ∧ t.targetSoon .a = true ∧ t.laneA.bit Reg.twiCtrl 2 = true)
      ∧ (0 < (e.laneA.eng 2).txEarly ∧ (e.laneA.eng 2).pushed < (e.laneA.eng 2).rx.length ∧ e.takesWrite .a (Reg.bywTxq 2)) := by
  decide +kernel

theorem test_witness_byway_host_first :
    ∀ op ∈ [1, 2, 3, 4, 5, 6, 7, 8, 9, 0], ((eng2 op 0).hostAhead .a 2).fetches .a 2 op ∧ (eng2 op 0).pending = [] := by decide +kernel

/-! ### Worked values of the spec -/

/-- 15_host_ports.md: the CRC of the nine ASCII bytes "123456789". -/
theorem test_crc32c : crc32c [0x31, 0x32, 0x33, 0x34, 0x35, 0x36, 0x37, 0x38, 0x39] = 0xE3069283 := by decide +kernel

/-- 12_faults.md, worked example: FLT_CAP1_W0 of SCHED_CMP, instance 1. -/
theorem test_fault_word : faultWord .selfSchedCmp 1 = 0x15414001 := by decide +kernel

/-- 15_host_ports.md, worked example: the first 12 bytes of the WRITE with tag 5. -/
theorem test_frame_head :
    frameHead 1 { quad := true, tag := 5, len := 40, addr := 0x10018000 } = [0x01, 0x05, 0x28, 0, 0, 0x80, 0x01, 0x10, 0, 0, 0, 0] := by
  decide +kernel

/-- 18_byways.md, worked example: the opcodes of WAIT, TIME, MOVE, COUNT, BRANCH and SHIFT. -/
theorem test_byway_opcodes : [0x220000, 0x6C0000, 0x400400, 0x551400, 0x130000, 0x329000].map opOf = [2, 6, 4, 5, 1, 3] := by
  decide +kernel

/-- 03_odometer_angle.md, worked example: Ppred 185,186 with gain 1/2, and the clamp at 185,185 with gain 1. -/
theorem test_slope_prediction :
    ({ regs := RegFile.set [] Reg.odoInterp 0x200 } : Lane).predict 740741 370371 0 1 = 185186
      ∧ ({ regs := RegFile.set [] Reg.odoInterp 0x300 } : Lane).predict 740741 370371 0 1 = 185185 := by decide +kernel

/-- 21_monitor.md, worked example: MON_LOCK of an opened lane with KA and KC reads 0x0000_000D. -/
theorem test_mon_lock : (monA { hold := true, ka := [1], kc := [1] }).regWord .a Reg.monLock = 0x0000000D := by decide +kernel

/-- 01_architecture.md R7: a W1C bit clears where a 1 is written and stays where a 0 is. -/
theorem test_w1c_clears :
    ((regsA [(Reg.monEvent, 6)] on2).laneA.written Reg.monEvent 2) = 4 := by decide +kernel

/-- SHA-256 of the three bytes "abc" begins with ba7816bf (the published example of the algorithm that R416 names). -/
theorem test_sha256_abc : (sha256 [0x61, 0x62, 0x63]).take 4 = [0xBA, 0x78, 0x16, 0xBF] := by decide +kernel

/-- 22_electrical.md, worked example of E24: where CH141, QHS35, BR2, IG34, IG35, AC17 and H2_IRQ_N lie. -/
theorem test_pins :
    pinAt .j1 142 = some (.ch 141) ∧ (∀ i ∈ [263, 264], pinAt .j1 i = some (.qhs 35)) ∧ (∀ i ∈ [321, 324], pinAt .j1 i = some (.br 2))
      ∧ pinAt .j2 63 = some (.ig 34) ∧ pinAt .j2 64 = some (.ig 35) ∧ pinAt .j2 111 = some (.igs 34) ∧ pinAt .j2 112 = some (.igs 35)
      ∧ pinAt .j2 159 = some (.acP 17) ∧ pinAt .j2 160 = some (.acN 17) ∧ pinAt .j3 75 = some (.hIrqN 2) := by decide +kernel

/-- One step of the evaluation at the root x of the field of 14_start_up.md R301, from the coefficient numbered i down. -/
def atRoot (y : BitVec 14) (i : Nat) : BitVec 14 :=
  (if y.getLsbD 13 then (y <<< 1) ^^^ 0x2B else y <<< 1) ^^^ (if bchGen.getLsbD (559 - i) then 1 else 0)

/-- 14_start_up.md R301: the generator is zero at the root of the field's polynomial, evaluated 56 coefficients at a time. -/
theorem test_bch_generator :
    ∀ c ∈ [((0 : Nat), (0x1 : BitVec 14), 0x3dd5), (1, 0x3dd5, 0x113f), (2, 0x113f, 0x1709), (3, 0x1709, 0x5fd), (4, 0x5fd, 0x16a), (5, 0x16a, 0x29de), (6, 0x29de, 0x2986), (7, 0x2986, 0x1e59), (8, 0x1e59, 0x651), (9, 0x651, 0x0)],
      (List.range' (56 * c.1) 56).foldl atRoot c.2.1 = c.2.2 := by
  decide +kernel

/-! ### Well-formedness -/

/-- One ill-formed term for each check of Instr.wf, which refuses it. -/
theorem test_ill_formed_commands :
    (([
        .registerWrite .a (.host 0) 2 0, .odoEnable .a 0, .odoDisable .a 1, .resync .a 1, .geoReset .a 0, .markEnable .a 0 0, .commit .a (.host 0) 0x80000000,
        .commitCancel .a (.host 0) 0, .shadowWrite .a (.host 0) 0x10018001 0, .routeRamWrite .a (.host 0) 0x04010000 0, .schedEnable .a 0, .schedDisable .a 1,
        .channelEnable .a 0 0, .channelDisable .a 0 1, .clr .a 0 0, .seed .a 0 0, .boostEnable .a 0 0, .boostDisable .a 0 1, .gateEnable .a 0 0,
        .gateDisable .a 0 1, .gateClear .a 0 0, .go .a 0 0, .inj .a 0 0x10, .cal .a 0, .angleChannelEnable .a 0 0, .angleChannelDisable .a 0 0x80000000,
        .cutClr .a 0 0, .combustionConfigWrite .a 0x10080000 0, .release .a 0, .handover .a 0, .safeEnterKey .a 0, .safeExitKey .a 0, .mergeFlush .a 0,
        .scrubGo .a 0, .scrubAbort .a 1, .watchdogEnable 0 0, .clrRec .a 0 0, .swSet .a 0x100, .swClr .a 1, .dmaGo .a 0 (.host 0) 0, .dmaStop .a 0 1,
        .engineEnable .a 0 0, .engineDisable .a 0 1, .engineClr .a 0 1, .twiGo .a 0, .ctlEn .a 0, .targetWrite .a 0 [], .targetRead .a 0 0,
        .laneRestart .a 0, .coreReset .a 0, .idleRequest .a 1, .runRequest .a 2, .standbyRequest .a 3, .monRd .a 0 9, .monKey .a .e [1], .monResp .a ⟨[], true⟩,
        .scanEnable .a 0 0] : List Instr).all fun c => !c.wf) = true := by decide +kernel

theorem test_well_formed_commands : (Instr.monRd .a 0 8).wf = true ∧ (Instr.standbyRequest .a 0x57BD0003).wf = true := by decide +kernel

end Sys2Proof.Machine
end

/-! The four statements of 02_wheels.md (O35 to O38), each refuted by one clause at a concrete state. The statements range
over every state. The state of O37 is a lane that coasts in HOLD; those of O35 and O36 (a recorded period of a position
beyond the geometry tables) and of O38 (a register file with an entry between two word addresses) are ones that a
premise of well-formedness would leave out. -/

namespace Sys2Proof.Machine

/-! ### Frames that a change breaks -/

/-- A frame fails at a register that it does not list and that changed. -/
theorem State.not_keeps_of_reg_ne {s u : State} {hide : State → State} {as : LaneId → List Nat} {l : LaneId} {a : Nat}
    (ha : a ∉ as l) (hne : (u.lane l).reg a ≠ (s.lane l).reg a) : ¬ s.keeps u hide as :=
  fun hk => hne (hk.1 l a ha)

/-- The registers that the Odometer reports in are words, and its tables end before 0x10004000. -/
theorem odoRegs_aligned_bounded {a : Nat} (h : a ∈ odoRegs) : a % 4 = 0 ∧ (a < Reg.odoGeob 1024 ∨ a = Reg.fltLost) := by
  simp only [odoRegs, List.mem_append, List.mem_flatMap, List.mem_range, List.mem_cons, List.not_mem_nil, or_false] at h
  rcases h with h | ⟨i, hi, h | h⟩
  · rcases h with h | h | h | h | h | h | h | h | h | h | h | h <;> subst h <;> decide
  · simp only [Reg.odoGeoa, Reg.odoGeob] at *; omega
  · simp only [Reg.odoGeob] at *; omega

/-! ### Rows of a running lane -/

theorem exec_crankEdge_of_runs {s : State} {l : LaneId} (h : s.runs l) (sec : Bool) (e : EdgeIn) :
    exec (.crankEdge l sec e) s = .next (s.crankRow l sec e).settle :=
  (show _ = execCrankEdge l sec e s from rfl).trans (laneCmd_on l s _ h.1 h.2)

theorem exec_virtualEdge_of_runs {s : State} {l : LaneId} (h : s.runs l) :
    exec (.virtualEdge l) s = .next ((s.odoRow l Lane.virtualEdge).payTick l).settle :=
  (show _ = execVirtualEdge l s from rfl).trans (laneCmd_on l s _ h.1 h.2)

theorem exec_stall_of_runs {s : State} {l : LaneId} (h : s.runs l) : exec (.stall l) s = .next (s.stallRow l).settle :=
  (show _ = execStall l s from rfl).trans (laneCmd_on l s _ h.1 h.2)

theorem exec_geoReset_of_runs {s : State} {l : LaneId} (h : s.runs l) (v : Word) :
    exec (.geoReset l v) s = .next (s.regWrite l Reg.odoGeoctrl v).settle :=
  (show _ = execGeoReset l v s from rfl).trans (laneCmd_on l s _ h.1 h.2)

/-! ### Learning outside the geometry tables -/

/-- Lane A is in FULL_SYNC on a two-stroke wheel of 4 positions, one tooth missing, with learning enabled and tolerance 0.
The edge that ends the gap is due; the list of the revolution's periods names a position 2048, where no table entry lies. -/
def learningState : State :=
  { State.reset with
    now := 1000000
    laneA := [(Reg.odoCtrl, 1), (Reg.odoWheel, 0x00010004), (Reg.odoGapratio, 0x400C3020), (Reg.odoSensor, 0x80800000),
        (Reg.odoDir, 0), (Reg.odoInterp, 4), (Reg.odoGeoctrl, 1)].foldl (fun L r => L.setReg r.1 r.2)
      { run := .running, time := 1000000
        odo := { state := .fullSync, pri := { edges := 20, last := 997997, seen := some 997997, p0 := 1000, p1 := 1000, pos := some 2 }
                 pos := 2, base := 32, ang := 40, t0 := 997997, sp := 2, pp := 2000, virt := [(999997, 0)]
                 periods := [(0, 1000), (2048, 1000)], tprev := some 4000, revClean := true } } }

theorem odoGeoa_2048_not_mem_odoRegs : Reg.odoGeoa 2048 ∉ inLane .a odoRegs .a := fun h => by
  obtain ⟨_, h | h⟩ := odoRegs_aligned_bounded h <;> exact absurd h (by decide)

/-- The crank edge that ends the revolution writes the learned factor of position 2048 (03_odometer_angle.md R63). -/
theorem learningState_crankRow_learns :
    ((learningState.crankRow .a false {}).lane .a).reg (Reg.odoGeoa 2048) ≠ (learningState.lane .a).reg (Reg.odoGeoa 2048) := by
  decide +kernel

/-- So does a virtual edge. -/
theorem learningState_virtualEdge_learns :
    (((learningState.odoRow .a Lane.virtualEdge).payTick .a).lane .a).reg (Reg.odoGeoa 2048)
      ≠ (learningState.lane .a).reg (Reg.odoGeoa 2048) := by
  decide +kernel

/-- Refutes O35: where the recorded periods of the revolution name a position outside the geometry tables, the edge of
FULL_SYNC that ends the revolution writes a register that the frame does not list. -/
theorem not_crankEdgesSearchAndTrack : ¬ Obligations.CrankEdgesSearchAndTrack := by
  unfold Obligations.CrankEdgesSearchAndTrack
  intro h
  obtain ⟨_, _, _, _, _, hsync, _⟩ := h learningState .a false {} 999997 (by decide +kernel) (by decide +kernel)
  obtain ⟨u, hu, hkeeps, _⟩ := hsync (by decide +kernel) rfl rfl rfl
  obtain rfl := Host.Outcome.next.inj ((exec_crankEdge_of_runs (by decide +kernel) _ _).symm.trans hu)
  refine State.not_keeps_of_reg_ne odoGeoa_2048_not_mem_odoRegs ?_ hkeeps
  rw [State.settle_lane_reg]
  exact learningState_crankRow_learns

/-- Refutes O36: a virtual edge that ends such a revolution writes the same register outside its frame. -/
theorem not_reversalsAndCamEdges : ¬ Obligations.ReversalsAndCamEdges := by
  unfold Obligations.ReversalsAndCamEdges
  intro h
  obtain ⟨_, _, _, _, _, _, hvirt⟩ := h learningState .a {} (by decide +kernel) (by decide +kernel)
  obtain ⟨u, hu, _, _, _, _, _, hkeeps⟩ :=
    hvirt (999997, 0) rfl (by decide +kernel) rfl (by decide +kernel) (by decide +kernel)
  obtain rfl := Host.Outcome.next.inj ((exec_virtualEdge_of_runs (by decide +kernel)).symm.trans hu)
  refine State.not_keeps_of_reg_ne odoGeoa_2048_not_mem_odoRegs ?_ hkeeps
  rw [State.settle_lane_reg]
  exact learningState_virtualEdge_learns

/-! ### A stall that the last micro-tick takes back -/

/-- A change that would make the angle word invalid, but no longer does once the TCLK's micro-tick is taken, leaves it
valid (04_waypoints_routes.md R108). -/
theorem State.odoStep_of_still_valid {s : State} {l : LaneId} {f : Lane → Lane} (h0 : (s.lane l).odo.valid = true)
    (h1 : (f (s.lane l)).odo.valid = false) (h2 : (f ((s.lastTick l).lane l)).odo.valid = true) :
    s.odoStep l f = (s.lastTick l).upd l f := by
  simp only [State.odoStep, State.upd, h0, h1, h2, Bool.true_beq, Bool.false_eq_true, if_false, if_true]

/-- Every route of the lane is idle. -/
def Lane.routesIdle (L : Lane) : Prop := ∀ r, (L.route r).phase = .idle

theorem foldl_of_fixed {α β : Type} (f : α → β → α) (a : α) (h : ∀ b, f a b = a) (xs : List β) : xs.foldl f a = a := by
  induction xs with
  | nil => rfl
  | cons x xs ih => rw [List.foldl_cons, h, ih]

/-- Nothing happens route by route where an idle route does nothing. -/
theorem Lane.eachRoute_of_routesIdle {L : Lane} {f : Lane → Nat → Lane} (h : L.routesIdle)
    (hf : ∀ r, (L.route r).phase = .idle → f L r = L) : L.eachRoute f = L :=
  foldl_of_fixed f L (fun r => hf r (h r)) _

theorem Lane.routeTick_of_idle {L : Lane} {r : Nat} (now : Nat) (h : (L.route r).phase = .idle) : L.routeTick now r = L := by
  simp only [Lane.routeTick, h] <;> rfl

/-- An angle event reaches the byway engines alone. -/
theorem Lane.bywAngle_sched (L : Lane) (n : Nat) : (L.bywAngle n).sched = L.sched := by
  refine List.foldlRecOn (motive := fun M : Lane => M.sched = L.sched) _ _ rfl fun M hM e _ => ?_
  dsimp only
  split
  · exact hM
  · exact hM

/-- Lane A coasts in HOLD at the last micro-tick of position 9 of 12, the span of position 10 has begun, the last edge lies
exactly the timeout back (4 × Pp + D_IN), and the micro-tick of this TCLK waits. -/
def coastingState : State :=
  { State.reset with
    now := 1000000
    pending := [.microTick .a]
    laneA := [(Reg.odoCtrl, 1), (Reg.odoWheel, 0x0041000C), (Reg.odoGapratio, 0x400C3020), (Reg.odoSensor, 0x80800000),
        (Reg.odoDir, 0), (Reg.odoInterp, 4), (Reg.odoTimeout, 0x40020001)].foldl (fun L r => L.setReg r.1 r.2)
      { run := .running, time := 1000000
        odo := { state := .hold, pri := { edges := 20, last := 995997, seen := some 995997, p0 := 1000, p1 := 1000 }
                 pos := 10, base := 160, ang := 159, word := 159, t0 := 1000000, sp := 1, pp := 1000 } } }

/-- The lane after a due micro-tick while its routes are idle (03_odometer_angle.md R65, R66, R74): the milestone, the wrap
and the marks act, and the routes' turn is taken. -/
def Lane.tickedIdle (L : Lane) : Lane :=
  let L := L.emit
  let L := if L.odo.ang % L.odoM == 0 then (L.schedUpd fun c => { c with gov := L.reg Reg.wptCtrl }).bywAngle 8 else L
  let L := if L.odo.word == 0 then L.bywAngle 9 else L
  (L.schedUpd fun c => { c with turnAt := some L.time }).fireMarks.emitDone

theorem Lane.routesIdle_of_routes_eq {L M : Lane} (h : L.routesIdle) (e : M.sched.routes = L.sched.routes) : M.routesIdle := by
  intro r
  simpa only [Lane.route, e] using h r

theorem Lane.milestoneActs_of_routesIdle {L : Lane} (h : L.routesIdle) :
    L.milestoneActs = (L.schedUpd fun c => { c with gov := L.reg Reg.wptCtrl }).bywAngle 8 := by
  have hg : (L.schedUpd fun c => { c with gov := L.reg Reg.wptCtrl }).routesIdle := Lane.routesIdle_of_routes_eq h rfl
  simp only [Lane.milestoneActs]
  rw [Lane.eachRoute_of_routesIdle hg fun r hr => by rw [hr]; rfl]

theorem State.microTick_of_routesIdle {s : State} {l : LaneId} (h : (s.lane l).routesIdle) (hdue : (s.lane l).tickDue = true)
    (hd : s.decisionSoon l = false) : s.microTick l = s.upd l Lane.tickedIdle := by
  have he : (s.lane l).emit.routesIdle := Lane.routesIdle_of_routes_eq h rfl
  simp only [State.microTick, State.upd, Lane.tickedIdle, hdue, hd, Bool.true_and, if_true, Bool.false_eq_true, if_false,
    Lane.milestoneActs_of_routesIdle he]
  rw [Lane.eachRoute_of_routesIdle]
  · refine Lane.routesIdle_of_routes_eq he ?_
    split <;> split <;> simp only [Lane.schedUpd_sched, Lane.bywAngle_sched]
  · intro r hr
    simp only [hr, bne_self_eq_false, Bool.false_and, Bool.false_eq_true, if_false, Lane.routeTick_of_idle _ hr,
      ite_self]

theorem State.lastTick_of_mem_pending {s : State} {l : LaneId} (h : Instr.microTick l ∈ s.pending) :
    s.lastTick l = (s.microTick l).upd l fun L => L.routesTurn s.now := by
  simp only [State.lastTick]
  rw [if_pos]
  exact Bool.or_eq_true_iff.2 (.inr (List.any_eq_true.2 ⟨_, h, beq_self_eq_true l⟩))

/-- STALL where the primary is the only sensor tracked, no edge of the active sensor waits and ODO_CTRL is not written. -/
theorem State.stallRow_of_alone {s : State} {l : LaneId} (hedge : s.crankSoon l (some (s.lane l).odo.actSec) = false)
    (hoff : s.odoOff l = false) (hsec : (s.lane l).secEn s.variantS = false) :
    s.stallRow l = s.odoStep l fun L => L.stall s.variantS false := by
  simp only [State.stallRow, hedge, hoff, hsec, Bool.or_self, Bool.false_and, Bool.false_eq_true, if_false]

theorem vget_replicate_default {α : Type} (n i : Nat) (x : α) : vget (Vector.replicate n x) i x = x := by
  by_cases hi : i < n
  · simp only [vget, Vector.getD, Vector.toArray_replicate, Array.getD_eq_getD_getElem?, Array.size_replicate, hi, getElem?_pos,
      Array.getElem_replicate, Option.getD_some]
  · simp only [vget, Vector.getD, Vector.toArray_replicate, Array.getD_eq_getD_getElem?, Array.size_replicate, hi,
      not_false_eq_true, getElem?_neg, Option.getD_none]

theorem coastingState_routesIdle : (coastingState.lane .a).routesIdle := fun r =>
  congrArg Route.phase (vget_replicate_default 240 r ({} : Route))

/-- The lane after the micro-tick that waits, which is due. -/
theorem coastingState_lastTick :
    (coastingState.lastTick .a).lane .a = (coastingState.lane .a).tickedIdle.routesTurn 1000000 := by
  rw [State.lastTick_of_mem_pending (List.mem_singleton.2 rfl),
    State.microTick_of_routesIdle coastingState_routesIdle (by decide +kernel) (by decide +kernel), State.lane_upd, State.lane_upd]
  rfl

/-- A stall that the last micro-tick takes back is judged after it, and leaves the angle word valid. -/
theorem State.stallRow_of_taken_back {s : State} {l : LaneId} (hedge : s.crankSoon l (some (s.lane l).odo.actSec) = false)
    (hoff : s.odoOff l = false) (hsec : (s.lane l).secEn s.variantS = false) (h0 : (s.lane l).odo.valid = true)
    (h1 : ((s.lane l).stall s.variantS false).odo.valid = false)
    (h2 : (((s.lastTick l).lane l).stall s.variantS false).odo.valid = true) :
    (s.stallRow l).lane l = ((s.lastTick l).lane l).stall s.variantS false := by
  rw [State.stallRow_of_alone hedge hoff hsec, State.odoStep_of_still_valid h0 h1 h2, State.lane_upd]

/-- After that micro-tick the word stands at position 10, whose span holds the gap: the timeout is twice as long, and the
sensor has not timed out (02_wheels.md R47). -/
theorem coastingState_stall_after_tick :
    (((coastingState.lastTick .a).lane .a).stall coastingState.variantS false).odo.state = .hold := by
  rw [coastingState_lastTick]
  decide +kernel

theorem coastingState_stallRow : ((coastingState.stallRow .a).lane .a).odo.state = .hold := by
  have hvalid : (((coastingState.lastTick .a).lane .a).stall coastingState.variantS false).odo.valid = true := by
    rw [Odo.valid, coastingState_stall_after_tick]
    rfl
  rw [State.stallRow_of_taken_back (by decide +kernel) (by decide +kernel) (by decide +kernel) (by decide +kernel)
    (by decide +kernel) hvalid]
  exact coastingState_stall_after_tick

/-- Refutes O37: in HOLD, with the sensor timed out and the micro-tick of the TCLK still to come, that micro-tick takes the
word into the gap's span, and the stall is not declared. -/
theorem not_stallSilenceAndHold : ¬ Obligations.StallSilenceAndHold := by
  unfold Obligations.StallSilenceAndHold
  intro h
  have hruns : coastingState.runs .a := by decide +kernel
  obtain ⟨hstall, _⟩ := h coastingState .a false hruns (by decide +kernel)
  obtain ⟨u, hu, hstopped, _⟩ :=
    hstall (by decide +kernel) (by decide +kernel) (by decide +kernel) (by decide +kernel) (.inl (by decide +kernel))
  have hu' := Host.Outcome.next.inj ((exec_stall_of_runs hruns).symm.trans hu)
  have hs : (u.lane .a).odo.state = .stopped := hstopped
  rw [← hu', State.settle_lane_odo, coastingState_stallRow] at hs
  exact absurd hs (by decide)

/-! ### A register between two word addresses -/

/-- Lane A runs, and its register file has an entry at an address within the geometry tables that no word begins at. -/
def unalignedState : State :=
  { State.reset with laneA := { run := .running, regs := [(Reg.odoGeoa 0 + 1, 5)] } }

theorem odoGeoa_succ_not_mem : Reg.odoGeoa 0 + 1 ∉ inLane .a (Reg.odoGeoctrl :: odoRegs) .a := fun h => by
  rcases List.mem_cons.1 h with h | h
  · exact absurd h (by decide)
  · exact absurd (odoRegs_aligned_bounded h).1 (by decide)

/-- GEO_RESET puts the whole address range of the tables back, that entry with it (03_odometer_angle.md R64). -/
theorem unalignedState_geoReset :
    ((unalignedState.regWrite .a Reg.odoGeoctrl 4).lane .a).reg (Reg.odoGeoa 0 + 1)
      ≠ (unalignedState.lane .a).reg (Reg.odoGeoa 0 + 1) := by
  decide +kernel

/-- Refutes O38: a register file may hold an entry between two word addresses of the geometry tables; GEO_RESET removes
it, and the frame does not list it. -/
theorem not_odometerSettings : ¬ Obligations.OdometerSettings := by
  unfold Obligations.OdometerSettings
  intro h
  have htakes : unalignedState.takesWrite .a Reg.odoCtrl := by decide +kernel
  obtain ⟨_, _, _, _, _, hreset, _⟩ := h unalignedState .a .wheel false 0 0 4 htakes
  obtain ⟨u, hu, _, _, _, hkeeps⟩ := hreset (by decide)
  obtain rfl := Host.Outcome.next.inj ((exec_geoReset_of_runs htakes.1 4).symm.trans hu)
  refine State.not_keeps_of_reg_ne odoGeoa_succ_not_mem ?_ hkeeps
  rw [State.settle_lane_reg]
  exact unalignedState_geoReset

end Sys2Proof.Machine

/-! The two statements of 03_odometer_angle.md (O39, O40), both refuted at one concrete state. A MICRO_TICK is preceded by
the writes to the route RAM that wait in its cycle (R279), and a waiting FORWARDED_WRITE may be as long as its message.
R323 keeps a block within 256 bytes; the statements range over every state, so also over one whose message begins in the
last word of the shadow window and runs on through the registers as far as CLK_RST. A premise that the messages under way
are blocks of R323 would leave that state out. -/

namespace Sys2Proof.Machine

/-! ### Micro-ticks that are not due -/

theorem exec_microTick_of_runs {s : State} {l : LaneId} (h : s.runs l) : exec (.microTick l) s = .next (s.microRow l).settle :=
  (show _ = execMicroTick l s from rfl).trans (laneCmd_on l s _ h.1 h.2)

theorem State.microRow_of_no_edge {s : State} {l : LaneId} (h : s.edgeSoon l = false) :
    s.microRow l = (s.writesFirst l (arrayBase 1) (arraySize 1)).microTick l := by
  simp only [State.microRow, h, Bool.false_eq_true, if_false]

/-- With no micro-tick due and every route idle, MICRO_TICK leaves the Odometer. -/
theorem State.microTick_odo_of_not_due {s : State} {l : LaneId} (hdue : (s.lane l).tickDue = false)
    (hidle : (s.lane l).routesIdle) : ((s.microTick l).lane l).odo = (s.lane l).odo := by
  simp only [State.microTick, hdue, Bool.false_and, Bool.false_eq_true, if_false, State.lane_setLane, Bool.not_false,
    Bool.and_true]
  rw [Lane.eachRoute_of_routesIdle]
  · split <;> rfl
  · exact Lane.routesIdle_of_routes_eq hidle (by split <;> rfl)
  · intro r hr
    simp only [Lane.routeTick_of_idle _ hr, ite_self]

/-! ### A lane restart -/

/-- The lane's Odometer is as reset leaves it, and every route is idle. -/
def Lane.atRest (L : Lane) : Prop := L.odo = {} ∧ L.routesIdle

theorem Lane.atRest_of_eq {L M : Lane} (h : L.atRest) (ho : M.odo = L.odo) (hs : M.sched = L.sched) : M.atRest :=
  ⟨ho.trans h.1, Lane.routesIdle_of_routes_eq h.2 (congrArg Sched.routes hs)⟩

theorem Lane.tickDue_of_atRest {L : Lane} (h : L.atRest) : L.tickDue = false := by
  rw [Lane.tickDue, h.1]
  rfl

theorem Lane.warm_atRest (L : Lane) (now : Nat) : (L.warm now).atRest :=
  ⟨rfl, fun r => congrArg Route.phase (vget_replicate_default 240 r ({} : Route))⟩

theorem Lane.queueFault_atRest {L : Lane} (h : L.atRest) (m : FaultMsg) : (L.queueFault m).atRest := by
  rcases L.queueFault_cases m with ⟨_, hq⟩ | ⟨_, _, hq⟩ | ⟨_, _, hq⟩ <;> rw [hq] <;> exact Lane.atRest_of_eq h rfl rfl

theorem Lane.raise_atRest {L : Lane} (h : L.atRest) (k : Kind) (inst w1 : Nat) : (L.raise k inst w1).atRest :=
  Lane.queueFault_atRest h _

theorem Lane.absentPorts_atRest {L : Lane} (h : L.atRest) (l : LaneId) : (L.absentPorts l).atRest := by
  cases l <;> exact Lane.atRest_of_eq h rfl rfl

/-- The fuse load leaves the Odometer and the scheduler (14_start_up.md R292). -/
theorem State.loadFuses_atRest {s : State} {l : LaneId} (h : (s.lane l).atRest) : ((s.loadFuses l).lane l).atRest := by
  have hlane : ∀ (t : State) (p : LaneId) (d : Vector Die 12), { t with pref := p, dies := d }.lane l = t.lane l := by
    intro t p d
    cases l <;> rfl
  unfold State.loadFuses
  by_cases hbad : (s.lane l).mon.fuseBad = true
  · simp only [hbad, if_true, State.lane_upd]
    refine Lane.raise_atRest ?_ _ _ _
    split <;> exact Lane.atRest_of_eq h rfl rfl
  · simp only [hbad, Bool.false_eq_true, if_false, hlane, State.lane_upd]
    split <;> exact Lane.atRest_of_eq h rfl rfl

theorem State.portsLost_lane (s : State) (l : LaneId) : ((lanePorts l).foldl (fun s p => s.portLost p) s).lane l = s.lane l := by
  cases l <;> rfl

/-- A warm reset leaves the Odometer STOPPED and the routes idle, in whatever state it comes (20_clocks_power.md R401). -/
theorem State.warmReset_atRest (s : State) (l : LaneId) (cause : Nat) : ((s.warmReset l cause).lane l).atRest := by
  refine State.loadFuses_atRest ?_
  rw [State.portsLost_lane, State.lane_upd]
  generalize hM : Lane.warm _ _ = M
  have hrest : M.atRest := hM ▸ Lane.warm_atRest _ _
  exact Lane.atRest_of_eq (Lane.absentPorts_atRest hrest l) rfl rfl

/-- A lane restart does the same, with or without a monitor command of its cycle before it. -/
theorem State.restart_atRest (s : State) (l : LaneId) : ((s.restart l).lane l).atRest := by
  unfold State.restart
  dsimp only
  split
  · rw [State.reply, State.lane_upd]
    exact Lane.atRest_of_eq (State.warmReset_atRest _ _ _) rfl rfl
  · exact State.warmReset_atRest _ _ _

/-! ### A block that runs on through the registers -/

/-- The only register whose write may be refused is WPT_COMMIT (04_waypoints_routes.md R110). -/
theorem State.writeReg_status (s : State) (l : LaneId) (w : Writer) {a : Nat} (v : Word) (ha : a ≠ Reg.wptCommit) :
    (s.writeReg l w a v).2 = .ok := by
  simp only [State.writeReg, if_neg ha]
  split
  · rfl
  · split
    case h_2 | h_10 => split <;> rfl
    all_goals rfl

theorem arrayOf_register {a : Nat} (h0 : 0x1001F800 ≤ a) : arrayOf a = none := by
  simp only [arrayOf, Bool.and_eq_true, decide_eq_true_eq]
  rw [if_neg (by omega), if_neg (by omega), if_neg (by omega)]

theorem shadowOf_register {a : Nat} (h0 : 0x1001F800 ≤ a) : shadowOf a = none := by
  simp only [shadowOf, Bool.and_eq_true, decide_eq_true_eq]
  rw [if_neg (by omega), if_neg (by omega), if_neg (by omega)]

/-- Above the shadow window every address that R15 maps is a register's. -/
theorem State.writePiece_register (s : State) (l : LaneId) (w : Writer) {a : Nat} (bs : List Byte) (h0 : 0x1001F800 ≤ a)
    (h1 : a < 0x10130000) : s.writePiece l w (a, bs) = s.writeReg l w a (BitVec.ofNat 32 (leNat bs)) := by
  have hmap : mapped a = true := by
    simp only [mapped, Bool.or_eq_true, Bool.and_eq_true, decide_eq_true_eq]
    omega
  simp only [State.writePiece, State.writeWord, arrayOf_register h0, shadowOf_register h0, hmap, Option.isSome_none,
    Bool.false_eq_true, if_false, Bool.not_true]

theorem writePieces_nil (a fuel : Nat) : writePieces a [] fuel = [] := by
  cases fuel <;> rfl

/-- Registers are written word by word (01_architecture.md R15). -/
theorem writePieces_register {a : Nat} {bs : List Byte} (fuel : Nat) (h0 : 0x1001F800 ≤ a) (hbs : bs ≠ []) :
    writePieces a bs (fuel + 1) = (a, bs.take 4) :: writePieces (a + 4) (bs.drop 4) fuel := by
  simp only [writePieces, arrayOf_register h0, shadowOf_register h0, List.isEmpty_iff, hbs, Option.isSome_none, Bool.or_self,
    Bool.false_eq_true, if_false]

/-- A piece of a block is written where the pieces before it were taken. -/
def State.nextPiece (l : LaneId) (w : Writer) (q : State × Status) (x : Nat × List Byte) : State × Status :=
  if q.2 == Status.ok then q.1.writePiece l w x else q

theorem State.nextPiece_of_ok (s : State) (l : LaneId) (w : Writer) (x : Nat × List Byte) :
    State.nextPiece l w (s, .ok) x = s.writePiece l w x := rfl

theorem State.writeBlock_of_ok {s : State} {l : LaneId} {w : Writer} {a : Nat} {bs : List Byte}
    (h : ((writePieces a bs (bs.length + 1)).foldl (State.nextPiece l w) (s, .ok)).2 = .ok) :
    s.writeBlock l w a bs = (writePieces a bs (bs.length + 1)).foldl (State.nextPiece l w) (s, .ok) :=
  if_pos (beq_iff_eq.2 h)

theorem State.nextPiece_register (s : State) (l : LaneId) (w : Writer) {a : Nat} (bs : List Byte) (h0 : 0x1001F800 ≤ a)
    (h1 : a < 0x10130000) : State.nextPiece l w (s, .ok) (a, bs) = ((s.writeReg l w a (BitVec.ofNat 32 (leNat bs))).1, .ok) := by
  have hne : a ≠ Reg.wptCommit := fun h => absurd (h ▸ h0) (by decide)
  rw [State.nextPiece_of_ok, State.writePiece_register s l w bs h0 h1]
  exact Prod.ext rfl (State.writeReg_status s l w _ hne)

/-- Words written to registers one after another are all taken: the last of them is written, in whatever state the others
left. -/
theorem exists_last_piece (l : LaneId) (w : Writer) (k : Nat) {a fuel : Nat} {bs : List Byte} (s : State) (h0 : 0x1001F800 ≤ a)
    (h1 : a + 4 * k < 0x10130000) (hlen : bs.length = 4 * k + 4) (hfuel : k < fuel) :
    ∃ t : State, (writePieces a bs fuel).foldl (State.nextPiece l w) (s, .ok)
      = ((t.writeReg l w (a + 4 * k) (BitVec.ofNat 32 (leNat (bs.drop (4 * k))))).1, .ok) := by
  induction k generalizing a fuel bs s with
  | zero =>
    obtain ⟨fuel, rfl⟩ := Nat.exists_eq_add_one_of_ne_zero (Nat.ne_zero_of_lt hfuel)
    have hbs : bs ≠ [] := List.ne_nil_of_length_pos (by omega)
    refine ⟨s, ?_⟩
    rw [writePieces_register fuel h0 hbs, List.drop_of_length_le (by omega), writePieces_nil, List.take_of_length_le (by omega)]
    exact State.nextPiece_register s l w bs h0 (by omega)
  | succ k ih =>
    obtain ⟨fuel, rfl⟩ := Nat.exists_eq_add_one_of_ne_zero (Nat.ne_zero_of_lt hfuel)
    have hbs : bs ≠ [] := List.ne_nil_of_length_pos (by omega)
    rw [writePieces_register fuel h0 hbs, List.foldl_cons, State.nextPiece_register s l w _ h0 (by omega)]
    have hrest : (bs.drop 4).length = 4 * k + 4 := by
      rw [List.length_drop, hlen]
      omega
    obtain ⟨t, ht⟩ := ih (a := a + 4) (fuel := fuel) _ (by omega) (by omega) hrest (by omega)
    refine ⟨t, ht.trans ?_⟩
    rw [List.drop_drop, show a + 4 + 4 * k = a + 4 * (k + 1) by omega, show 4 + 4 * k = 4 * (k + 1) by omega]

/-- A word of the shadow window is taken from a writer that owns the route, with no commit pending (04_waypoints_routes.md
R91, R92). -/
theorem State.writePiece_shadow_status {s : State} {l : LaneId} {w : Writer} {a r : Nat} {st : Bool} {bs : List Byte}
    (harr : arrayOf a = none) (ha : shadowOf a = some (st, r)) (howns : (s.lane l).owns w r = true)
    (hpend : (s.lane l).sched.pend st r = false) : (s.writePiece l w (a, bs)).2 = .ok := by
  simp only [State.writePiece, harr, Lane.writeShadow, ha, howns, hpend, Option.isSome_none, Option.isSome_some, Bool.not_true,
    Bool.false_eq_true, if_false, if_true]

/-- A restart key that a block carries to CLK_RST takes effect. -/
theorem State.writeReg_clkRst (s : State) (l : LaneId) (w : Writer) : (s.writeReg l w Reg.clkRst 0xC3A50000).1 = s.restart l := by
  have hheld : (s.lane l).held l Reg.clkRst = false := by
    simp only [Lane.held, frstOfAddr, show Reg.clkRst / 0x10000 = 0x1011 from by decide]
  have hclk : s.writeClk l Reg.clkRst 0xC3A50000 = s.restart l := by
    rw [State.writeClk, if_neg (by decide), if_pos rfl]
    simp only [State.writeClkRst, show bits (0xC3A50000 : Word) 16 16 = 0xC3A5 from by decide]
  simp only [State.writeReg, hheld, show Reg.clkRst / 0x10000 = 0x1011 from by decide, hclk, Bool.false_eq_true, if_false]

/-! ### A message that runs on to CLK_RST -/

/-- Zeros, one for each byte before CLK_RST, and the restart key (20_clocks_power.md R401). -/
def restartAfter (n : Nat) : List Byte := List.replicate n 0 ++ [0, 0, 0xA5, 0xC3]

theorem restartAfter_length (n : Nat) : (restartAfter n).length = n + 4 :=
  List.length_append.trans (congrArg (· + 4) List.length_replicate)

theorem restartAfter_drop (n : Nat) : (restartAfter n).drop n = [0, 0, 0xA5, 0xC3] := List.drop_left' List.length_replicate

/-- The block begins in the last word of the shadow window. -/
theorem writePieces_lastShadow {bs : List Byte} (fuel : Nat) (hbs : bs ≠ []) :
    writePieces 0x1001F7FC bs (fuel + 1) = (0x1001F7FC, bs.take 4) :: writePieces 0x1001F800 (bs.drop 4) fuel := by
  have hn : (if ((arrayOf 0x1001F7FC).isSome || (shadowOf 0x1001F7FC).isSome) = true then 16 - 0x1001F7FC % 16 else 4) = 4 := by
    decide
  simp only [writePieces, List.isEmpty_iff, hbs, if_false, hn]

/-- A block that runs from that word on to CLK_RST, with the restart key for it, restarts the lane, if its writer owns the
shadow word. -/
theorem State.writeBlock_restarts {s : State} {l : LaneId} {w : Writer} {k : Nat} {bs : List Byte}
    (hk : 0x1001F800 + 4 * k = Reg.clkRst) (hlen : bs.length = 4 * k + 8) (hkey : bs.drop (4 + 4 * k) = [0, 0, 0xA5, 0xC3])
    (howns : (s.lane l).owns w 239 = true) (hpend : (s.lane l).sched.pend true 239 = false) :
    ∃ t : State, (s.writeBlock l w 0x1001F7FC bs).1 = t.restart l := by
  have hstatus : (s.writePiece l w (0x1001F7FC, bs.take 4)).2 = .ok :=
    State.writePiece_shadow_status (by decide) (by decide) howns hpend
  have hfirst : State.nextPiece l w (s, .ok) (0x1001F7FC, bs.take 4)
      = ((s.writePiece l w (0x1001F7FC, bs.take 4)).1, .ok) := by
    rw [State.nextPiece_of_ok, ← hstatus]
  obtain ⟨t, ht⟩ := exists_last_piece l w k (bs := bs.drop 4) (fuel := bs.length)
    (s.writePiece l w (0x1001F7FC, bs.take 4)).1 (Nat.le_refl 0x1001F800) (by rw [hk, Reg.clkRst]; omega)
    (by rw [List.length_drop, hlen]; omega) (by omega)
  have hall : (writePieces 0x1001F7FC bs (bs.length + 1)).foldl (State.nextPiece l w) (s, .ok) = (t.restart l, .ok) := by
    rw [writePieces_lastShadow _ (List.ne_nil_of_length_pos (by omega)), List.foldl_cons, hfirst, ht, hk, List.drop_drop, hkey]
    exact Prod.ext (State.writeReg_clkRst t l w) rfl
  refine ⟨t, ?_⟩
  rw [State.writeBlock_of_ok (by rw [hall]), hall]

/-- The lane that coasts in HOLD, where the command that waits is a FORWARDED_WRITE that begins in the last word of the shadow
window and whose last word is CLK_RST's. -/
def overrunState : State :=
  { coastingState with
    pending := [.forwardedWrite .a]
    laneA := { coastingState.laneA with xwk := { rx := [.fwdWrite 0 0 0x1001F7FC (restartAfter (4 + 4 * 0x3C202))] } } }

theorem overrunState_runs : overrunState.runs .a := by decide +kernel

theorem overrunState_edgeSoon : overrunState.edgeSoon .a = false := by decide +kernel

theorem overrunState_tickDue : (overrunState.lane .a).tickDue = true := by decide +kernel

/-- The shadow word stands for a word of the route RAM, so the message is applied before the micro-tick (R279). -/
theorem overrunState_meets (n : Nat) : (shareWord (arrayBase 1) (arraySize 1) ((overrunState.lane .a).realAddr 0x1001F7FC) n
      && !(overrunState.lane .a).waitsInit 0x1001F7FC n) = true := by
  have hreal : (overrunState.lane .a).realAddr 0x1001F7FC = 0x0400EFFC := by decide +kernel
  have hinit : (overrunState.lane .a).initing = false := by decide +kernel
  have hshare : shareWord (arrayBase 1) (arraySize 1) 0x0400EFFC n = true := by
    have hstart : wordAddr (arrayBase 1) < 0x0400EFFC + n := Nat.lt_add_right n (by decide)
    have hend : wordAddr 0x0400EFFC < arrayBase 1 + arraySize 1 := by decide
    simp only [shareWord, hstart, hend, decide_true, Bool.and_true]
    decide
  rw [hreal, hshare, Lane.waitsInit, hinit]
  rfl

theorem takeMsg_head {α : Type} {f : XMsg → Option α} {m : XMsg} {rx : List XMsg} {x : α} (h : f m = some x) :
    takeMsg f (m :: rx) = some (x, rx) := by
  simp only [takeMsg, List.find?_cons, List.takeWhile_cons, List.eraseP_cons, h, Option.isSome_some, Option.isNone_some,
    Bool.false_eq_true, if_false, List.all_nil, if_true, cond_true, Option.map_some]

theorem overrunState_writesFirst : overrunState.writesFirst .a (arrayBase 1) (arraySize 1)
    = (overrunState.writeBlock .a (.host 0) 0x1001F7FC (restartAfter (4 + 4 * 0x3C202))).1 := by
  have hpending : overrunState.pending = [.forwardedWrite .a] := rfl
  have hrx : (overrunState.lane .a).xwk.rx = [.fwdWrite 0 0 0x1001F7FC (restartAfter (4 + 4 * 0x3C202))] := rfl
  unfold State.writesFirst
  rw [hpending, List.foldl_cons, List.foldl_nil]
  dsimp only
  rw [hrx, takeMsg_head (x := (0, 0x1001F7FC, restartAfter (4 + 4 * 0x3C202)))]
  · dsimp only
    rw [if_pos]
    · rfl
    · rw [overrunState_meets]
      rfl
  · rfl

/-- The Odometer after the MICRO_TICK: the restart has put it back. -/
theorem overrunState_microRow_odo : ((overrunState.microRow .a).lane .a).odo = {} := by
  obtain ⟨t, ht⟩ := State.writeBlock_restarts (s := overrunState) (l := .a) (w := .host 0) (k := 0x3C202) (by decide)
    (restartAfter_length _) (restartAfter_drop _) (by decide +kernel) (by decide +kernel)
  have hrest := State.restart_atRest t .a
  rw [State.microRow_of_no_edge overrunState_edgeSoon, overrunState_writesFirst, ht,
    State.microTick_odo_of_not_due (Lane.tickDue_of_atRest hrest) hrest.2, hrest.1]

theorem overrunState_exec : exec (.microTick .a) overrunState = .next (overrunState.microRow .a).settle :=
  exec_microTick_of_runs overrunState_runs

/-- Refutes O39: a FORWARDED_WRITE that waits in the cycle of the micro-tick, and that runs on from the shadow window to
CLK_RST, restarts the lane first: the synchronisation state does not stay. -/
theorem not_microTicksAdvanceTheAngle : ¬ Obligations.MicroTicksAdvanceTheAngle := by
  unfold Obligations.MicroTicksAdvanceTheAngle
  intro h
  obtain ⟨u, hu, hstate, _⟩ := h overrunState .a overrunState_runs
  obtain rfl := Host.Outcome.next.inj (overrunState_exec.symm.trans hu)
  rw [State.settle_lane_odo, overrunState_microRow_odo] at hstate
  exact absurd hstate (by decide +kernel)

/-- Refutes O40: that restart leaves the angle word at 0, where the micro-tick would take it from 159 to 160. -/
theorem not_angleWordWraps : ¬ Obligations.AngleWordWraps := by
  unfold Obligations.AngleWordWraps
  intro h
  obtain ⟨_, hnext⟩ := h overrunState .a overrunState_runs overrunState_edgeSoon overrunState_tickDue (by decide +kernel)
    (by decide +kernel)
  obtain ⟨u, hu, hword, _⟩ := hnext (by decide +kernel)
  obtain rfl := Host.Outcome.next.inj (overrunState_exec.symm.trans hu)
  rw [State.settle_lane_odo, overrunState_microRow_odo] at hword
  exact absurd hword (by decide +kernel)

end Sys2Proof.Machine

/-! The three statements of 04_waypoints_routes.md. O41 and O42 are refuted, each at one concrete state: a shadow write in the
cold initialisation of the arrays, and a swap decision for the odd member of a pair. O20 holds. Its frames are put together
from the channel frames of the sections above: a channel frame keeps what `hideChan n ∘ hideReports n` does not hide, which
the frame of the die hides too, and the loops over the channels and the gates of a die stay within that frame. -/

namespace Sys2Proof.Machine

/-! ### Array writes during the cold initialisation -/

theorem exec_shadowWrite_of_runs {s : State} {l : LaneId} (h : s.runs l) (w : Writer) (a : BitVec 32) (v : Word)
    (ha : (shadowOf a.toNat).isSome = true) :
    exec (.shadowWrite l w a v) s = .next (s.registerWrite l w a.toNat v).settle :=
  (show _ = execShadowWrite l w a v s from rfl).trans
    ((laneCmd_on l s _ h.1 h.2).trans (by rw [if_pos ha]))

/-- A write that reaches an array during its initialisation joins those that wait (13_memory.md R290). -/
theorem State.registerWrite_of_waitsInit {s : State} {l : LaneId} (w : Writer) {a : Nat} (v : Word) (ha : a % 4 = 0)
    (h : (s.lane l).waitsInit a 4 = true) : s.registerWrite l w a v = s.upd l fun L => L.waitWrite w a (leBytes v.toNat 4) := by
  rw [State.registerWrite, if_neg (not_not_intro ha), if_pos h]

theorem Lane.peekByte_waitWrite (L : Lane) (w : Writer) (a : Nat) (bs : List Byte) (b : Nat) :
    (L.waitWrite w a bs).peekByte b = L.peekByte b := rfl

theorem State.settle_lane_peekByte (s : State) (l : LaneId) (b : Nat) : (s.settle.lane l).peekByte b = (s.lane l).peekByte b :=
  (congrArg (fun L => Lane.peekByte L b) (s.settle_lane_blank l) :)

/-- Such a write reaches no byte. -/
theorem State.peekByte_of_waitsInit {s : State} {l : LaneId} (w : Writer) {a : Nat} (v : Word) (ha : a % 4 = 0)
    (h : (s.lane l).waitsInit a 4 = true) (b : Nat) :
    ((s.registerWrite l w a v).settle.lane l).peekByte b = (s.lane l).peekByte b := by
  rw [State.settle_lane_peekByte, State.registerWrite_of_waitsInit w v ha h, State.lane_upd, Lane.peekByte_waitWrite]

/-- Lane A runs and initialises its arrays, a cold start (14_start_up.md R294 step 3); host port 0 owns every route. -/
def initialisingState : State :=
  { State.reset with
    laneA := ({ run := .running, power := { cold := true } } : Lane).setFld Reg.cfgBoot 28 4 2 }

/-- Refutes O41: a SHADOW_WRITE that arrives while the arrays are initialised waits for the initialisation (R290), so the
shadow bank does not hold the word after the row. -/
theorem not_commitsAndRouteWrites : ¬ Obligations.CommitsAndRouteWrites := by
  unfold Obligations.CommitsAndRouteWrites
  intro h
  have htakes : initialisingState.takesWrite .a Reg.wptCommit := by decide +kernel
  obtain ⟨_, hshadow, _⟩ := h initialisingState .a (.host 0) 0 0 false false 1 0 htakes
  obtain ⟨u, hu, ⟨hbytes, _⟩, _⟩ := hshadow (by decide +kernel) (by decide +kernel)
  obtain rfl := Host.Outcome.next.inj ((exec_shadowWrite_of_runs htakes.1 _ _ 1 (by decide +kernel)).symm.trans hu)
  have hbyte := hbytes 0 (by decide)
  rw [State.peekByte_of_waitsInit _ _ (by decide) (by decide +kernel)] at hbyte
  exact absurd hbyte (by decide +kernel)

/-! ### A swap decision for the odd member of a pair -/

theorem exec_swapDecision_of_runs {s : State} {l : LaneId} (h : s.runs l) :
    exec (.swapDecision l) s = .next (s.swapDecision l).settle :=
  (show _ = execSwapDecision l s from rfl).trans (laneCmd_on l s _ h.1 h.2)

/-- Lane A waits for the swap decision of route 1, whose channel is the odd member of a pair; the decision that has arrived
brings the estimate 5. -/
def awaitingState : State :=
  { State.reset with
    laneA := ({ run := .running, xwk := { rx := [.decision ⟨1, 0, false, false, 5⟩] } } : Lane).setReg (Reg.quadCtrl 0) 2
      |>.routeUpd 1 fun t => { t with phase := .running, decWait := some 0 } }

/-- The estimate of the odd member of a pair shows the junction's estimate, not the decision's (06_armature_landing.md R157). -/
theorem awaitingState_estimate_ne :
    (awaitingState.swapDecision .a).laneA.reg (Reg.lndEst 1) ≠ 5 := by decide +kernel

/-- Refutes O42: the estimate that a SWAP_DECISION carries is not taken at the odd member of a pair, whose estimate register
is not its own (R157). -/
theorem not_schedulerStartsSwapsAndStops : ¬ Obligations.SchedulerStartsSwapsAndStops := by
  unfold Obligations.SchedulerStartsSwapsAndStops
  intro h
  have hruns : awaitingState.runs .a := by decide +kernel
  obtain ⟨_, _, _, hdecision, _⟩ := h awaitingState .a 0 1 0 hruns
  obtain ⟨u, hu, _, hhit⟩ := hdecision ⟨1, 0, false, false, 5⟩ rfl rfl
  obtain rfl := Host.Outcome.next.inj ((exec_swapDecision_of_runs hruns).symm.trans hu)
  obtain ⟨_, _, _, _, _, hest, _⟩ := hhit (by decide +kernel)
  rw [Lane.decisionEst, if_pos (by decide), State.settle_lane_reg] at hest
  exact awaitingState_estimate_ne hest

/-! ### Frames put together -/

theorem State.keeps_trans {s u v : State} {hide : State → State} {as : LaneId → List Nat} (h : s.keeps u hide as)
    (g : u.keeps v hide as) : s.keeps v hide as :=
  ⟨fun l a ha => (g.1 l a ha).trans (h.1 l a ha), g.2.trans h.2⟩

/-- A frame that hides more and lists more registers. -/
theorem State.keeps_weaken {s u : State} {hide more : State → State} {as bs : LaneId → List Nat} (h : s.keeps u hide as)
    (hmore : ∀ x, more (hide x) = more x) (hregs : ∀ l, as l ⊆ bs l) : s.keeps u more bs :=
  ⟨fun l a ha => h.1 l a fun hm => ha (hregs l hm), by rw [← hmore, h.2, hmore]⟩

theorem State.quiet_of_blank {s u : State} (h : u.blank = s.blank) : u.quiet = s.quiet :=
  congrArg (fun t : State => { t with
    laneA := { t.laneA with regs := [], fresh := [] }, laneB := { t.laneB with regs := [], fresh := [] } }) h

theorem State.keeps_settle {s u : State} {hide : State → State} {as : LaneId → List Nat} (h : s.keeps u hide as) :
    s.keeps u.settle hide as :=
  ⟨fun l a ha => (State.settle_lane_reg u l a).trans (h.1 l a ha), by rw [State.quiet_of_blank u.settle_blank, h.2]⟩

/-! ### Loops over a die -/

/-- A loop whose steps at other indices leave a view alone changes it as its own step does. -/
theorem exists_foldl_view {σ β : Type} (g : σ → Nat → σ) (view : σ → β) {i : Nat} (hg : ∀ s j, j ≠ i → view (g s j) = view s)
    {xs : List Nat} (hi : i ∈ xs) (hxs : xs.Nodup) (s : σ) : ∃ t, view t = view s ∧ view (xs.foldl g s) = view (g t i) := by
  have hrest : ∀ (ys : List Nat) (t : σ), i ∉ ys → view (ys.foldl g t) = view t := by
    intro ys
    induction ys with
    | nil => exact fun _ _ => rfl
    | cons y ys ih =>
      intro t hy
      rw [List.foldl_cons, ih _ (List.not_mem_of_not_mem_cons hy), hg t y (Ne.symm (List.ne_of_not_mem_cons hy))]
  obtain ⟨before, after, rfl⟩ := List.append_of_mem hi
  obtain ⟨_, hafter, hdisj⟩ := List.nodup_append.1 hxs
  have hbefore : i ∉ before := fun h => hdisj i h i (List.mem_cons_self ..) rfl
  refine ⟨before.foldl g s, hrest before s hbefore, ?_⟩
  rw [List.foldl_append, List.foldl_cons, hrest after _ (List.nodup_cons.1 hafter).1]

/-- A loop of changes that are within a frame is within it. -/
theorem State.keeps_foldl {hide : State → State} {as : LaneId → List Nat} {g : State → Nat → State} {xs : List Nat}
    (hg : ∀ (s : State), ∀ i ∈ xs, s.keeps (g s i) hide as) (s : State) : s.keeps (xs.foldl g s) hide as :=
  List.foldlRecOn (motive := fun u : State => s.keeps u hide as) xs g ⟨fun _ _ _ => rfl, rfl⟩
    fun u hu i hi => State.keeps_trans hu (hg u i hi)

theorem vmod_vmod {α : Type} {n : Nat} (v : Vector α n) (i : Nat) (f g : α → α) :
    vmod (vmod v i f) i g = vmod v i fun x => g (f x) := by
  unfold vmod
  split <;> simp

theorem vmod_comm {α : Type} {n : Nat} (v : Vector α n) (i j : Nat) (f : α → α) :
    vmod (vmod v i f) j f = vmod (vmod v j f) i f := by
  by_cases hij : i = j
  · rw [hij]
  by_cases hi : i < n
  · by_cases hj : j < n
    · simp only [vmod, hi, hj, dif_pos]
      rw [Vector.getElem_set_ne _ _ hij, Vector.getElem_set_ne _ _ (Ne.symm hij), Vector.set_comm _ _ hij]
    · rw [vmod_out _ _ _ (Nat.le_of_not_lt hj), vmod_out _ _ _ (Nat.le_of_not_lt hj)]
  · rw [vmod_out _ _ _ (Nat.le_of_not_lt hi), vmod_out _ _ _ (Nat.le_of_not_lt hi)]

/-- A loop of changes that commute and are done once or twice alike may follow one of them. -/
theorem foldl_absorb {σ : Type} {g : σ → Nat → σ} (hcomm : ∀ s i j, g (g s i) j = g (g s j) i) (htwice : ∀ s i, g (g s i) i = g s i)
    {i : Nat} {xs : List Nat} (hi : i ∈ xs) (s : σ) : xs.foldl g (g s i) = xs.foldl g s := by
  induction xs generalizing s with
  | nil => cases hi
  | cons x xs ih =>
    rw [List.foldl_cons, List.foldl_cons]
    by_cases hx : i = x
    · rw [hx, htwice]
    · rw [hcomm, ih ((List.mem_cons.1 hi).resolve_left hx)]

/-! ### What the frames of a die hide -/

/-- What the frames of a die's commands hide beside the die: blanking, the link, faults, landing reports, open START_As. -/
def besideDie (l : LaneId) (d : Nat) : State → State := hideBlank ∘ hideLink l d ∘ hideFaults ∘ hideLandings ∘ hideOpens d

/-- What channel n reports, and the blanking, hidden. -/
def hideReports (n : Nat) : State → State := hideBlank ∘ hideFaults ∘ hideLandings ∘ hideInBoth (Lane.noOpen n)

theorem hideBlank_hideBlank (s : State) : hideBlank (hideBlank s) = hideBlank s := by
  simp only [hideBlank, Vector.map_map]
  rfl

theorem hideLink_hideBlank (l : LaneId) (d : Nat) (s : State) : hideLink l d (hideBlank s) = hideBlank (hideLink l d s) := by
  cases l <;> rfl

theorem hideLink_hideLink (l : LaneId) (d : Nat) (s : State) : hideLink l d (hideLink l d s) = hideLink l d s := by
  cases l <;> simp only [hideLink, State.upd, State.setLane, State.lane, State.dieUpd, vmod_vmod]

theorem Lane.noOpen_comm (n m : Nat) (L : Lane) : (L.noOpen n).noOpen m = (L.noOpen m).noOpen n := by
  simp only [Lane.noOpen, Lane.routeUpd, Lane.schedUpd]
  rw [vmod_comm]

theorem Lane.noOpen_noOpen (n : Nat) (L : Lane) : (L.noOpen n).noOpen n = L.noOpen n := by
  simp only [Lane.noOpen, Lane.routeUpd, Lane.schedUpd, vmod_vmod]

theorem hideOpens_noOpen {d n : Nat} (hn : n / 16 = d) (s : State) :
    hideOpens d (hideInBoth (Lane.noOpen n) s) = hideOpens d s := by
  have hk : n = 16 * d + n % 16 := by omega
  rw [hk]
  refine foldl_absorb (g := fun s i => hideInBoth (Lane.noOpen (16 * d + i)) s) (fun s i j => ?_) (fun s i => ?_)
    (List.mem_range.2 (Nat.mod_lt n (by decide))) s
  · simp only [hideInBoth, Lane.noOpen_comm (16 * d + i)]
  · simp only [hideInBoth, Lane.noOpen_noOpen]

/-- What commutes with closing the routes of every channel commutes with closing those of a die. -/
theorem hideOpens_comm (d : Nat) {f : State → State} (hf : ∀ n s, hideInBoth (Lane.noOpen n) (f s) = f (hideInBoth (Lane.noOpen n) s))
    (s : State) : hideOpens d (f s) = f (hideOpens d s) :=
  List.foldl_hom f fun _ _ => hf _ _

theorem hideOpens_hideLink (l : LaneId) (d : Nat) (s : State) : hideOpens d (hideLink l d s) = hideLink l d (hideOpens d s) :=
  hideOpens_comm d (fun _ _ => by cases l <;> rfl) s

theorem besideDie_hideReports (l : LaneId) {d n : Nat} (hn : n / 16 = d) (s : State) :
    besideDie l d (hideReports n s) = besideDie l d s := by
  have hcomm : hideOpens d (hideReports n s) = hideBlank (hideFaults (hideLandings (hideOpens d s))) := by
    rw [← hideOpens_noOpen hn s]
    exact hideOpens_comm d (f := hideBlank ∘ hideFaults ∘ hideLandings) (fun _ _ => rfl) _
  simp only [besideDie, Function.comp_apply, hcomm]
  rw [show ∀ y : State, hideFaults (hideLandings (hideBlank (hideFaults (hideLandings y)))) = hideBlank (hideFaults (hideLandings y))
    from fun _ => rfl, hideLink_hideBlank, hideBlank_hideBlank]

theorem besideDie_hideLink (l : LaneId) (d : Nat) (s : State) : besideDie l d (hideLink l d s) = besideDie l d s := by
  have hcomm : ∀ y : State, hideFaults (hideLandings (hideLink l d y)) = hideLink l d (hideFaults (hideLandings y)) := by
    intro y; cases l <;> rfl
  simp only [besideDie, Function.comp_apply, hideOpens_hideLink, hcomm, hideLink_hideLink]

theorem hideChan_hideBlank (n : Nat) (s : State) : hideChan n (hideBlank s) = hideBlank (hideChan n s) := by
  simp only [hideChan, hideBlank, State.chanUpd]
  congr 1
  unfold vmod
  split
  · rw [Vector.map_set]
  · rfl

theorem besideDie_hideChan (l : LaneId) (d n : Nat) (s : State) : besideDie l d (hideChan n s) = hideChan n (besideDie l d s) := by
  simp only [besideDie, Function.comp_apply, hideChan_hideBlank]
  rw [hideOpens_comm d (f := hideChan n) fun _ _ => rfl]
  generalize hideOpens d s = t
  cases l <;> rfl

theorem besideDie_hideGate (l : LaneId) (d g : Nat) (s : State) : besideDie l d (hideGate g s) = hideGate g (besideDie l d s) := by
  simp only [besideDie, Function.comp_apply]
  rw [hideOpens_comm d (f := hideGate g) fun _ _ => rfl]
  generalize hideOpens d s = t
  cases l <;> rfl

theorem hideChan_hideChan (n : Nat) (s : State) : hideChan n (hideChan n s) = hideChan n s := by
  simp only [hideChan, State.chanUpd, vmod_vmod]

theorem hideDie_hideChan {d n : Nat} (hn : n / 16 = d) (s : State) : hideDie d (hideChan n s) = hideDie d s := by
  have hk : n = 16 * d + n % 16 := by omega
  unfold hideDie
  rw [hk, foldl_absorb (g := fun s i => hideChan (16 * d + i) s) (fun s i j => ?_) (fun s i => hideChan_hideChan _ s)
    (List.mem_range.2 (Nat.mod_lt n (by decide)))]
  simp only [hideChan, State.chanUpd]
  rw [vmod_comm]

theorem hideDie_hideGate {d g : Nat} (hg : g / 4 = d) (s : State) : hideDie d (hideGate g s) = hideDie d s := by
  have hk : g = 4 * d + g % 4 := by omega
  have hcomm : (List.range 16).foldl (fun s i => hideChan (16 * d + i) s) (hideGate g s)
      = hideGate g ((List.range 16).foldl (fun s i => hideChan (16 * d + i) s) s) := List.foldl_hom (hideGate g) fun _ _ => rfl
  unfold hideDie
  dsimp only
  rw [hcomm, hk, foldl_absorb (g := fun s i => hideGate (4 * d + i) s) (fun s i j => ?_) (fun s i => ?_)
    (List.mem_range.2 (Nat.mod_lt g (by decide)))]
  · simp only [hideGate]
    rw [vmod_comm]
  · simp only [hideGate, vmod_vmod]

/-- A change that hides in the reports of a channel of die d, and in that channel, hides in the die. -/
theorem hideDie_besideDie_channel (l : LaneId) {d n : Nat} (hn : n / 16 = d) (s : State) :
    hideDie d (besideDie l d (hideChan n (hideReports n s))) = hideDie d (besideDie l d s) := by
  rw [besideDie_hideChan, hideDie_hideChan hn, besideDie_hideReports l hn]

theorem hideChan_besideDie_channel (l : LaneId) {d n : Nat} (hn : n / 16 = d) (s : State) :
    hideChan n (besideDie l d (hideChan n (hideReports n s))) = hideChan n (besideDie l d s) := by
  rw [besideDie_hideChan, hideChan_hideChan, besideDie_hideReports l hn]

theorem hideDie_besideDie_gate (l : LaneId) {d g : Nat} (hg : g / 4 = d) (s : State) :
    hideDie d (besideDie l d (hideGate g s)) = hideDie d (besideDie l d s) := by
  rw [besideDie_hideGate, hideDie_hideGate hg]

/-! ### Channel frames as frames of a statement -/

/-- A channel with its blanking and taken edges hidden. -/
def Chan.unblanked (c : Chan) : Chan := { c with blankTo := 0, mixSeen := false }

theorem vector_ext_vget {α : Type} {n : Nat} {v w : Vector α n} (d : α) (h : ∀ i, i < n → vget v i d = vget w i d) : v = w := by
  refine Vector.ext fun i hi => ?_
  simpa [vget, Vector.getD, hi] using h i hi

theorem vget_map {α β : Type} {n : Nat} (v : Vector α n) (f : α → β) (i : Nat) (d : α) : vget (v.map f) i (f d) = f (vget v i d) := by
  by_cases hi : i < n <;> simp [vget, Vector.getD, hi]

/-- A channel frame that leaves the charge reports keeps what it does not hide (08_ignition.md R175). -/
theorem State.keeps_of_channelFrame {s u : State} {n : Nat} {as : List Nat} (hn : n < 192) (h : s.channelFrame u n as)
    (hcharge : ∀ l, (u.lane l).chargeQ = (s.lane l).chargeQ) : s.keeps u (hideChan n ∘ hideReports n) (inBoth as) := by
  obtain ⟨hchans, hlanes, hrest⟩ := h
  refine ⟨fun l a ha => (hlanes l).1 a ha, ?_⟩
  have hc : vmod (u.chans.map Chan.unblanked) n (fun _ => {}) = vmod (s.chans.map Chan.unblanked) n (fun _ => {}) := by
    refine vector_ext_vget (Chan.unblanked {}) fun i hi => ?_
    rw [vget_vmod _ _ _ _ _ hn, vget_vmod _ _ _ _ _ hn, vget_map, vget_map]
    by_cases hin : i = n
    · rw [if_pos hin, if_pos hin]
    · rw [if_neg hin, if_neg hin]
      exact hchans i hin
  have hl : ∀ l, ({ (u.lane l).quiet.noOpen n with fltQ := [], fltHeld := [], landingQ := [] } : Lane)
      = { (s.lane l).quiet.noOpen n with fltQ := [], fltHeld := [], landingQ := [] } := by
    intro l
    have hq : ({ (u.lane l).quiet.noOpen n with fltQ := [], fltHeld := [], landingQ := [], chargeQ := (s.lane l).chargeQ } : Lane)
        = { (s.lane l).quiet.noOpen n with fltQ := [], fltHeld := [], landingQ := [] } :=
      congrArg (fun L : Lane => { L with regs := [], fresh := [], fltQ := [], fltHeld := [], landingQ := [] }) (hlanes l).2
    rw [← hq, ← hcharge l]
    rfl
  calc (hideChan n ∘ hideReports n) u.quiet
      = { ({ u.blank with chans := s.chans, laneA := s.blank.laneA, laneB := s.blank.laneB } : State) with
          chans := vmod (u.chans.map Chan.unblanked) n fun _ => {}
          laneA := { (u.lane .a).quiet.noOpen n with fltQ := [], fltHeld := [], landingQ := [] }
          laneB := { (u.lane .b).quiet.noOpen n with fltQ := [], fltHeld := [], landingQ := [] } } := rfl
    _ = (hideChan n ∘ hideReports n) s.quiet := by rw [hrest, hc, hl .a, hl .b]; rfl

/-! ### The lanes in the changes of a channel -/

/-- Both lanes' charge reports are as they were. -/
def State.sameCharge (s u : State) : Prop := ∀ l, (u.lane l).chargeQ = (s.lane l).chargeQ

theorem State.sameCharge_trans {s u v : State} (h : s.sameCharge u) (g : u.sameCharge v) : s.sameCharge v :=
  fun l => (g l).trans (h l)

theorem State.sameCharge_of_lane {s u : State} (h : ∀ l, u.lane l = s.lane l) : s.sameCharge u :=
  fun l => congrArg Lane.chargeQ (h l)

theorem State.both_lane (s : State) (f : Lane → Lane) (l : LaneId) :
    (s.both f).lane l = if (s.lane l).on then f (s.lane l) else s.lane l := by cases l <;> rfl

theorem State.sameCharge_both (s : State) {f : Lane → Lane} (hf : ∀ L, (f L).chargeQ = L.chargeQ) : s.sameCharge (s.both f) := by
  intro l
  rw [State.both_lane]
  split
  · exact hf _
  · rfl

theorem State.sameCharge_chFlag (s : State) (n i : Nat) : s.sameCharge (s.chFlag n i) := s.sameCharge_both fun _ => rfl

theorem State.sameCharge_angleOver (s : State) (n cyc idx : Nat) : s.sameCharge (s.angleOver n cyc idx) :=
  s.sameCharge_both fun L => by split <;> rfl

theorem State.edgesFrom_lane (now s : State) (q t0 t1 : Nat) (l : LaneId) : (now.edgesFrom s q t0 t1).lane l = now.lane l := by
  refine List.foldlRecOn (motive := fun u : State => u.lane l = now.lane l) _ _ rfl fun u hu i _ => ?_
  dsimp only
  split
  · rw [State.chanUpd_lane, hu]
  · exact hu

theorem State.mixPass_lane (s : State) (q : Nat) (l : LaneId) : (s.mixPass q).lane l = s.lane l := by
  refine List.foldlRecOn (motive := fun u : State => u.lane l = s.lane l) _ _ rfl fun u hu i _ => ?_
  split
  · split
    · exact hu
    · rw [State.edgesFrom_lane, State.chanUpd_lane, hu]
  · exact hu

theorem State.switching_lane (s : State) (n : Nat) {f : State → State} (l : LaneId) (hf : ∀ x, (f x).lane l = x.lane l) :
    (s.switching n f).lane l = s.lane l := by
  unfold State.switching
  dsimp only
  rw [State.edgesFrom_lane, hf, State.mixPass_lane]

theorem State.sameCharge_detectSample (s : State) (n i : Nat) : s.sameCharge (s.detectSample n i) := by
  unfold State.detectSample
  split
  · exact fun _ => rfl
  · split
    · exact fun _ => rfl
    · extract_lets clear d
      split
      split
      · exact State.sameCharge_trans (State.sameCharge_of_lane fun l => State.chanUpd_lane _ _ _ l)
          (State.sameCharge_both _ fun _ => rfl)
      · exact State.sameCharge_of_lane fun l => State.chanUpd_lane _ _ _ l

theorem State.sameCharge_endVerdict (s : State) (n : Nat) (e : Event) : s.sameCharge (s.endVerdict n e) := by
  unfold State.endVerdict
  extract_lets v und u
  have hu : s.sameCharge u := by
    refine State.sameCharge_trans (State.sameCharge_of_lane fun l => s.mixPass_lane (n / 4) l) (?_ : v.sameCharge u)
    clear_value v
    simp only [u]
    split
    · split
      · exact fun _ => rfl
      · exact State.sameCharge_detectSample _ _ _
    · exact fun _ => rfl
  split
  · exact State.sameCharge_trans hu (State.sameCharge_both _ fun _ => rfl)
  · exact hu

theorem State.sameCharge_endEvent (s : State) (n : Nat) (fast : Bool) (after : ChanState) :
    s.sameCharge (s.endEvent n fast after) := by
  unfold State.endEvent
  split
  · exact fun _ => rfl
  · rename_i e _
    extract_lets u w0 v w
    have hv : s.sameCharge v := State.sameCharge_trans (State.sameCharge_endVerdict s n e)
      (State.sameCharge_of_lane fun l => State.switching_lane _ _ l fun x => State.chanUpd_lane _ _ _ l)
    clear_value v
    have hw : s.sameCharge w := State.sameCharge_trans hv
      (State.sameCharge_trans (State.sameCharge_chFlag v n 1) (State.sameCharge_angleOver _ _ _ _))
    clear_value w
    split
    · exact hw
    · exact State.sameCharge_trans hw (State.sameCharge_both _ fun _ => rfl)

/-- What the end of an event keeps (R122, R132, R133, R149). -/
theorem State.endEvent_keeps (s : State) {n : Nat} (hn : n < 192) (fast : Bool) (after : ChanState) :
    s.keeps (s.endEvent n fast after) (hideChan n ∘ hideReports n) (inBoth (channelRegs n)) :=
  State.keeps_of_channelFrame hn (s.channelFrame_endEvent n fast after) (s.sameCharge_endEvent n fast after)

/-! ### The channel in the changes of a channel -/

theorem State.chan_chanUpd (s : State) {n : Nat} (hn : n < 192) (f : Chan → Chan) : (s.chanUpd n f).chan n = f (s.chan n) :=
  vget_vmod_self _ _ _ _ hn

/-- A change within the frame of another channel leaves a channel but for its blanking. -/
theorem State.unblanked_of_channelFrame {s u : State} {n m : Nat} {as : List Nat} (h : s.channelFrame u n as) (hm : m ≠ n) :
    (u.chan m).unblanked = (s.chan m).unblanked := h.1 m hm

theorem State.mixPass_unblanked (s : State) (q m : Nat) : ((s.mixPass q).chan m).unblanked = (s.chan m).unblanked :=
  State.unblanked_of_channelFrame (s.channelFrame_mixPass q (m + 1) []) (by omega)

theorem State.edgesFrom_unblanked (now s : State) (q t0 t1 m : Nat) :
    ((now.edgesFrom s q t0 t1).chan m).unblanked = (now.chan m).unblanked :=
  State.unblanked_of_channelFrame (now.channelFrame_edgesFrom s q t0 t1 (m + 1) []) (by omega)

theorem State.now_of_channelFrame {s u : State} {n : Nat} {as : List Nat} (h : s.channelFrame u n as) : u.now = s.now :=
  (congrArg State.now h.2.2 :)

/-- A switched change of a channel: the channel but for its blanking. -/
theorem State.switching_unblanked (s : State) {n : Nat} (hn : n < 192) (f : State → Chan → Chan) :
    ((s.switching n fun t => t.chanUpd n (f t)).chan n).unblanked
      = (f (s.mixPass (n / 4)) ((s.mixPass (n / 4)).chan n)).unblanked := by
  unfold State.switching
  dsimp only
  rw [State.edgesFrom_unblanked, State.chan_chanUpd _ hn]

/-! ### The end of an event at its channel -/

theorem Chan.wait_of_unblanked {b c : Chan} (h : b.unblanked = c.unblanked) : b.wait = c.wait := (congrArg Chan.wait h :)
theorem Chan.ev_of_unblanked {b c : Chan} (h : b.unblanked = c.unblanked) : b.ev = c.ev := (congrArg Chan.ev h :)
theorem Chan.state_of_unblanked {b c : Chan} (h : b.unblanked = c.unblanked) : b.state = c.state := (congrArg Chan.state h :)
theorem Chan.decaying_of_unblanked {b c : Chan} (h : b.unblanked = c.unblanked) : b.decaying = c.decaying :=
  (congrArg Chan.decaying h :)
theorem Chan.decayFast_of_unblanked {b c : Chan} (h : b.unblanked = c.unblanked) : b.decayFast = c.decayFast :=
  (congrArg Chan.decayFast h :)

@[simp] theorem State.both_chan (s : State) (f : Lane → Lane) (n : Nat) : (s.both f).chan n = s.chan n := rfl
@[simp] theorem State.report_chan (s : State) (r : LandingReport) (n : Nat) : (s.report r).chan n = s.chan n := rfl
@[simp] theorem State.chFlag_chan (s : State) (m i n : Nat) : (s.chFlag m i).chan n = s.chan n := rfl
@[simp] theorem State.angleOver_chan (s : State) (m cyc idx n : Nat) : (s.angleOver m cyc idx).chan n = s.chan n := rfl

theorem State.detectSample_wait (s : State) {n : Nat} (hn : n < 192) (i : Nat) :
    ((s.detectSample n i).chan n).wait = (s.chan n).wait := by
  unfold State.detectSample
  split
  · rfl
  · split
    · rfl
    · extract_lets clear d
      split
      split
      · rw [State.report_chan, State.chan_chanUpd _ hn]
      · rw [State.chan_chanUpd _ hn]

theorem State.mixPass_wait (s : State) (q n : Nat) : ((s.mixPass q).chan n).wait = (s.chan n).wait :=
  Chan.wait_of_unblanked (s.mixPass_unblanked q n)

theorem State.endVerdict_wait (s : State) {n : Nat} (hn : n < 192) (e : Event) :
    ((s.endVerdict n e).chan n).wait = (s.chan n).wait := by
  unfold State.endVerdict
  extract_lets v und u
  have hv : (v.chan n).wait = (s.chan n).wait := s.mixPass_wait (n / 4) n
  clear_value v
  have hu : (u.chan n).wait = (s.chan n).wait := by
    simp only [u]
    split
    · split
      · exact hv
      · rw [State.detectSample_wait v hn, hv]
    · exact hv
  split
  · rw [State.report_chan, hu]
  · exact hu

/-- A channel whose event e ends now (R122, R132). -/
def Chan.ended (c : Chan) (e : Event) (now : Nat) (fast : Bool) (after : ChanState) : Chan :=
  { c.addOn e.start now with
    ev := none, state := .decay, decaying := true, prevEnd := some now, decayAt := now
    decayFast := fast || bits (profWord e.prof 0) 24 2 == 0, decayBoost := phBoost (profPhase e.prof e.phase) && !e.starved
    mixT := profMix e.prof, mixSeen := false, afterDecay := after }

/-- The switches as the event e of channel n ends, before its reports. -/
def State.eventOff (s : State) (n : Nat) (e : Event) (fast : Bool) (after : ChanState) : State :=
  (s.endVerdict n e).switching n fun t => t.chanUpd n fun c => c.ended e t.now fast after

/-- The reports of an event's end. -/
def State.eventReports (s : State) (n : Nat) (e : Event) : State :=
  let s := (s.chFlag n 1).angleOver n (s.chan n).cyc (s.chan n).idx
  if e.peaked then s else s.both fun L => L.setFld (Reg.chnPeakt n) 0 16 0xFFFF

theorem State.endEvent_of_some {s : State} {n : Nat} {e : Event} (he : (s.chan n).ev = some e) (fast : Bool) (after : ChanState) :
    s.endEvent n fast after = (s.eventOff n e fast after).eventReports n e := by
  unfold State.endEvent
  rw [he]
  rfl

theorem State.eventReports_chan (s : State) (n m : Nat) (e : Event) : (s.eventReports n e).chan m = s.chan m := by
  unfold State.eventReports
  dsimp only
  split <;> rfl

/-- The channel after the end of its event, but for its blanking. -/
theorem State.endEvent_unblanked {s : State} {n : Nat} (hn : n < 192) {e : Event} (he : (s.chan n).ev = some e) (fast : Bool)
    (after : ChanState) : ∃ c : Chan, c.wait = (s.chan n).wait
      ∧ ((s.endEvent n fast after).chan n).unblanked = (c.ended e s.now fast after).unblanked := by
  have hnow : ((s.endVerdict n e).mixPass (n / 4)).now = s.now :=
    (State.now_of_channelFrame ((s.endVerdict n e).channelFrame_mixPass (n / 4) n [])).trans
      (State.now_of_channelFrame (s.channelFrame_endVerdict n e []))
  refine ⟨((s.endVerdict n e).mixPass (n / 4)).chan n, ?_, ?_⟩
  · rw [State.mixPass_wait, s.endVerdict_wait hn e]
  · rw [State.endEvent_of_some he, State.eventReports_chan, State.eventOff, State.switching_unblanked _ hn, hnow]

theorem Lane.bit_setFld_other (L : Lane) (a b lo w x i : Nat) (h : b ≠ a) : (L.setFld a lo w x).bit b i = L.bit b i := by
  rw [Lane.bit, Lane.reg_setFld, if_neg h, Lane.bit]

theorem State.on_of_channelFrame {s u : State} {n : Nat} {as : List Nat} (h : s.channelFrame u n as) (l : LaneId) :
    (u.lane l).on = (s.lane l).on := (congrArg Lane.on (h.2.1 l).2 :)

/-- A flag raised at a channel shows in every running lane. -/
theorem State.chFlag_bit {s : State} {l : LaneId} (hon : (s.lane l).on = true) (n : Nat) {i : Nat} (hi : i < 32) :
    ((s.chFlag n i).lane l).bit (Reg.chnEvent n) i = true := by
  rw [State.chFlag, State.both_lane, if_pos hon, Lane.bit_event _ _ _ hi]

/-- An event that ends is flagged (R146). -/
theorem State.endEvent_bit {s : State} {n : Nat} {e : Event} (he : (s.chan n).ev = some e) (fast : Bool) (after : ChanState)
    {l : LaneId} (hon : (s.lane l).on = true) : ((s.endEvent n fast after).lane l).bit (Reg.chnEvent n) 1 = true := by
  rw [State.endEvent_of_some he]
  have hw : ((s.eventOff n e fast after).lane l).on = true := by
    rw [State.eventOff, State.switching_lane _ _ l fun x => State.chanUpd_lane _ _ _ l,
      State.on_of_channelFrame (s.channelFrame_endVerdict n e []), hon]
  generalize s.eventOff n e fast after = w at hw ⊢
  have hx : ∀ cyc idx, (((w.chFlag n 1).angleOver n cyc idx).lane l).bit (Reg.chnEvent n) 1 = true := by
    intro cyc idx
    rw [State.angleOver, State.both_lane]
    split
    · split
      · exact State.chFlag_bit hw n (by decide)
      · exact State.chFlag_bit hw n (by decide)
    · exact State.chFlag_bit hw n (by decide)
  unfold State.eventReports
  dsimp only
  split
  · exact hx _ _
  · rw [State.both_lane]
    split
    · rw [Lane.bit_setFld_other _ _ _ _ _ _ _ (by simp only [Reg.chnEvent, Reg.chnPeakt]; omega)]
      exact hx _ _
    · exact hx _ _

/-! ### Waiting starts and cuts -/

theorem State.cancelWait_chan (s : State) {n : Nat} (hn : n < 192) :
    ((s.cancelWait n).chan n).wait = none ∧ ((s.cancelWait n).chan n).ev = (s.chan n).ev
      ∧ ((s.cancelWait n).chan n).decaying = (s.chan n).decaying := by
  unfold State.cancelWait
  split
  · rename_i hw
    exact ⟨hw, rfl, rfl⟩
  · rename_i w _
    have hchan : ∀ (t : State), ((t.chLast n 12 none).startGone n w.cmd).chan n = t.chan n := by
      intro t
      unfold State.startGone
      split <;> rfl
    rw [hchan, State.chan_chanUpd _ hn, Chan.unwait]
    split <;> exact ⟨rfl, rfl, rfl⟩

theorem State.channelFrame_cancelWait (s : State) (n : Nat) : s.channelFrame (s.cancelWait n) n (channelRegs n) := by
  unfold State.cancelWait
  split
  · exact State.channelFrame_refl _ _ _
  · exact State.channelFrame_trans (State.channelFrame_trans (s.channelFrame_chanUpd n _ _)
      (State.channelFrame_chLast _ n 12 none _ (by simp [channelRegs]) (by simp [channelRegs]))) (State.channelFrame_startGone _ _ _ _)

theorem State.sameCharge_chLast (s : State) (n cause : Nat) (d : Option Nat) : s.sameCharge (s.chLast n cause d) :=
  s.sameCharge_both fun _ => by cases d <;> rfl

theorem State.sameCharge_startGone (s : State) (n : Nat) (c : DrvCmd) : s.sameCharge (s.startGone n c) := by
  unfold State.startGone
  split
  · exact State.sameCharge_angleOver _ _ _ _
  · exact fun _ => rfl

theorem State.sameCharge_cancelWait (s : State) (n : Nat) : s.sameCharge (s.cancelWait n) := by
  unfold State.cancelWait
  split
  · exact fun _ => rfl
  · exact State.sameCharge_trans (State.sameCharge_trans (State.sameCharge_of_lane fun l => State.chanUpd_lane s n _ l)
      (State.sameCharge_chLast _ _ _ _)) (State.sameCharge_startGone _ _ _)

theorem State.channelFrame_abortEvent (s : State) (n : Nat) (after : ChanState) :
    s.channelFrame (s.abortEvent n after) n (channelRegs n) := by
  unfold State.abortEvent
  split
  · exact State.channelFrame_trans (s.channelFrame_endEvent n true after) (State.channelFrame_chFlag _ n 2 _ (by simp [channelRegs]))
  · exact State.channelFrame_refl _ _ _

theorem State.sameCharge_abortEvent (s : State) (n : Nat) (after : ChanState) : s.sameCharge (s.abortEvent n after) := by
  unfold State.abortEvent
  split
  · exact State.sameCharge_trans (s.sameCharge_endEvent n true after) (State.sameCharge_chFlag _ _ _)
  · exact fun _ => rfl

/-- An event that is cut: fast decay, ABORT flagged (R140). -/
theorem State.abortEvent_of_some {s : State} {n : Nat} (hn : n < 192) {e : Event} (he : (s.chan n).ev = some e) (after : ChanState) :
    (∃ c : Chan, c.wait = (s.chan n).wait
        ∧ ((s.abortEvent n after).chan n).unblanked = (c.ended e s.now true after).unblanked)
      ∧ s.flagged (s.abortEvent n after) (Reg.chnEvent n) 2 := by
  have hcut : s.abortEvent n after = (s.endEvent n true after).chFlag n 2 := by
    rw [State.abortEvent, he]; rfl
  rw [hcut]
  refine ⟨State.endEvent_unblanked hn he true after, fun l hon => State.chFlag_bit ?_ n (by decide)⟩
  rw [State.on_of_channelFrame (s.channelFrame_endEvent n true after), hon]

theorem State.abortEvent_of_none {s : State} {n : Nat} (he : (s.chan n).ev = none) (after : ChanState) :
    s.abortEvent n after = s := by
  rw [State.abortEvent, he]; rfl

/-! ### STOP and HALT at the channels of a die -/

/-- STOP at one channel (R141). -/
def State.stopChan (s : State) (n : Nat) : State :=
  let s := s.cancelWait n
  match (s.chan n).ev with
  | some e => if e.angle then s.abortEvent n .idle else s
  | none => s

/-- HALT at one channel (R141). -/
def State.haltChan (s : State) (n : Nat) : State :=
  ((s.cancelWait n).abortEvent n .idle).switching n fun s => s.chanUpd n fun c =>
    if c.decaying then { c with decayFast := true } else c

theorem State.stopChans_eq (s : State) (d : Nat) : s.stopChans d = (List.range 16).foldl (fun s i => s.stopChan (16 * d + i)) s := rfl

theorem State.haltChans_eq (s : State) (d : Nat) : s.haltChans d = (List.range 16).foldl (fun s i => s.haltChan (16 * d + i)) s := rfl

theorem State.channelFrame_stopChan (s : State) (n : Nat) : s.channelFrame (s.stopChan n) n (channelRegs n) := by
  unfold State.stopChan
  dsimp only
  split
  · split
    · exact State.channelFrame_trans (s.channelFrame_cancelWait n) (State.channelFrame_abortEvent _ n .idle)
    · exact s.channelFrame_cancelWait n
  · exact s.channelFrame_cancelWait n

theorem State.sameCharge_stopChan (s : State) (n : Nat) : s.sameCharge (s.stopChan n) := by
  unfold State.stopChan
  dsimp only
  split
  · split
    · exact State.sameCharge_trans (s.sameCharge_cancelWait n) (State.sameCharge_abortEvent _ n .idle)
    · exact s.sameCharge_cancelWait n
  · exact s.sameCharge_cancelWait n

theorem State.channelFrame_haltChan (s : State) (n : Nat) : s.channelFrame (s.haltChan n) n (channelRegs n) :=
  State.channelFrame_trans (State.channelFrame_trans (s.channelFrame_cancelWait n) (State.channelFrame_abortEvent _ n .idle))
    (State.channelFrame_switching _ n n _ _ fun x => x.channelFrame_chanUpd n _ _)

theorem State.sameCharge_haltChan (s : State) (n : Nat) : s.sameCharge (s.haltChan n) :=
  State.sameCharge_trans (State.sameCharge_trans (s.sameCharge_cancelWait n) (State.sameCharge_abortEvent _ n .idle))
    (State.sameCharge_of_lane fun l => State.switching_lane _ n l fun x => State.chanUpd_lane x n _ l)

/-- STOP cancels the waiting start and cuts an angle-ended event alone (R141). -/
theorem State.stopChan_chan (s : State) {n : Nat} (hn : n < 192) :
    ((s.stopChan n).chan n).wait = none
      ∧ ∀ v, (s.chan n).ev = some v →
        (v.angle = true → ((s.stopChan n).chan n).ev = none ∧ ((s.stopChan n).chan n).state = .decay
          ∧ ((s.stopChan n).chan n).decayFast = true ∧ s.flagged (s.stopChan n) (Reg.chnEvent n) 2)
        ∧ (v.angle = false → ((s.stopChan n).chan n).ev = some v) := by
  obtain ⟨hwait, hev, -⟩ := s.cancelWait_chan hn
  have hon := State.on_of_channelFrame (s.channelFrame_cancelWait n)
  unfold State.stopChan
  dsimp only
  generalize s.cancelWait n = t at hwait hev hon ⊢
  split
  · rename_i e he
    split
    · rename_i hangle
      obtain ⟨⟨c, hc, hu⟩, hflag⟩ := State.abortEvent_of_some hn he .idle
      refine ⟨(Chan.wait_of_unblanked hu).trans (hc.trans hwait), fun v hv => ?_⟩
      obtain rfl : e = v := Option.some.inj (he.symm.trans (hev.trans hv))
      exact ⟨fun _ => ⟨Chan.ev_of_unblanked hu, Chan.state_of_unblanked hu, Chan.decayFast_of_unblanked hu,
        fun l hl => hflag l ((hon l).trans hl)⟩, fun h => absurd (hangle.symm.trans h) (by decide)⟩
    · rename_i hangle
      refine ⟨hwait, fun v hv => ?_⟩
      obtain rfl : e = v := Option.some.inj (he.symm.trans (hev.trans hv))
      exact ⟨fun h => absurd h hangle, fun _ => he⟩
  · rename_i he
    exact ⟨hwait, fun v hv => absurd (he.symm.trans (hev.trans hv)) (by simp)⟩

/-- HALT cancels the waiting start, cuts every event and makes every decay fast (R141). -/
theorem State.haltChan_chan (s : State) {n : Nat} (hn : n < 192) :
    ((s.haltChan n).chan n).wait = none ∧ ((s.haltChan n).chan n).ev = none
      ∧ ((s.chan n).ev.isSome = true → ((s.haltChan n).chan n).state = .decay)
      ∧ ((s.chan n).ev.isSome = true ∨ (s.chan n).decaying = true →
          ((s.haltChan n).chan n).decaying = true ∧ ((s.haltChan n).chan n).decayFast = true) := by
  obtain ⟨hwait, hev, hdec⟩ := s.cancelWait_chan hn
  have hcut : (((s.cancelWait n).abortEvent n .idle).chan n).wait = none
      ∧ (((s.cancelWait n).abortEvent n .idle).chan n).ev = none
      ∧ ((s.chan n).ev.isSome = true → (((s.cancelWait n).abortEvent n .idle).chan n).state = .decay)
      ∧ ((s.chan n).ev.isSome = true ∨ (s.chan n).decaying = true →
          (((s.cancelWait n).abortEvent n .idle).chan n).decaying = true) := by
    generalize s.cancelWait n = t at hwait hev hdec ⊢
    rw [← hev, ← hdec]
    cases he : (t.chan n).ev with
    | none =>
      rw [State.abortEvent_of_none he]
      exact ⟨hwait, he, fun h => absurd h (by simp), fun h => h.resolve_left (by simp)⟩
    | some e =>
      obtain ⟨⟨c, hc, hu⟩, -⟩ := State.abortEvent_of_some hn he .idle
      exact ⟨(Chan.wait_of_unblanked hu).trans (hc.trans hwait), Chan.ev_of_unblanked hu, fun _ => Chan.state_of_unblanked hu,
        fun _ => Chan.decaying_of_unblanked hu⟩
  obtain ⟨cwait, cev, cstate, cdec⟩ := hcut
  have hu := ((s.cancelWait n).abortEvent n .idle).switching_unblanked hn fun _ c =>
    if c.decaying then { c with decayFast := true } else c
  have hm := ((s.cancelWait n).abortEvent n .idle).mixPass_unblanked (n / 4) n
  change ((s.haltChan n).chan n).unblanked = _ at hu
  generalize (((s.cancelWait n).abortEvent n .idle).mixPass (n / 4)).chan n = c at hu hm
  rw [← Chan.wait_of_unblanked hm] at cwait
  rw [← Chan.ev_of_unblanked hm] at cev
  rw [← Chan.state_of_unblanked hm] at cstate
  rw [← Chan.decaying_of_unblanked hm] at cdec
  rw [Chan.wait_of_unblanked hu, Chan.ev_of_unblanked hu, Chan.state_of_unblanked hu, Chan.decaying_of_unblanked hu,
    Chan.decayFast_of_unblanked hu]
  split
  · rename_i hd
    exact ⟨cwait, cev, cstate, fun _ => ⟨hd, rfl⟩⟩
  · rename_i hd
    exact ⟨cwait, cev, cstate, fun h => absurd (cdec h) hd⟩

/-! ### The channels one after another -/

/-- What the changes of other channels leave of channel n: all but its blanking, its event register, and which lanes run. -/
def State.channelView (n : Nat) (s : State) : Chan × (LaneId → Word) × (LaneId → Bool) :=
  ((s.chan n).unblanked, fun l => (s.lane l).reg (Reg.chnEvent n), fun l => (s.lane l).on)

theorem chnEvent_not_mem_channelRegs {n m : Nat} (hn : n < 192) (h : m ≠ n) : Reg.chnEvent n ∉ channelRegs m := by
  intro hmem
  simp only [channelRegs, Reg.chnEvent, Reg.chnLast, Reg.chnCnt, Reg.chnPeakt, Reg.fltLost, List.mem_cons, List.not_mem_nil,
    or_false] at hmem
  omega

theorem State.channelView_of_other {s u : State} {n m : Nat} (hn : n < 192) (hm : m ≠ n) (h : s.channelFrame u m (channelRegs m)) :
    u.channelView n = s.channelView n := by
  have hreg : (fun l => (u.lane l).reg (Reg.chnEvent n)) = fun l => (s.lane l).reg (Reg.chnEvent n) :=
    funext fun l => (h.2.1 l).1 _ (chnEvent_not_mem_channelRegs hn hm)
  have hon : (fun l => (u.lane l).on) = fun l => (s.lane l).on := funext (State.on_of_channelFrame h)
  rw [State.channelView, State.channelView, State.unblanked_of_channelFrame h (Ne.symm hm), hreg, hon]

/-- A loop over the channels of a die, seen at one of them: that channel's own step. -/
theorem State.exists_channel_step {g : State → Nat → State} (hg : ∀ (s : State) n, s.channelFrame (g s n) n (channelRegs n)) (s : State)
    {d : Nat} (hd : d < 12) (i : Fin 16) :
    ∃ t : State, t.channelView (16 * d + i) = s.channelView (16 * d + i)
      ∧ ((List.range 16).foldl (fun s i => g s (16 * d + i)) s).channelView (16 * d + i)
        = (g t (16 * d + i)).channelView (16 * d + i) :=
  exists_foldl_view (fun s i => g s (16 * d + i)) (State.channelView (16 * d + i))
    (fun s j hj => State.channelView_of_other (by omega) (by omega) (hg s (16 * d + j))) (List.mem_range.2 i.isLt)
    List.nodup_range s

theorem State.stopChans_chan (s : State) {d : Nat} (hd : d < 12) (i : Fin 16) :
    ((s.stopChans d).chan (16 * d + i)).wait = none
      ∧ ∀ v, (s.chan (16 * d + i)).ev = some v →
        (v.angle = true → ((s.stopChans d).chan (16 * d + i)).ev = none ∧ ((s.stopChans d).chan (16 * d + i)).state = .decay
          ∧ ((s.stopChans d).chan (16 * d + i)).decayFast = true ∧ s.flagged (s.stopChans d) (Reg.chnEvent (16 * d + i)) 2)
        ∧ (v.angle = false → ((s.stopChans d).chan (16 * d + i)).ev = some v) := by
  obtain ⟨t, ht, hu⟩ := State.exists_channel_step State.channelFrame_stopChan s hd i
  rw [← State.stopChans_eq] at hu
  obtain ⟨htc, -, hton⟩ := Prod.mk.inj ht |>.imp id Prod.mk.inj
  obtain ⟨huc, hureg, -⟩ := Prod.mk.inj hu |>.imp id Prod.mk.inj
  obtain ⟨hwait, hcut⟩ := t.stopChan_chan (n := 16 * d + i) (by omega)
  rw [Chan.wait_of_unblanked huc, Chan.ev_of_unblanked huc, Chan.state_of_unblanked huc, Chan.decayFast_of_unblanked huc]
  refine ⟨hwait, fun v hv => ?_⟩
  obtain ⟨hangle, htime⟩ := hcut v ((Chan.ev_of_unblanked htc).trans hv)
  refine ⟨fun h => ?_, htime⟩
  obtain ⟨hev, hstate, hfast, hflag⟩ := hangle h
  refine ⟨hev, hstate, hfast, fun l hl => ?_⟩
  rw [Lane.bit, congrFun hureg l]
  exact hflag l ((congrFun hton l).trans hl)

theorem State.haltChans_chan (s : State) {d : Nat} (hd : d < 12) (i : Fin 16) :
    ((s.haltChans d).chan (16 * d + i)).wait = none ∧ ((s.haltChans d).chan (16 * d + i)).ev = none
      ∧ ((s.chan (16 * d + i)).ev.isSome = true → ((s.haltChans d).chan (16 * d + i)).state = .decay)
      ∧ ((s.chan (16 * d + i)).ev.isSome = true ∨ (s.chan (16 * d + i)).decaying = true →
          ((s.haltChans d).chan (16 * d + i)).decaying = true ∧ ((s.haltChans d).chan (16 * d + i)).decayFast = true) := by
  obtain ⟨t, ht, hu⟩ := State.exists_channel_step State.channelFrame_haltChan s hd i
  rw [← State.haltChans_eq] at hu
  have htc := (Prod.mk.inj ht).1
  have huc := (Prod.mk.inj hu).1
  rw [Chan.wait_of_unblanked huc, Chan.ev_of_unblanked huc, Chan.state_of_unblanked huc, Chan.decaying_of_unblanked huc,
    Chan.decayFast_of_unblanked huc, ← Chan.ev_of_unblanked htc, ← Chan.decaying_of_unblanked htc]
  exact t.haltChan_chan (by omega)

/-! ### What the die's commands keep -/

/-- The registers of every channel of die d are among the die's. -/
theorem channelRegs_subset_dieRegs {d n : Nat} (hn : n / 16 = d) : channelRegs n ⊆ dieRegs d := by
  intro a ha
  have hk : n = 16 * d + n % 16 := by omega
  exact List.mem_append_left _ (List.mem_flatMap.2 ⟨n % 16, List.mem_range.2 (Nat.mod_lt n (by decide)), hk ▸ ha⟩)

theorem gateRegs_subset_dieRegs {d g : Nat} (hg : g / 4 = d) : [Reg.ignEvent g, Reg.ignCnt g] ⊆ dieRegs d := by
  intro a ha
  have hk : g = 4 * d + g % 4 := by omega
  exact List.mem_append_right _ (List.mem_flatMap.2 ⟨g % 4, List.mem_range.2 (Nat.mod_lt g (by decide)), hk ▸ ha⟩)

/-- A loop of steps, each within the frame of its channel, keeps what the die's frame does not hide. -/
theorem State.channelLoop_keeps {g : State → Nat → State} (hg : ∀ (s : State) n, s.channelFrame (g s n) n (channelRegs n))
    (hc : ∀ (s : State) n, s.sameCharge (g s n)) (s : State) (l : LaneId) {d : Nat} (hd : d < 12) :
    s.keeps ((List.range 16).foldl (fun s i => g s (16 * d + i)) s) (hideDie d ∘ besideDie l d) (inBoth (dieRegs d)) := by
  refine State.keeps_foldl (fun s i hi => ?_) s
  have hi := List.mem_range.1 hi
  exact State.keeps_weaken (State.keeps_of_channelFrame (by omega) (hg s (16 * d + i)) (hc s (16 * d + i)))
    (hideDie_besideDie_channel l (by omega)) fun _ => channelRegs_subset_dieRegs (by omega)

/-! ### STOP and HALT at the gates of a die -/

theorem State.keeps_gateUpd (s : State) (g : Nat) (f : Gate → Gate) (as : LaneId → List Nat) :
    s.keeps (s.gateUpd g f) (hideGate g) as := by
  refine ⟨fun l a _ => by rw [State.gateUpd_lane], ?_⟩
  have hgates : ∀ t : State, hideGate g (t.gateUpd g f) = hideGate g t := fun t => by
    simp only [hideGate, State.gateUpd, vmod_vmod]
  exact hgates s.quiet

/-- A report in one register that nothing else shows. -/
theorem State.keeps_both (s : State) {f : Lane → Lane} {a : Nat} (hquiet : ∀ L, (f L).quiet = L.quiet)
    (hreg : ∀ L b, b ≠ a → (f L).reg b = L.reg b) {as : List Nat} (ha : a ∈ as) (hide : State → State) :
    s.keeps (s.both f) hide (inBoth as) := by
  refine ⟨fun l b hb => ?_, ?_⟩
  · rw [State.both_lane]
    split
    · exact hreg _ b fun h => hb (h ▸ ha)
    · rfl
  · have hl : ∀ L : Lane, (if L.on then f L else L).quiet = L.quiet := by
      intro L
      split
      · exact hquiet L
      · rfl
    have hq : (s.both f).quiet = s.quiet := calc
      (s.both f).quiet = { s.blank with
          laneA := Lane.quiet (if s.laneA.on then f s.laneA else s.laneA)
          laneB := Lane.quiet (if s.laneB.on then f s.laneB else s.laneB) } := rfl
      _ = s.quiet := by rw [hl, hl]; rfl
    rw [hq]

theorem State.softAbort_keeps (s : State) (g : Nat) (after : GateState) :
    s.keeps (s.softAbort g after) (hideGate g) (inBoth [Reg.ignEvent g, Reg.ignCnt g]) := by
  have hflag : ∀ t : State, t.keeps (t.gFlag g 4) (hideGate g) (inBoth [Reg.ignEvent g, Reg.ignCnt g]) := fun t =>
    State.keeps_both t (f := fun L => L.event (Reg.ignEvent g) 4) (a := Reg.ignEvent g) (fun _ => rfl)
      (fun L b hb => by rw [Lane.reg_event, if_neg hb]) (List.mem_cons_self ..) _
  have hcount : ∀ t : State, t.keeps (t.both fun L => L.count (Reg.ignCnt g) 0 16) (hideGate g)
      (inBoth [Reg.ignEvent g, Reg.ignCnt g]) := fun t =>
    State.keeps_both t (f := fun L => L.count (Reg.ignCnt g) 0 16) (a := Reg.ignCnt g) (fun _ => rfl)
      (fun L b hb => by rw [Lane.reg_count, if_neg hb]) (List.mem_cons_of_mem _ (List.mem_cons_self ..)) _
  exact State.keeps_trans (State.keeps_trans (s.keeps_gateUpd g _ _) (hflag _)) (hcount _)

theorem State.quietGate_keeps (s : State) (g : Nat) (stopHalt : Bool) (after : GateState) :
    s.keeps (s.quietGate g stopHalt after) (hideGate g) (inBoth [Reg.ignEvent g, Reg.ignCnt g]) := by
  unfold State.quietGate
  dsimp only
  split
  · exact s.softAbort_keeps g after
  · split
    · exact s.softAbort_keeps g after
    · exact s.keeps_gateUpd g _ _
  · exact s.keeps_gateUpd g _ _
  · exact ⟨fun _ _ _ => rfl, rfl⟩

theorem State.quietGates_keeps (s : State) (l : LaneId) (d : Nat) (stopHalt : Bool) (after : GateState) :
    s.keeps (s.quietGates d stopHalt after) (hideDie d ∘ besideDie l d) (inBoth (dieRegs d)) := by
  refine State.keeps_foldl (fun s i hi => ?_) s
  have hi := List.mem_range.1 hi
  exact State.keeps_weaken (s.quietGate_keeps (4 * d + i) stopHalt after) (hideDie_besideDie_gate l (by omega))
    fun _ => gateRegs_subset_dieRegs (by omega)

theorem State.gate_gateUpd_other (s : State) {g m : Nat} (h : m ≠ g) (f : Gate → Gate) : (s.gateUpd g f).gate m = s.gate m := by
  by_cases hg : g < 48
  · simp only [State.gate, State.gateUpd, vget_vmod _ _ _ _ _ hg, if_neg h]
  · simp only [State.gate, State.gateUpd, vmod_out _ _ _ (Nat.le_of_not_lt hg)]

theorem State.gate_gateUpd (s : State) {g : Nat} (hg : g < 48) (f : Gate → Gate) :
    (s.gateUpd g f).gate g = (s.gate g).becomes (f (s.gate g)) s.now := vget_vmod_self _ _ _ _ hg

@[simp] theorem State.both_gate (s : State) (f : Lane → Lane) (g : Nat) : (s.both f).gate g = s.gate g := rfl

theorem State.softAbort_gate_other (s : State) {g m : Nat} (h : m ≠ g) (after : GateState) :
    (s.softAbort g after).gate m = s.gate m := by
  unfold State.softAbort State.gFlag
  dsimp only
  rw [State.both_gate, State.both_gate, State.gate_gateUpd_other _ h]

theorem State.quietGate_gate_other (s : State) {g m : Nat} (h : m ≠ g) (stopHalt : Bool) (after : GateState) :
    (s.quietGate g stopHalt after).gate m = s.gate m := by
  unfold State.quietGate
  dsimp only
  split
  · exact s.softAbort_gate_other h after
  · split
    · exact s.softAbort_gate_other h after
    · exact s.gate_gateUpd_other h _
  · exact s.gate_gateUpd_other h _
  · rfl

/-- A dwelling gate is soft-aborted (08_ignition.md R180). -/
theorem State.quietGate_of_dwell {s : State} {g : Nat} (hg : g < 48) (h : (s.gate g).state = .dwell) (stopHalt : Bool)
    (after : GateState) : ((s.quietGate g stopHalt after).gate g).state = .soft
      ∧ ((s.quietGate g stopHalt after).gate g).afterSoft = after := by
  have hsoft : s.quietGate g stopHalt after = s.softAbort g after := by
    unfold State.quietGate
    dsimp only
    rw [h]
  rw [hsoft]
  unfold State.softAbort State.gFlag
  dsimp only
  rw [State.both_gate, State.both_gate, State.gate_gateUpd _ hg]
  exact ⟨rfl, rfl⟩

theorem State.quietGates_gate (s : State) {d : Nat} (hd : d < 12) (stopHalt : Bool) (after : GateState) (j : Fin 4)
    (h : (s.gate (4 * d + j)).state = .dwell) :
    ((s.quietGates d stopHalt after).gate (4 * d + j)).state = .soft
      ∧ ((s.quietGates d stopHalt after).gate (4 * d + j)).afterSoft = after := by
  obtain ⟨t, ht, hu⟩ := exists_foldl_view (fun (s : State) i => s.quietGate (4 * d + i) stopHalt after)
    (fun s : State => s.gate (4 * d + j)) (fun s i hi => s.quietGate_gate_other (by omega) stopHalt after)
    (List.mem_range.2 j.isLt) List.nodup_range s
  change (s.quietGates d stopHalt after).gate (4 * d + j) = _ at hu
  rw [hu]
  exact State.quietGate_of_dwell (by omega) (by rw [ht, h]) stopHalt after

theorem State.softAbort_chan (s : State) (g : Nat) (after : GateState) (n : Nat) : (s.softAbort g after).chan n = s.chan n := rfl

theorem State.quietGates_chan (s : State) (d : Nat) (stopHalt : Bool) (after : GateState) (n : Nat) :
    (s.quietGates d stopHalt after).chan n = s.chan n := by
  refine List.foldlRecOn (motive := fun u : State => u.chan n = s.chan n) _ _ rfl fun u hu i _ => Eq.trans ?_ hu
  unfold State.quietGate
  dsimp only
  split
  · exact u.softAbort_chan _ after n
  · split
    · exact u.softAbort_chan _ after n
    · rfl
  · rfl
  · rfl

theorem chnEvent_not_mem_gateRegs (n g : Nat) : Reg.chnEvent n ∉ [Reg.ignEvent g, Reg.ignCnt g] := by
  intro hmem
  simp only [Reg.chnEvent, Reg.ignEvent, Reg.ignCnt, List.mem_cons, List.not_mem_nil, or_false] at hmem
  omega

theorem State.quietGates_chnEvent (s : State) (d : Nat) (stopHalt : Bool) (after : GateState) (n : Nat) (l : LaneId) :
    ((s.quietGates d stopHalt after).lane l).reg (Reg.chnEvent n) = (s.lane l).reg (Reg.chnEvent n) :=
  List.foldlRecOn (motive := fun u : State => (u.lane l).reg (Reg.chnEvent n) = (s.lane l).reg (Reg.chnEvent n)) _ _ rfl
    fun u hu _ _ => ((u.quietGate_keeps _ stopHalt after).1 l _ (chnEvent_not_mem_gateRegs n _)).trans hu

theorem State.gate_of_channelFrame {s u : State} {n : Nat} {as : List Nat} (h : s.channelFrame u n as) (g : Nat) :
    u.gate g = s.gate g :=
  (congrArg (fun t : State => t.gate g) h.2.2 :)

theorem State.channelLoop_gate {f : State → Nat → State} (hf : ∀ (s : State) n, s.channelFrame (f s n) n (channelRegs n)) (s : State)
    (d g : Nat) : ((List.range 16).foldl (fun s i => f s (16 * d + i)) s).gate g = s.gate g :=
  List.foldlRecOn (motive := fun u : State => u.gate g = s.gate g) _ _ rfl
    fun u hu i _ => (State.gate_of_channelFrame (hf u (16 * d + i)) g).trans hu

/-! ### Commands that arrive at a die -/

/-- The front command has left the link (R105). -/
def State.popLink (s : State) (l : LaneId) (d : Nat) : State :=
  s.upd l fun L => L.schedUpd fun c => { c with links := vmod c.links d fun _ => (vget (s.lane l).sched.links d []).tail }

@[simp] theorem State.popLink_now (s : State) (l : LaneId) (d : Nat) : (s.popLink l d).now = s.now := State.upd_now s l _
@[simp] theorem State.popLink_dies (s : State) (l : LaneId) (d : Nat) : (s.popLink l d).dies = s.dies := State.upd_dies s l _
@[simp] theorem State.popLink_vsupLow (s : State) (l : LaneId) (d : Nat) : (s.popLink l d).vsupLow = s.vsupLow :=
  State.upd_vsupLow s l _
@[simp] theorem State.popLink_chan (s : State) (l : LaneId) (d n : Nat) : (s.popLink l d).chan n = s.chan n := by cases l <;> rfl
@[simp] theorem State.popLink_gate (s : State) (l : LaneId) (d g : Nat) : (s.popLink l d).gate g = s.gate g := by cases l <;> rfl
@[simp] theorem State.popLink_oddMember (s : State) (l : LaneId) (d n : Nat) : (s.popLink l d).oddMember n = s.oddMember n := by
  cases l <;> rfl
@[simp] theorem State.popLink_lane_on (s : State) (l m : LaneId) (d : Nat) : ((s.popLink l d).lane m).on = (s.lane m).on := by
  cases l <;> cases m <;> rfl

theorem State.popLink_partner (s : State) (l : LaneId) (d : Nat) (c : DrvCmd) :
    (s.popLink l d).partner d l c = s.partner d l c := by cases l <;> rfl

theorem State.popLink_keeps (s : State) (l : LaneId) (d : Nat) (as : LaneId → List Nat) : s.keeps (s.popLink l d) (hideLink l d) as := by
  refine ⟨fun m a _ => by cases l <;> cases m <;> rfl, ?_⟩
  have hlinks : ∀ (t : State) (q : List LinkEntry),
      hideLink l d (t.upd l fun L => L.schedUpd fun c => { c with links := vmod c.links d fun _ => q }) = hideLink l d t := by
    intro t q
    cases l <;> simp only [hideLink, State.upd, State.setLane, State.lane, Lane.schedUpd, vmod_vmod]
  refine Eq.trans (congrArg (hideLink l d) ?_) (hlinks s.quiet (vget (s.lane l).sched.links d []).tail)
  cases l <;> rfl

theorem State.popLink_links (s : State) (l : LaneId) {d : Nat} (hd : d < 12) :
    vget ((s.popLink l d).lane l).sched.links d [] = (vget (s.lane l).sched.links d []).tail := by
  rw [State.popLink, State.lane_upd]
  exact vget_vmod_self _ _ _ _ hd

theorem State.keep_keeps (s : State) (l : LaneId) (d : Nat) (x : Stored) (as : LaneId → List Nat) :
    s.keeps (s.keep d x) (hideLink l d) as := by
  refine ⟨fun m a _ => by rw [State.keep, State.dieUpd_lane], ?_⟩
  have hstore : ∀ t : State, hideLink l d (t.keep d x) = hideLink l d t := fun t => by
    cases l <;> simp only [hideLink, State.keep, State.upd, State.setLane, State.lane, State.dieUpd, vmod_vmod]
  exact hstore s.quiet

section Arrival
variable {s : State} {l : LaneId} {d : Fin 12} {e : LinkEntry}

/-- A due front command of a kind that the row names. -/
theorem State.linkArrive_of_front (h : s.dieRuns l d e) {kinds : List DrvKind} (hk : e.cmd.kind ∈ kinds) (bad : Bool) :
    s.linkArrive l d kinds bad = if bad then s.popLink l d else (s.popLink l d).dieArrive l d e.cmd := by
  obtain ⟨-, -, hhead, hdue, -, -, hsoon⟩ := h
  obtain ⟨rest, hq⟩ := List.head?_eq_some_iff.1 hhead
  have hpop : s.popLink l d = s.upd l fun L => L.schedUpd fun c => { c with links := vmod c.links d fun _ => rest } := by
    rw [State.popLink, hq, List.tail_cons]
  have hgo : (decide (s.now < e.due) || !kinds.contains e.cmd.kind) = false := by
    rw [decide_eq_false (by omega), List.contains_iff_mem.2 hk]
    rfl
  unfold State.linkArrive
  rw [hq]
  dsimp only
  rw [hgo, if_neg Bool.false_ne_true, ← hpop]
  split
  · rfl
  · split
    · rename_i _ hany
      obtain ⟨i, hi, hx⟩ := List.any_eq_true.1 hany
      rw [State.popLink, State.upd_pending] at hi
      split at hx
      · exact absurd hi (hsoon _ (beq_iff_eq.1 hx))
      · exact absurd hx Bool.false_ne_true
    · rfl

theorem State.popLink_auth (h : s.dieRuns l d e) : ((s.popLink l d).die d).auth = votedOf l := by
  rw [State.die, State.popLink_dies]
  exact h.2.2.2.2.1

/-- STOP and HALT of the lane in authority are executed at once (R141, R237). -/
theorem State.dieArrive_of_uncompared {c : DrvCmd} (hauth : (s.die d).auth = votedOf l) (hc : c.kind = .stop ∨ c.kind = .halt) :
    s.dieArrive l d c = s.dieExec l d c := by
  unfold State.dieArrive
  dsimp only
  rw [hauth]
  cases l <;> rcases hc with hc | hc <;> simp only [votedOf, votedLane, hc] <;> rfl

/-- Another command of that lane whose partner is not kept is executed at once, and then kept on the D variant (R237). -/
theorem State.dieArrive_of_alone {c : DrvCmd} (hauth : (s.die d).auth = votedOf l) (hpartner : s.partner d l c = none)
    (as : LaneId → List Nat) :
    (∀ n, (s.dieArrive l d c).chan n = (s.dieExec l d c).chan n) ∧ (∀ m, (s.dieArrive l d c).lane m = (s.dieExec l d c).lane m)
      ∧ (s.dieExec l d c).keeps (s.dieArrive l d c) (hideLink l d) as := by
  have hshape : s.dieArrive l d c = s.dieExec l d c ∨ ∃ x, s.dieArrive l d c = (s.dieExec l d c).keep d x := by
    unfold State.dieArrive
    dsimp only
    rw [hauth]
    cases l <;> simp only [votedOf, votedLane, hpartner, beq_self_eq_true, if_true] <;> split
    case a.isTrue | b.isTrue => exact .inl rfl
    case a.isFalse | b.isFalse => exact .inr ⟨_, rfl⟩
  obtain hu | ⟨x, hu⟩ := hshape
  · rw [hu]
    exact ⟨fun _ => rfl, fun _ => rfl, fun _ _ _ => rfl, rfl⟩
  · rw [hu]
    exact ⟨fun _ => rfl, fun m => State.dieUpd_lane _ _ _ m, State.keep_keeps _ l d x as⟩

end Arrival

theorem Chan.decayAt_of_unblanked {b c : Chan} (h : b.unblanked = c.unblanked) : b.decayAt = c.decayAt :=
  (congrArg Chan.decayAt h :)
theorem Chan.afterDecay_of_unblanked {b c : Chan} (h : b.unblanked = c.unblanked) : b.afterDecay = c.afterDecay :=
  (congrArg Chan.afterDecay h :)

theorem State.settle_chan (s : State) (n : Nat) : s.settle.chan n = s.chan n := by rw [State.chan, State.settle_chans, State.chan]

theorem State.settle_gate (s : State) (g : Nat) : s.settle.gate g = s.gate g := by rw [State.gate, State.settle_gates, State.gate]

theorem State.settle_lane_bit (s : State) (l : LaneId) (a i : Nat) : (s.settle.lane l).bit a i = (s.lane l).bit a i := by
  rw [Lane.bit, State.settle_lane_reg, Lane.bit]

/-! ### END, STOP and HALT as they arrive -/

section Arrival
variable {s : State} {l : LaneId} {d : Fin 12} {e : LinkEntry}

theorem State.dieExec_of_end {c : DrvCmd} (hv : s.vsupLow = false) (hc : c.kind = .endA ∨ c.kind = .endFast) :
    s.dieExec l d c = s.onEnd (16 * d + c.ch % 16) (c.kind == .endFast) := by
  rcases hc with hc | hc <;> simp only [State.dieExec, hv, hc] <;> rfl

theorem State.onEnd_of_angle {n : Nat} {v : Event} (hodd : s.oddMember n = false) (hv : (s.chan n).ev = some v)
    (hangle : v.angle = true) (fast : Bool) : s.onEnd n fast = s.endEvent n fast .idle := by
  simp only [State.onEnd, hodd, hv, hangle, Bool.false_eq_true, if_false, if_true]

/-- END of an angle-ended event, executed at once (R87, R104, R122). -/
theorem State.end_arrives (h : s.dieRuns l d e) (hk : e.cmd.kind = .endA ∨ e.cmd.kind = .endFast)
    (hodd : s.oddMember (16 * d + e.cmd.ch % 16) = false) {v : Event} (hv : (s.chan (16 * d + e.cmd.ch % 16)).ev = some v)
    (hangle : v.angle = true) :
    (s.popLink l d).dieExec l d e.cmd = (s.popLink l d).endEvent (16 * d + e.cmd.ch % 16) (e.cmd.kind == .endFast) .idle := by
  rw [State.dieExec_of_end (by rw [State.popLink_vsupLow, h.2.1]) hk,
    State.onEnd_of_angle (by rw [State.popLink_oddMember, hodd]) (by rw [State.popLink_chan, hv]) hangle]

theorem exec_endCmd_of_dieRuns (h : s.dieRuns l d e) (hk : e.cmd.kind = .endA ∨ e.cmd.kind = .endFast) :
    exec (.endCmd l ⟨d, false⟩) s = .next ((s.popLink l d).dieArrive l d e.cmd).settle := by
  have hmem : e.cmd.kind ∈ [DrvKind.endA, .endFast] := by simpa using hk
  refine (show _ = anyCmd l s fun s => s.linkArrive l d [.endA, .endFast] false from rfl).trans ((anyCmd_fitted l s _ h.1).trans ?_)
  rw [State.linkArrive_of_front h hmem false, if_neg Bool.false_ne_true]

theorem exec_stop_of_dieRuns (h : s.dieRuns l d e) (hk : e.cmd.kind = .stop) :
    exec (.stop l ⟨d, false⟩) s = .next (((s.popLink l d).stopChans d).quietGates d true .idle).settle := by
  refine (show _ = anyCmd l s fun s => s.linkArrive l d [.stop] false from rfl).trans ((anyCmd_fitted l s _ h.1).trans ?_)
  rw [State.linkArrive_of_front h (List.mem_singleton.2 hk) false, if_neg Bool.false_ne_true,
    State.dieArrive_of_uncompared (State.popLink_auth h) (.inl hk), State.dieExec, State.popLink_vsupLow, h.2.1, hk]
  rfl

theorem exec_halt_of_dieRuns (h : s.dieRuns l d e) (hk : e.cmd.kind = .halt) :
    exec (.halt l ⟨d, false⟩) s = .next (((s.popLink l d).haltChans d).quietGates d true .idle).settle := by
  refine (show _ = anyCmd l s fun s => s.linkArrive l d [.halt] false from rfl).trans ((anyCmd_fitted l s _ h.1).trans ?_)
  rw [State.linkArrive_of_front h (List.mem_singleton.2 hk) false, if_neg Bool.false_ne_true,
    State.dieArrive_of_uncompared (State.popLink_auth h) (.inr hk), State.dieExec, State.popLink_vsupLow, h.2.1, hk]
  rfl

/-- A frame that fails its link check only leaves the link (R237). -/
theorem exec_bad_of_dieRuns (h : s.dieRuns l d e) {i : Instr} {kinds : List DrvKind}
    (hi : exec i s = anyCmd l s fun s => s.linkArrive l d kinds true) (hk : e.cmd.kind ∈ kinds) :
    exec i s = .next (s.popLink l d).settle := by
  rw [hi, anyCmd_fitted l s _ h.1, State.linkArrive_of_front h hk true, if_pos rfl]

/-- What a change at a channel of the die keeps, from the arrival of its command to the end of the row. -/
theorem State.channel_row_keeps {n : Nat} (hn : n / 16 = d) {x u : State}
    (hx : (s.popLink l d).keeps x (hideChan n ∘ hideReports n) (inBoth (channelRegs n)))
    (hu : x.keeps u (hideLink l d) (inBoth (channelRegs n))) :
    s.keeps u.settle (hideChan n ∘ besideDie l d) (inBoth (channelRegs n)) := by
  have hlink : ∀ y, (hideChan n ∘ besideDie l d) (hideLink l d y) = (hideChan n ∘ besideDie l d) y := fun y =>
    congrArg (hideChan n) (besideDie_hideLink l d y)
  exact State.keeps_settle (State.keeps_trans
    (State.keeps_trans (State.keeps_weaken (s.popLink_keeps l d (inBoth (channelRegs n))) hlink fun _ => List.Subset.refl _)
      (State.keeps_weaken hx (hideChan_besideDie_channel l hn) fun _ => List.Subset.refl _))
    (State.keeps_weaken hu hlink fun _ => List.Subset.refl _))

/-- What a change at the channels and then at the gates of the die keeps. -/
theorem State.die_row_keeps {x u : State} (hx : (s.popLink l d).keeps x (hideDie d ∘ besideDie l d) (inBoth (dieRegs d)))
    (hu : x.keeps u (hideDie d ∘ besideDie l d) (inBoth (dieRegs d))) :
    s.keeps u.settle (hideDie d ∘ besideDie l d) (inBoth (dieRegs d)) := by
  have hlink : ∀ y, (hideDie d ∘ besideDie l d) (hideLink l d y) = (hideDie d ∘ besideDie l d) y := fun y =>
    congrArg (hideDie d) (besideDie_hideLink l d y)
  exact State.keeps_settle (State.keeps_trans (State.keeps_trans
    (State.keeps_weaken (s.popLink_keeps l d (inBoth (dieRegs d))) hlink fun _ => List.Subset.refl _) hx) hu)

/-- The END clause (R87, R104, R122): the row pops the link, and the event ends as `State.endEvent` ends it. -/
theorem endCmd_ends_event (h : s.dieRuns l d e) (hk : e.cmd.kind = .endA ∨ e.cmd.kind = .endFast) {n : Nat}
    (hn : n = 16 * d + e.cmd.ch % 16) (hodd : s.oddMember n = false) {v : Event} (hv : (s.chan n).ev = some v)
    (hangle : v.angle = true) :
    ∃ u, exec (.endCmd l ⟨d, false⟩) s = .next u ∧ (u.chan n).ev = none ∧ (u.chan n).state = .decay ∧ (u.chan n).decayAt = s.now
      ∧ (u.chan n).decayFast = ((e.cmd.kind == .endFast) || bits (profWord v.prof 0) 24 2 == 0) ∧ (u.chan n).afterDecay = .idle
      ∧ s.flagged u (Reg.chnEvent n) 1
      ∧ s.keeps u (hideChan n ∘ besideDie l d) (inBoth (channelRegs n)) := by
  subst hn
  have hlt : 16 * d.val + e.cmd.ch % 16 < 192 := by omega
  have hpartner : (s.popLink l d).partner d l e.cmd = none := (s.popLink_partner l d e.cmd).trans h.2.2.2.2.2.1
  have hwv := (congrArg Chan.ev (s.popLink_chan l d (16 * d + e.cmd.ch % 16))).trans hv
  obtain ⟨hchan, hlane, hkeep⟩ := State.dieArrive_of_alone (State.popLink_auth h) hpartner
    (inBoth (channelRegs (16 * d + e.cmd.ch % 16)))
  have hexec := exec_endCmd_of_dieRuns h hk
  rw [State.end_arrives h hk hodd hv hangle] at hchan hlane hkeep
  generalize (s.popLink l d).dieArrive l d e.cmd = u at hchan hlane hkeep hexec
  obtain ⟨c, -, hc⟩ := State.endEvent_unblanked hlt hwv (e.cmd.kind == .endFast) .idle
  rw [← hchan, ← State.settle_chan, State.popLink_now] at hc
  refine ⟨u.settle, hexec, Chan.ev_of_unblanked hc, Chan.state_of_unblanked hc, Chan.decayAt_of_unblanked hc,
    Chan.decayFast_of_unblanked hc, Chan.afterDecay_of_unblanked hc, fun m hm => ?_, ?_⟩
  · rw [State.settle_lane_bit, hlane]
    exact State.endEvent_bit hwv _ _ (by rw [State.popLink_lane_on, hm])
  · exact State.channel_row_keeps (by omega) (State.endEvent_keeps _ hlt _ _) hkeep

/-- The STOP clause (R141): each channel sees its own step of the loop, and the gates follow. -/
theorem stop_at_die (h : s.dieRuns l d e) (hk : e.cmd.kind = .stop) :
    ∃ u, exec (.stop l ⟨d, false⟩) s = .next u
      ∧ (∀ i : Fin 16, (u.chan (16 * d + i)).wait = none
          ∧ ∀ v, (s.chan (16 * d + i)).ev = some v →
            (v.angle = true → (u.chan (16 * d + i)).ev = none ∧ (u.chan (16 * d + i)).state = .decay
              ∧ (u.chan (16 * d + i)).decayFast = true ∧ s.flagged u (Reg.chnEvent (16 * d + i)) 2)
            ∧ (v.angle = false → (u.chan (16 * d + i)).ev = some v))
      ∧ (∀ j : Fin 4, (s.gate (4 * d + j)).state = .dwell → (u.gate (4 * d + j)).state = .soft ∧ (u.gate (4 * d + j)).afterSoft = .idle)
      ∧ s.keeps u (hideDie d ∘ besideDie l d) (inBoth (dieRegs d)) := by
  refine ⟨_, exec_stop_of_dieRuns h hk, fun i => ?_, fun j hj => ?_, ?_⟩
  · obtain ⟨hwait, hcut⟩ := (s.popLink l d).stopChans_chan d.isLt i
    rw [State.settle_chan, State.quietGates_chan]
    refine ⟨hwait, fun v hv => ?_⟩
    obtain ⟨hangle, htime⟩ := hcut v (by rw [State.popLink_chan, hv])
    refine ⟨fun hv' => ?_, htime⟩
    obtain ⟨hev, hstate, hfast, hflag⟩ := hangle hv'
    refine ⟨hev, hstate, hfast, fun m hm => ?_⟩
    rw [State.settle_lane_bit, Lane.bit, State.quietGates_chnEvent]
    exact hflag m (by rw [State.popLink_lane_on, hm])
  · rw [State.settle_gate]
    refine State.quietGates_gate _ d.isLt true .idle j ?_
    rw [State.stopChans_eq, State.channelLoop_gate State.channelFrame_stopChan, State.popLink_gate, hj]
  · exact State.die_row_keeps (State.channelLoop_keeps State.channelFrame_stopChan State.sameCharge_stopChan _ l d.isLt)
      (State.quietGates_keeps _ l d true .idle)

/-- The HALT clause (R141). -/
theorem halt_at_die (h : s.dieRuns l d e) (hk : e.cmd.kind = .halt) :
    ∃ u, exec (.halt l ⟨d, false⟩) s = .next u
      ∧ (∀ i : Fin 16, (u.chan (16 * d + i)).wait = none ∧ (u.chan (16 * d + i)).ev = none
          ∧ ((s.chan (16 * d + i)).ev.isSome = true → (u.chan (16 * d + i)).state = .decay)
          ∧ ((s.chan (16 * d + i)).ev.isSome = true ∨ (s.chan (16 * d + i)).decaying = true →
              (u.chan (16 * d + i)).decaying = true ∧ (u.chan (16 * d + i)).decayFast = true))
      ∧ (∀ j : Fin 4, (s.gate (4 * d + j)).state = .dwell → (u.gate (4 * d + j)).state = .soft ∧ (u.gate (4 * d + j)).afterSoft = .idle)
      ∧ s.keeps u (hideDie d ∘ besideDie l d) (inBoth (dieRegs d)) := by
  refine ⟨_, exec_halt_of_dieRuns h hk, fun i => ?_, fun j hj => ?_, ?_⟩
  · rw [State.settle_chan, State.quietGates_chan, ← s.popLink_chan l d]
    exact (s.popLink l d).haltChans_chan d.isLt i
  · rw [State.settle_gate]
    refine State.quietGates_gate _ d.isLt true .idle j ?_
    rw [State.haltChans_eq, State.channelLoop_gate State.channelFrame_haltChan, State.popLink_gate, hj]
  · exact State.die_row_keeps (State.channelLoop_keeps State.channelFrame_haltChan State.sameCharge_haltChan _ l d.isLt)
      (State.quietGates_keeps _ l d true .idle)

/-- The clause of a frame that fails its link check (R237). -/
theorem bad_frame_leaves_link (h : s.dieRuns l d e) {i : Instr} {kinds : List DrvKind}
    (hi : exec i s = anyCmd l s fun s => s.linkArrive l d kinds true) (hk : e.cmd.kind ∈ kinds) :
    ∃ u, exec i s = .next u ∧ vget (u.lane l).sched.links d [] = (vget (s.lane l).sched.links d []).tail ∧ u.dies = s.dies
      ∧ s.keeps u (hideLink l d) (inBoth []) :=
  ⟨_, exec_bad_of_dieRuns h hi hk, by rw [State.settle_lane_sched_links, s.popLink_links l d.isLt],
    by rw [State.settle_dies, State.popLink_dies], State.keeps_settle (s.popLink_keeps l d _)⟩

end Arrival

/-- Settles O20: a clause per command, each from the arrival of the front command, the loop over the channels of the die and the
loop over its gates. -/
theorem endStopAndHaltCommands : Obligations.EndStopAndHaltCommands := by
  unfold Obligations.EndStopAndHaltCommands
  intro s l d e h
  refine ⟨fun hk hodd v hv hangle => endCmd_ends_event h hk rfl hodd hv hangle, fun hk => stop_at_die h hk,
    fun hk => halt_at_die h hk, fun c hc hk => ?_⟩
  simp only [List.mem_cons, List.not_mem_nil, or_false] at hc
  rcases hc with rfl | rfl | rfl | rfl | rfl | rfl <;> exact bad_frame_leaves_link h rfl hk

end Sys2Proof.Machine

/-! The statement of 06_armature_landing.md: O26 holds. A report at a lane is an accepted landing, which may move the estimate,
or a refused one, which counts a miss (R151). Each part has what it leaves to read, and one frame holds for the whole
report; the writes of LNDn_CTRL and LNDn_EST go through the LND_ block to their own effects (R153). -/

namespace Sys2Proof.Machine

/-! ### Fields of a register after a write of a field -/

theorem bits_testBit (v : BitVec 32) (lo w i : Nat) : (bits v lo w).testBit i = (decide (i < w) && v.getLsbD (lo + i)) := by
  rw [bits, Nat.testBit_mod_two_pow, Nat.testBit_shiftRight, BitVec.testBit_toNat]

theorem bits_setBits_same (v : BitVec 32) {lo w : Nat} (x : Nat) (h : lo + w ≤ 32) : bits (setBits v lo w x) lo w = x % 2 ^ w := by
  refine Nat.eq_of_testBit_eq fun i => ?_
  rw [bits_testBit, Nat.testBit_mod_two_pow]
  by_cases hi : i < w
  · rw [setBits_getLsbD _ _ _ _ _ h (by omega), if_pos ⟨by omega, by omega⟩, Nat.add_sub_cancel_left]
  · simp [hi]

theorem bits_setBits_disjoint (v : BitVec 32) {lo w lo' w' : Nat} (x : Nat) (h : lo + w ≤ 32) (h' : lo' + w' ≤ 32)
    (hd : lo + w ≤ lo' ∨ lo' + w' ≤ lo) : bits (setBits v lo w x) lo' w' = bits v lo' w' := by
  refine Nat.eq_of_testBit_eq fun i => ?_
  rw [bits_testBit, bits_testBit]
  by_cases hi : i < w'
  · rw [setBits_getLsbD _ _ _ _ _ h (by omega), if_neg (by omega)]
  · simp [hi]

theorem Lane.fld_setFld_same (L : Lane) (a : Nat) {lo w : Nat} (x : Nat) (h : lo + w ≤ 32) :
    (L.setFld a lo w x).fld a lo w = x % 2 ^ w := by
  rw [Lane.fld, Lane.reg_setFld, if_pos rfl, bits_setBits_same _ _ h]

theorem Lane.fld_setFld_disjoint (L : Lane) (a : Nat) {lo w lo' w' : Nat} (x : Nat) (h : lo + w ≤ 32) (h' : lo' + w' ≤ 32)
    (hd : lo + w ≤ lo' ∨ lo' + w' ≤ lo) : (L.setFld a lo w x).fld a lo' w' = L.fld a lo' w' := by
  rw [Lane.fld, Lane.reg_setFld, if_pos rfl, bits_setBits_disjoint _ _ h h' hd, Lane.fld]

theorem Lane.fld_setFld_zero (L : Lane) (a : Nat) {lo w : Nat} (h : lo + w ≤ 32) : (L.setFld a lo w 0).fld a lo w = 0 :=
  (L.fld_setFld_same a 0 h).trans (Nat.zero_mod _)

/-- A counter field saturates at the largest number of its width. -/
theorem Lane.fld_count_same (L : Lane) (a : Nat) {lo w top : Nat} (h : lo + w ≤ 32) (htop : top = 2 ^ w - 1) :
    (L.count a lo w).fld a lo w = min (L.fld a lo w + 1) top := by
  have hw := Nat.two_pow_pos w
  rw [htop, Lane.count, Lane.fld_setFld_same _ _ _ h, Nat.mod_eq_of_lt (by omega)]

theorem Lane.fld_of_reg_eq {L M : Lane} {a : Nat} (h : M.reg a = L.reg a) (lo w : Nat) : M.fld a lo w = L.fld a lo w := by
  rw [Lane.fld, h, Lane.fld]

theorem Lane.bit_of_reg_eq {L M : Lane} {a : Nat} (h : M.reg a = L.reg a) (i : Nat) : M.bit a i = L.bit a i := by
  rw [Lane.bit, h, Lane.bit]

theorem State.settle_lane_fld (s : State) (l : LaneId) (a lo w : Nat) : (s.settle.lane l).fld a lo w = (s.lane l).fld a lo w :=
  Lane.fld_of_reg_eq (State.settle_lane_reg s l a) lo w

theorem Lane.reg_raise_of_ne (L : Lane) (k : Kind) (inst w1 : Nat) {a : Nat} (h : a ≠ Reg.fltLost) :
    (L.raise k inst w1).reg a = L.reg a :=
  (L.reportsOnly_raise k inst w1 [Reg.fltLost] (List.mem_singleton_self _)).1 a fun hm => h (List.mem_singleton.1 hm)

/-! ### The parts of a landing report at a lane (R151) -/

/-- LNDn_LAST takes the verdict, with the time of a landing that was seen. -/
def Lane.landingLast (L : Lane) (r : LandingReport) (v : Nat) : Lane :=
  L.setReg (Reg.lndLast r.ch) (BitVec.ofNat 32 (v * 2 ^ 30 + (if v % 2 = 1 then r.x else L.fld (Reg.lndLast r.ch) 0 24)))

/-- LNDn_DIP takes the depth of the dip. -/
def Lane.landingDip (L : Lane) (r : LandingReport) : Lane := L.setReg (Reg.lndDip r.ch) (BitVec.ofNat 32 (min r.depth 0xFFFF))

/-- An accepted landing clears the misses, is counted and flagged. -/
def Lane.landingAccepted (L : Lane) (r : LandingReport) : Lane :=
  ((((L.landingLast r 1).landingDip r).setFld (Reg.lndCnt r.ch) 28 4 0).count (Reg.lndCnt r.ch) 0 16).event (Reg.lndEvent r.ch) 0

/-- The estimate after a landing at x: it moves by 2^-GAIN of its error, within the clamp from lo to hi. -/
def Lane.movedEstimate (L : Lane) (n lo hi x : Nat) : Word :=
  let E : Int := (L.reg (Reg.lndEst n)).toNat
  BitVec.ofInt 32 (max (lo * 256 : Int) (min (E + ((x * 256 : Nat) - E) / 2 ^ L.fld (Reg.lndCtrl n) 8 3) (hi * 256)))

/-- The estimate moves where EN is 1 and FREEZE 0; the value before the report stays for this TCLK (R152). -/
def Lane.landingMoves (L : Lane) (n lo hi x : Nat) : Lane :=
  if L.bit (Reg.lndCtrl n) 0 && !L.bit (Reg.lndCtrl n) 1 then
    { L.setReg (Reg.lndEst n) (L.movedEstimate n lo hi x) with
      estOld := (n, (L.estOld.lookup n).getD (L.reg (Reg.lndEst n))) :: L.estOld }
  else L

/-- A landing outside the clamp is flagged as rejected, and a missing one as missing. -/
def Lane.landingRefused (L : Lane) (r : LandingReport) : Lane :=
  if r.verdict = 1 then ((L.landingLast r 3).landingDip r).event (Reg.lndEvent r.ch) 2
  else (L.landingLast r 2).event (Reg.lndEvent r.ch) 1

/-- A miss is counted, and STUCK is raised as the count reaches its limit. -/
def Lane.landingMissed (L : Lane) (n name : Nat) : Lane :=
  let M := L.count (Reg.lndCnt n) 28 4
  if M.fld (Reg.lndCtrl n) 12 4 ≠ 0 && M.fld (Reg.lndCnt n) 28 4 == M.fld (Reg.lndCtrl n) 12 4 then
    (M.event (Reg.lndEvent n) 3).raise .lndStuck n name
  else M

/-- The landing that r reports is within the clamp of its channel. -/
abbrev Lane.withinClamp (L : Lane) (r : LandingReport) : Prop :=
  r.verdict = 1 ∧ L.fld (Reg.lndClamp r.ch) 0 16 * 400 ≤ r.x ∧ r.x ≤ L.fld (Reg.lndClamp r.ch) 16 16 * 400

section Report
variable {L : Lane} {r : LandingReport}

theorem Lane.landing_of_odd (h : L.oddMember r.ch = true) : L.landing r = L := if_pos h

theorem Lane.landing_of_noVerdict (h : L.oddMember r.ch = false) (hv : r.verdict = 0) : L.landing r = L.landingLast r 0 :=
  (if_neg (by rw [h]; decide)).trans (if_pos hv)

theorem Lane.landing_of_withinClamp (h : L.oddMember r.ch = false) (hin : L.withinClamp r) :
    L.landing r = (L.landingAccepted r).landingMoves r.ch
      (L.fld (Reg.lndClamp r.ch) 0 16 * 400) (L.fld (Reg.lndClamp r.ch) 16 16 * 400) r.x :=
  (if_neg (by rw [h]; decide)).trans ((if_neg (by rw [hin.1]; decide)).trans (if_pos hin))

theorem Lane.landing_of_refused (h : L.oddMember r.ch = false) (hv : r.verdict ≠ 0) (hout : ¬ L.withinClamp r) :
    L.landing r = (L.landingRefused r).landingMissed r.ch r.name :=
  (if_neg (by rw [h]; decide)).trans ((if_neg hv).trans (if_neg hout))

end Report

/-! ### What the parts read and leave -/

theorem Lane.reg_landingLast (L : Lane) (r : LandingReport) (v : Nat) {a : Nat} (h : a ≠ Reg.lndLast r.ch) :
    (L.landingLast r v).reg a = L.reg a := by rw [Lane.landingLast, Lane.reg_setReg, if_neg h]

theorem Lane.reg_landingDip (L : Lane) (r : LandingReport) {a : Nat} (h : a ≠ Reg.lndDip r.ch) :
    (L.landingDip r).reg a = L.reg a := by rw [Lane.landingDip, Lane.reg_setReg, if_neg h]

theorem Lane.reg_landingAccepted (L : Lane) (r : LandingReport) {a : Nat}
    (h : a ∉ [Reg.lndLast r.ch, Reg.lndDip r.ch, Reg.lndCnt r.ch, Reg.lndEvent r.ch]) : (L.landingAccepted r).reg a = L.reg a := by
  simp only [List.mem_cons, List.not_mem_nil, or_false, not_or] at h
  obtain ⟨hlast, hdip, hcnt, hevent⟩ := h
  rw [Lane.landingAccepted, Lane.reg_event, if_neg hevent, Lane.reg_count, if_neg hcnt, Lane.reg_setFld, if_neg hcnt,
    Lane.reg_landingDip _ _ hdip, Lane.reg_landingLast _ _ _ hlast]

theorem Lane.reg_landingMoves (L : Lane) {n lo hi x a : Nat} (h : a ≠ Reg.lndEst n) :
    (L.landingMoves n lo hi x).reg a = L.reg a := by
  unfold Lane.landingMoves
  split
  · exact (Lane.reg_setReg ..).trans (if_neg h)
  · rfl

theorem Lane.reg_lndEst_landingMoves {L : Lane} {n lo hi x : Nat} (hen : L.bit (Reg.lndCtrl n) 0 = true)
    (hfreeze : L.bit (Reg.lndCtrl n) 1 = false) : (L.landingMoves n lo hi x).reg (Reg.lndEst n) = L.movedEstimate n lo hi x := by
  rw [Lane.landingMoves, if_pos (by rw [hen, hfreeze]; rfl)]
  exact (Lane.reg_setReg ..).trans (if_pos rfl)

theorem Lane.movedEstimate_congr {L M : Lane} {n : Nat} (lo hi x : Nat) (hest : M.reg (Reg.lndEst n) = L.reg (Reg.lndEst n))
    (hctrl : M.reg (Reg.lndCtrl n) = L.reg (Reg.lndCtrl n)) : M.movedEstimate n lo hi x = L.movedEstimate n lo hi x := by
  rw [Lane.movedEstimate, Lane.movedEstimate, hest, Lane.fld_of_reg_eq hctrl]

theorem Lane.reg_landingRefused (L : Lane) (r : LandingReport) {a : Nat}
    (h : a ∉ [Reg.lndLast r.ch, Reg.lndDip r.ch, Reg.lndEvent r.ch]) : (L.landingRefused r).reg a = L.reg a := by
  simp only [List.mem_cons, List.not_mem_nil, or_false, not_or] at h
  obtain ⟨hlast, hdip, hevent⟩ := h
  unfold Lane.landingRefused
  split
  · rw [Lane.reg_event, if_neg hevent, Lane.reg_landingDip _ _ hdip, Lane.reg_landingLast _ _ _ hlast]
  · rw [Lane.reg_event, if_neg hevent, Lane.reg_landingLast _ _ _ hlast]

/-- Whether STUCK is raised or not, a miss is one count. -/
theorem Lane.landingMissed_cases (L : Lane) (n name : Nat) :
    L.landingMissed n name = L.count (Reg.lndCnt n) 28 4
      ∨ L.landingMissed n name = ((L.count (Reg.lndCnt n) 28 4).event (Reg.lndEvent n) 3).raise .lndStuck n name := by
  unfold Lane.landingMissed
  extract_lets M
  split
  · exact .inr rfl
  · exact .inl rfl

/-- The registers of channel n that a landing report writes, and the collector's count of lost messages. -/
def landingRegs (n : Nat) : List Nat := [Reg.lndEvent n, Reg.lndCnt n, Reg.lndEst n, Reg.lndDip n, Reg.lndLast n, Reg.fltLost]

/-- A lane with what a landing report changes beside registers hidden: fault messages, and the estimates of this TCLK. -/
def Lane.unlanded (L : Lane) : Lane := { L.quiet with fltQ := [], fltHeld := [], estOld := [] }

/-- Lane M is lane L but for what a landing report of channel n changes. -/
def Lane.landingFrame (n : Nat) (L M : Lane) : Prop :=
  (∀ a, a ∉ landingRegs n → M.reg a = L.reg a) ∧ M.unlanded = L.unlanded

theorem Lane.landingFrame_trans {n : Nat} {L M N : Lane} (h : L.landingFrame n M) (g : M.landingFrame n N) : L.landingFrame n N :=
  ⟨fun a ha => (g.1 a ha).trans (h.1 a ha), g.2.trans h.2⟩

theorem Lane.landingFrame_setReg (L : Lane) {n a : Nat} (v : Word) (ha : a ∈ landingRegs n) : L.landingFrame n (L.setReg a v) :=
  ⟨fun b hb => by rw [Lane.reg_setReg, if_neg fun (h : b = a) => hb (h ▸ ha)], rfl⟩

theorem Lane.landingFrame_event (L : Lane) {n a : Nat} (i : Nat) (ha : a ∈ landingRegs n) : L.landingFrame n (L.event a i) :=
  ⟨fun b hb => by rw [Lane.reg_event, if_neg fun (h : b = a) => hb (h ▸ ha)], rfl⟩

theorem Lane.unlanded_queueFault (L : Lane) (m : FaultMsg) : (L.queueFault m).unlanded = L.unlanded := by
  obtain ⟨-, hq⟩ | ⟨-, -, hq⟩ | ⟨-, -, hq⟩ := L.queueFault_cases m <;> rw [hq] <;> rfl

theorem Lane.landingFrame_raise (L : Lane) (n : Nat) (k : Kind) (inst w1 : Nat) : L.landingFrame n (L.raise k inst w1) :=
  ⟨fun a ha => L.reg_raise_of_ne k inst w1 fun h => ha (by simp [landingRegs, h]), L.unlanded_queueFault _⟩

theorem Lane.landingFrame_landingMissed (L : Lane) (n name : Nat) : L.landingFrame n (L.landingMissed n name) := by
  have hcount : L.landingFrame n (L.count (Reg.lndCnt n) 28 4) := L.landingFrame_setReg _ (by simp [landingRegs])
  obtain h | h := L.landingMissed_cases n name
  · rwa [h]
  · rw [h]
    exact Lane.landingFrame_trans hcount (Lane.landingFrame_trans (Lane.landingFrame_event _ 3 (by simp [landingRegs]))
      (Lane.landingFrame_raise _ n ..))

theorem Lane.landingFrame_landingRefused (L : Lane) (r : LandingReport) : L.landingFrame r.ch (L.landingRefused r) := by
  unfold Lane.landingRefused
  split
  · exact Lane.landingFrame_trans (L.landingFrame_setReg _ (by simp [landingRegs])) (Lane.landingFrame_trans
      (Lane.landingFrame_setReg _ _ (by simp [landingRegs])) (Lane.landingFrame_event _ 2 (by simp [landingRegs])))
  · exact Lane.landingFrame_trans (L.landingFrame_setReg _ (by simp [landingRegs]))
      (Lane.landingFrame_event _ 1 (by simp [landingRegs]))

theorem Lane.landingFrame_landingAccepted (L : Lane) (r : LandingReport) : L.landingFrame r.ch (L.landingAccepted r) := by
  have hdip : L.landingFrame r.ch ((L.landingLast r 1).landingDip r) :=
    Lane.landingFrame_trans (L.landingFrame_setReg _ (by simp [landingRegs])) (Lane.landingFrame_setReg _ _ (by simp [landingRegs]))
  have hcnt : ∀ M : Lane, M.landingFrame r.ch ((M.setFld (Reg.lndCnt r.ch) 28 4 0).count (Reg.lndCnt r.ch) 0 16) := fun M =>
    Lane.landingFrame_trans (M.landingFrame_setReg _ (by simp [landingRegs])) (Lane.landingFrame_setReg _ _ (by simp [landingRegs]))
  exact Lane.landingFrame_trans hdip (Lane.landingFrame_trans (hcnt _) (Lane.landingFrame_event _ 0 (by simp [landingRegs])))

theorem Lane.landingFrame_landingMoves (L : Lane) (n lo hi x : Nat) : L.landingFrame n (L.landingMoves n lo hi x) := by
  refine ⟨fun a ha => L.reg_landingMoves fun h => ha (by simp [landingRegs, h]), ?_⟩
  unfold Lane.landingMoves
  split <;> rfl

/-- A report changes its channel's landing registers, the estimates of this TCLK and the fault messages, and nothing else. -/
theorem Lane.landingFrame_landing (L : Lane) (r : LandingReport) : L.landingFrame r.ch (L.landing r) := by
  cases hodd : L.oddMember r.ch with
  | true => rw [Lane.landing_of_odd hodd]; exact ⟨fun _ _ => rfl, rfl⟩
  | false =>
    by_cases hv : r.verdict = 0
    · rw [Lane.landing_of_noVerdict hodd hv]
      exact L.landingFrame_setReg _ (by simp [landingRegs])
    by_cases hin : L.withinClamp r
    · rw [Lane.landing_of_withinClamp hodd hin]
      exact Lane.landingFrame_trans (L.landingFrame_landingAccepted r) (Lane.landingFrame_landingMoves ..)
    · rw [Lane.landing_of_refused hodd hv hin]
      exact Lane.landingFrame_trans (L.landingFrame_landingRefused r) (Lane.landingFrame_landingMissed _ _ _)

theorem Lane.landing_landingQ (L : Lane) (r : LandingReport) : (L.landing r).landingQ = L.landingQ :=
  (congrArg Lane.landingQ (L.landingFrame_landing r).2 :)

/-! ### What a report leaves to read -/

theorem Lane.landingAccepted_reads (L : Lane) (r : LandingReport) :
    (L.landingAccepted r).bit (Reg.lndEvent r.ch) 0 = true ∧ (L.landingAccepted r).fld (Reg.lndCnt r.ch) 28 4 = 0
      ∧ (L.landingAccepted r).fld (Reg.lndCnt r.ch) 0 16 = min (L.fld (Reg.lndCnt r.ch) 0 16 + 1) 0xFFFF := by
  have hdip : ((L.landingLast r 1).landingDip r).reg (Reg.lndCnt r.ch) = L.reg (Reg.lndCnt r.ch) := by
    rw [Lane.reg_landingDip _ _ (by simp [Reg.lndCnt, Reg.lndDip]), Lane.reg_landingLast _ _ _ (by simp [Reg.lndCnt, Reg.lndLast])]
  have hcnt : ∀ (M : Lane) i, (M.event (Reg.lndEvent r.ch) i).reg (Reg.lndCnt r.ch) = M.reg (Reg.lndCnt r.ch) := fun M i =>
    (Lane.reg_event ..).trans (if_neg (by simp [Reg.lndCnt, Reg.lndEvent]))
  refine ⟨Lane.bit_event _ _ _ (by decide), ?_, ?_⟩
  · rw [Lane.landingAccepted, Lane.fld_of_reg_eq (hcnt _ _), Lane.count,
      Lane.fld_setFld_disjoint _ _ _ (by decide) (by decide) (by decide), Lane.fld_setFld_zero _ _ (by decide)]
  · rw [Lane.landingAccepted, Lane.fld_of_reg_eq (hcnt _ _), Lane.fld_count_same (top := 0xFFFF) _ _ (by decide) rfl,
      Lane.fld_setFld_disjoint _ _ _ (by decide) (by decide) (by decide), Lane.fld_of_reg_eq hdip]

theorem Lane.landingRefused_flag (L : Lane) (r : LandingReport) :
    (L.landingRefused r).bit (Reg.lndEvent r.ch) (if r.verdict = 1 then 2 else 1) = true := by
  unfold Lane.landingRefused
  split <;> exact Lane.bit_event _ _ _ (by decide)

/-- A miss counts, and raises no flag but STUCK. -/
theorem Lane.landingMissed_reads (L : Lane) {n : Nat} (hn : n < 192) (name : Nat) :
    (∀ i, i < 3 → (L.landingMissed n name).bit (Reg.lndEvent n) i = L.bit (Reg.lndEvent n) i)
      ∧ (L.landingMissed n name).fld (Reg.lndCnt n) 28 4 = min (L.fld (Reg.lndCnt n) 28 4 + 1) 15
      ∧ (L.landingMissed n name).reg (Reg.lndEst n) = L.reg (Reg.lndEst n) := by
  have hevent : (L.count (Reg.lndCnt n) 28 4).reg (Reg.lndEvent n) = L.reg (Reg.lndEvent n) :=
    (Lane.reg_count ..).trans (if_neg (by simp [Reg.lndCnt, Reg.lndEvent]))
  have hest : (L.count (Reg.lndCnt n) 28 4).reg (Reg.lndEst n) = L.reg (Reg.lndEst n) :=
    (Lane.reg_count ..).trans (if_neg (by simp [Reg.lndCnt, Reg.lndEst]))
  obtain h | h := L.landingMissed_cases n name <;> rw [h]
  · exact ⟨fun i _ => Lane.bit_of_reg_eq hevent i, Lane.fld_count_same (top := 15) _ _ (by decide) rfl, hest⟩
  · have hraise : ∀ (M : Lane) a, a ∈ [Reg.lndEvent n, Reg.lndCnt n, Reg.lndEst n] →
        (M.raise .lndStuck n name).reg a = M.reg a := fun M a ha => M.reg_raise_of_ne _ _ _ (by
      simp only [Reg.lndEvent, Reg.lndCnt, Reg.lndEst, List.mem_cons, List.not_mem_nil, or_false] at ha
      simp only [Reg.fltLost]
      omega)
    refine ⟨fun i hi => ?_, ?_, ?_⟩
    · rw [Lane.bit_of_reg_eq (hraise _ _ (by simp)), Lane.bit_event_other _ _ _ _ _ (by decide) (by omega) (.inr (by omega)),
        Lane.bit_of_reg_eq hevent]
    · rw [Lane.fld_of_reg_eq (hraise _ _ (by simp)),
        Lane.fld_of_reg_eq ((Lane.reg_event ..).trans (if_neg (by simp [Reg.lndCnt, Reg.lndEvent]))),
        Lane.fld_count_same (top := 15) _ _ (by decide) rfl]
    · rw [hraise _ _ (by simp), Lane.reg_event, if_neg (by simp [Reg.lndEst, Reg.lndEvent]), hest]

section Report
variable {L : Lane} {r : LandingReport}

/-- An accepted landing is flagged and counted, clears the misses, and moves the estimate where it may move. -/
theorem Lane.landing_reads_of_withinClamp (h : L.oddMember r.ch = false) (hin : L.withinClamp r) :
    (L.landing r).bit (Reg.lndEvent r.ch) 0 = true ∧ (L.landing r).fld (Reg.lndCnt r.ch) 28 4 = 0
      ∧ (L.landing r).fld (Reg.lndCnt r.ch) 0 16 = min (L.fld (Reg.lndCnt r.ch) 0 16 + 1) 0xFFFF
      ∧ (L.bit (Reg.lndCtrl r.ch) 0 = true → L.bit (Reg.lndCtrl r.ch) 1 = false → (L.landing r).reg (Reg.lndEst r.ch) =
          L.movedEstimate r.ch (L.fld (Reg.lndClamp r.ch) 0 16 * 400) (L.fld (Reg.lndClamp r.ch) 16 16 * 400) r.x) := by
  rw [Lane.landing_of_withinClamp h hin]
  obtain ⟨hflag, hmiss, hcount⟩ := L.landingAccepted_reads r
  refine ⟨?_, ?_, ?_, fun hen hfreeze => ?_⟩
  · rw [Lane.bit_of_reg_eq (Lane.reg_landingMoves _ (by simp [Reg.lndEvent, Reg.lndEst])), hflag]
  · rw [Lane.fld_of_reg_eq (Lane.reg_landingMoves _ (by simp [Reg.lndCnt, Reg.lndEst])), hmiss]
  · rw [Lane.fld_of_reg_eq (Lane.reg_landingMoves _ (by simp [Reg.lndCnt, Reg.lndEst])), hcount]
  · have hctrl : (L.landingAccepted r).reg (Reg.lndCtrl r.ch) = L.reg (Reg.lndCtrl r.ch) :=
      L.reg_landingAccepted r (by simp [Reg.lndCtrl, Reg.lndLast, Reg.lndDip, Reg.lndCnt, Reg.lndEvent])
    have hest : (L.landingAccepted r).reg (Reg.lndEst r.ch) = L.reg (Reg.lndEst r.ch) :=
      L.reg_landingAccepted r (by simp [Reg.lndEst, Reg.lndLast, Reg.lndDip, Reg.lndCnt, Reg.lndEvent])
    rw [Lane.reg_lndEst_landingMoves ((Lane.bit_of_reg_eq hctrl 0).trans hen) ((Lane.bit_of_reg_eq hctrl 1).trans hfreeze),
      Lane.movedEstimate_congr _ _ _ hest hctrl]

/-- A landing outside the clamp, or none, is flagged, counts a miss and leaves the estimate. -/
theorem Lane.landing_reads_of_refused (hch : r.ch < 192) (h : L.oddMember r.ch = false) (hv : r.verdict ≠ 0)
    (hout : ¬ L.withinClamp r) :
    (L.landing r).bit (Reg.lndEvent r.ch) (if r.verdict = 1 then 2 else 1) = true
      ∧ (L.landing r).fld (Reg.lndCnt r.ch) 28 4 = min (L.fld (Reg.lndCnt r.ch) 28 4 + 1) 15
      ∧ (L.landing r).reg (Reg.lndEst r.ch) = L.reg (Reg.lndEst r.ch) := by
  rw [Lane.landing_of_refused h hv hout]
  obtain ⟨hflag, hmiss, hest⟩ := (L.landingRefused r).landingMissed_reads hch r.name
  refine ⟨?_, ?_, ?_⟩
  · rw [hflag _ (by split <;> decide), L.landingRefused_flag]
  · rw [hmiss, Lane.fld_of_reg_eq (L.reg_landingRefused r (by simp [Reg.lndCnt, Reg.lndLast, Reg.lndDip, Reg.lndEvent]))]
  · rw [hest, L.reg_landingRefused r (by simp [Reg.lndEst, Reg.lndLast, Reg.lndDip, Reg.lndEvent])]

end Report

/-! ### Frames of a change in one lane, and of a report to both -/

theorem State.lane_upd_of_ne (s : State) (f : Lane → Lane) : {m l : LaneId} → m ≠ l → (s.upd l f).lane m = s.lane m
  | .a, .b, _ => rfl
  | .b, .a, _ => rfl

theorem State.keeps_upd {s : State} {l : LaneId} {f g : Lane → Lane} {as : List Nat}
    (hreg : ∀ a, a ∉ as → (f (s.lane l)).reg a = (s.lane l).reg a) (hrest : g (f (s.lane l)).quiet = g (s.lane l).quiet) :
    s.keeps (s.upd l f) (hideIn l g) (inLane l as) := by
  refine ⟨fun m a ha => ?_, ?_⟩
  · by_cases hm : m = l
    · subst hm
      rw [State.lane_upd]
      exact hreg a (by rwa [inLane, if_pos rfl] at ha)
    · rw [State.lane_upd_of_ne s f hm]
  · cases l
    · exact congrArg (fun L : Lane => { s.quiet with laneA := L }) hrest
    · exact congrArg (fun L : Lane => { s.quiet with laneB := L }) hrest

/-- A change of one lane's registers alone. -/
theorem State.keeps_upd_regs {s : State} {l : LaneId} {f : Lane → Lane} {as : List Nat}
    (hreg : ∀ a, a ∉ as → (f (s.lane l)).reg a = (s.lane l).reg a) (hrest : (f (s.lane l)).quiet = (s.lane l).quiet) :
    s.keeps (s.upd l f) hideNone (inLane l as) :=
  State.keeps_weaken (State.keeps_upd (g := id) hreg hrest) (fun _ => by cases l <;> rfl) fun _ => List.Subset.refl _

theorem State.keeps_chanUpd (s : State) (n : Nat) (f : Chan → Chan) (as : LaneId → List Nat) :
    s.keeps (s.chanUpd n f) (hideChan n) as := by
  refine ⟨fun l a _ => by rw [State.chanUpd_lane], ?_⟩
  have hchan : ∀ t : State, hideChan n (t.chanUpd n f) = hideChan n t := fun t => by
    simp only [hideChan, State.chanUpd, vmod_vmod]
  exact hchan s.quiet

/-- A running lane has one more report on its way. -/
def Lane.queueLanding (r : LandingReport) (L : Lane) : Lane :=
  if L.on then { L with landingQ := L.landingQ ++ [r] } else L

theorem State.keeps_report (s : State) (r : LandingReport) (as : LaneId → List Nat) : s.keeps (s.report r) hideLandings as := by
  have hreg : ∀ (L : Lane) a, (L.queueLanding r).reg a = L.reg a := by
    intro L a
    unfold Lane.queueLanding
    split <;> rfl
  have hrest : ∀ L : Lane, { (L.queueLanding r).quiet with landingQ := [] } = { L.quiet with landingQ := [] } := by
    intro L
    unfold Lane.queueLanding
    split <;> rfl
  refine ⟨fun l a _ => (congrArg (Lane.reg · a) (s.both_lane _ l)).trans (hreg _ a), ?_⟩
  calc hideLandings (s.report r).quiet
      = { s.blank with
          laneA := { (s.laneA.queueLanding r).quiet with landingQ := [] }
          laneB := { (s.laneB.queueLanding r).quiet with landingQ := [] } } := rfl
    _ = hideLandings s.quiet := by rw [hrest, hrest]; rfl

/-! ### LANDING_REPORT -/

section Arrival
variable {s : State} {l : LaneId} {r : LandingReport}

/-- A lane that has taken the front report off its queue. -/
def Lane.popLanding (L : Lane) : Lane := { L with landingQ := L.landingQ.tail }

theorem Lane.landingArrive_of_front {L : Lane} (h : L.landingQ.head? = some r) : L.landingArrive = L.popLanding.landing r := by
  obtain ⟨rest, hq⟩ := List.head?_eq_some_iff.1 h
  simp only [Lane.landingArrive, Lane.popLanding, hq, List.tail_cons]

theorem exec_landingReport_of_front (h : (s.lane l).landingQ.head? = some r) (hruns : s.runs l) :
    exec (.landingReport l) s = .next (s.upd l fun L => L.popLanding.landing r).settle := by
  refine (show _ = execLandingReport l s from rfl).trans ((laneCmd_on l s _ hruns.1 hruns.2).trans ?_)
  rw [State.upd, Lane.landingArrive_of_front h, State.upd]

theorem State.landingReport_keeps (s : State) (l : LaneId) (r : LandingReport) :
    s.keeps (s.upd l fun L => L.popLanding.landing r).settle
      (hideFaults ∘ hideIn l fun L => { L with landingQ := [], estOld := [] })
      (inLane l (landingRegs r.ch)) := by
  obtain ⟨hreg, hrest⟩ := (s.lane l).popLanding.landingFrame_landing r
  refine State.keeps_settle (State.keeps_weaken (State.keeps_upd (f := fun L => L.popLanding.landing r)
    (g := fun L => { L with landingQ := [], fltQ := [], fltHeld := [], estOld := [] }) hreg ?_) (fun _ => by cases l <;> rfl)
    fun _ => List.Subset.refl _)
  exact congrArg (fun L : Lane => { L with landingQ := [] }) hrest

/-- The odd member of a pair takes no report (R157). -/
theorem State.landingReport_keeps_of_odd (h : (s.lane l).oddMember r.ch = true) :
    s.keeps (s.upd l fun L => L.popLanding.landing r).settle (hideIn l fun L => { L with landingQ := [] }) (inBoth []) := by
  have hlane : (s.lane l).popLanding.landing r = (s.lane l).popLanding := Lane.landing_of_odd h
  refine State.keeps_settle (State.keeps_weaken (State.keeps_upd (f := fun L => L.popLanding.landing r) (as := [])
    (g := fun L => { L with landingQ := [] }) (fun _ _ => by rw [hlane]; rfl) (by rw [hlane]; rfl))
    (fun _ => by cases l <;> rfl) fun m => ?_)
  rw [inLane, ite_self]
  exact List.Subset.refl _

end Arrival

/-! ### LANDING_WINDOW_CLOSE -/

section Window
variable {s : State} {n : Nat} {e : Event}

theorem State.windowClose_of_open (he : (s.chan n).ev = some e) (hd : e.detect.isSome = true) (hs : s.sampleSoon n = none)
    (ht : e.window.2 ≤ s.now) : s.windowClose n =
      (s.chanUpd n fun c => { c with ev := some { e with detect := none } }).report ⟨n, 2, 0, 0, s.chName n⟩ := by
  simp [State.windowClose, he, hd, hs, ht]

theorem State.report_landingQ (s : State) (r : LandingReport) {m : LaneId} (h : (s.lane m).on = true) :
    ((s.report r).lane m).landingQ = (s.lane m).landingQ ++ [r] := by
  rw [State.report, State.both_lane, if_pos h]

/-- The frame of a verdict at channel n: the channel, and a report to both lanes. -/
theorem State.landingVerdict_keeps (s : State) (n : Nat) (f : Chan → Chan) (r : LandingReport) (as : LaneId → List Nat) :
    s.keeps ((s.chanUpd n f).report r).settle (hideChan n ∘ hideLandings) as :=
  State.keeps_settle (State.keeps_trans
    (State.keeps_weaken (s.keeps_chanUpd n f as) (fun x => hideChan_hideChan n (hideLandings x)) fun _ => List.Subset.refl _)
    (State.keeps_weaken ((s.chanUpd n f).keeps_report r as) (fun _ => rfl) fun _ => List.Subset.refl _))

end Window

/-! ### Writes of LNDn_CTRL and LNDn_EST -/

theorem Lane.applyCodes_of_unlocked (L : Lane) {a : Nat} {d : RegDesc} (v : Word) (hd : regDesc a = some d)
    (hbase : d.base ≠ Reg.fltReact 0) (hlock : d.lock = 0) : L.applyCodes a v = L.setReg a (L.written a v) := by
  simp [Lane.applyCodes, Lane.written, hd, hbase, hlock]

theorem regDesc_lndCtrl {n : Nat} (hn : n < 192) :
    regDesc (Reg.lndCtrl n) = some { base := 0x10050000, s1 := 16, n1 := 192, rw := 0xf703, reset := 0x8300 } := by
  have hblock : Reg.lndCtrl n / 0x10000 = 0x1005 := by simp only [Reg.lndCtrl]; omega
  have hcovers : RegDesc.covers { base := 0x10050000, s1 := 16, n1 := 192, rw := 0xf703, reset := 0x8300 } (Reg.lndCtrl n) = true := by
    simp [RegDesc.covers, Reg.lndCtrl, hn]
  rw [regDesc, blockRegs, hblock]
  exact List.find?_cons_of_pos hcovers

theorem State.regWrite_lnd {s : State} {l : LaneId} {a : Nat} (v : Word) (hheld : (s.lane l).held l a = false)
    (ha : a / 0x10000 = 0x1005) : s.regWrite l a v = s.upd l fun L => L.writeLnd a v := by
  simp [State.regWrite, State.writeReg, hheld, ha]

theorem Lane.writeLnd_lndCtrl (L : Lane) {n : Nat} (v : Word) (hn : n < 192) : L.writeLnd (Reg.lndCtrl n) v = L.writeLndCtrl n v := by
  have ho : Reg.lndCtrl n - 0x10050000 = 16 * n := by simp only [Reg.lndCtrl]; omega
  rw [Lane.writeLnd, ho, if_pos ⟨by omega, by omega⟩, Nat.mul_div_cancel_left n (by decide)]

theorem Lane.writeLnd_lndEst (L : Lane) {n : Nat} (v : Word) (hn : n < 192) : L.writeLnd (Reg.lndEst n) v = L.writeLndEst n v := by
  have ho : Reg.lndEst n - 0x10050000 = 16 * n + 12 := by simp only [Reg.lndEst]; omega
  have hi : (16 * n + 12) / 16 = n := by omega
  rw [Lane.writeLnd, ho, if_neg (by omega), if_pos ⟨by omega, by omega⟩, hi]

/-- SEED written 1 (R153): the estimate is D_INIT, and no miss stands. -/
theorem Lane.writeLndCtrl_of_seed (L : Lane) {n : Nat} {v : Word} (hn : n < 192) (hseed : v.getLsbD 2 = true) :
    L.writeLndCtrl n v = ((L.setReg (Reg.lndCtrl n) (L.written (Reg.lndCtrl n) v)).setReg (Reg.lndEst n)
      (BitVec.ofNat 32 (L.fld (Reg.lndInit n) 0 24 * 256))).setFld (Reg.lndCnt n) 28 4 0 := by
  have hinit : (L.setReg (Reg.lndCtrl n) (L.written (Reg.lndCtrl n) v)).reg (Reg.lndInit n) = L.reg (Reg.lndInit n) :=
    (Lane.reg_setReg ..).trans (if_neg (by simp [Reg.lndInit, Reg.lndCtrl]))
  rw [Lane.writeLndCtrl, L.applyCodes_of_unlocked v (regDesc_lndCtrl hn) (by decide) rfl, if_pos hseed, Lane.fld_of_reg_eq hinit]

theorem Lane.quiet_setReg (L : Lane) (a : Nat) (v : Word) : (L.setReg a v).quiet = L.quiet := rfl

theorem exec_seed_of_takesWrite {s : State} {l : LaneId} {n : Fin 192} (v : Word) (h : s.takesWrite l (Reg.lndCtrl n)) :
    exec (.seed l n v) s = .next (s.upd l fun L => L.writeLndCtrl n v).settle := by
  refine (show _ = execSeed l n v s from rfl).trans ((laneCmd_on l s _ h.1.1 h.1.2).trans ?_)
  rw [State.regWrite_lnd v h.2 (by simp only [Reg.lndCtrl]; omega), State.upd, Lane.writeLnd_lndCtrl _ v n.isLt, State.upd]

theorem exec_estimateWrite_of_takesWrite {s : State} {l : LaneId} {n : Fin 192} (v : Word) (h : s.takesWrite l (Reg.lndEst n)) :
    exec (.estimateWrite l n v) s = .next (s.upd l fun L => L.writeLndEst n v).settle := by
  refine (show _ = execEstimateWrite l n v s from rfl).trans ((laneCmd_on l s _ h.1.1 h.1.2).trans ?_)
  rw [State.regWrite_lnd v h.2 (by simp only [Reg.lndEst]; omega), State.upd, Lane.writeLnd_lndEst _ v n.isLt, State.upd]

/-! ### The clauses -/

theorem seed_sets_estimate {s : State} {l : LaneId} {n : Fin 192} {v : Word} (h : s.takesWrite l (Reg.lndCtrl n))
    (hseed : v.getLsbD 2 = true) :
    ∃ u, exec (.seed l n v) s = .next u
      ∧ (u.lane l).reg (Reg.lndEst n) = BitVec.ofNat 32 ((s.lane l).fld (Reg.lndInit n) 0 24 * 256)
      ∧ (u.lane l).fld (Reg.lndCnt n) 28 4 = 0 ∧ (u.lane l).reg (Reg.lndCtrl n) = (s.lane l).written (Reg.lndCtrl n) v
      ∧ s.keeps u hideNone (inLane l [Reg.lndCtrl n, Reg.lndEst n, Reg.lndCnt n]) := by
  have hwrite := (s.lane l).writeLndCtrl_of_seed n.isLt hseed
  have hrest : ((s.lane l).writeLndCtrl n v).quiet = (s.lane l).quiet := by
    rw [hwrite, Lane.setFld, Lane.quiet_setReg, Lane.quiet_setReg, Lane.quiet_setReg]
  refine ⟨_, exec_seed_of_takesWrite v h, ?_, ?_, ?_, State.keeps_settle (State.keeps_upd_regs (fun a ha => ?_) hrest)⟩
  · rw [State.settle_lane_reg, State.lane_upd, hwrite, Lane.reg_setFld, if_neg (by simp [Reg.lndEst, Reg.lndCnt]), Lane.reg_setReg,
      if_pos rfl]
  · rw [State.settle_lane_fld, State.lane_upd, hwrite, Lane.fld_setFld_zero _ _ (by decide)]
  · rw [State.settle_lane_reg, State.lane_upd, hwrite, Lane.reg_setFld, if_neg (by simp [Reg.lndCtrl, Reg.lndCnt]), Lane.reg_setReg,
      if_neg (by simp [Reg.lndCtrl, Reg.lndEst]), Lane.reg_setReg, if_pos rfl]
  · simp only [List.mem_cons, List.not_mem_nil, or_false, not_or] at ha
    obtain ⟨hctrl, hest, hcnt⟩ := ha
    rw [hwrite, Lane.reg_setFld, if_neg hcnt, Lane.reg_setReg, if_neg hest, Lane.reg_setReg, if_neg hctrl]

/-- The estimate is free to be written while EN is 0 or FREEZE is 1 (R153). -/
def Lane.estimateFree (L : Lane) (n : Nat) : Bool := !L.bit (Reg.lndCtrl n) 0 || L.bit (Reg.lndCtrl n) 1

theorem Lane.writeLndEst_of_free {L : Lane} {n : Nat} (v : Word) (h : L.estimateFree n = true) :
    L.writeLndEst n v = L.setReg (Reg.lndEst n) v := if_pos h

theorem Lane.writeLndEst_of_moving {L : Lane} {n : Nat} (v : Word) (h : L.estimateFree n = false) :
    L.writeLndEst n v = if L.oddMember n then L else L.event (Reg.lndEvent n) 5 :=
  if_neg (fun hfree => Bool.false_ne_true (h.symm.trans hfree))

theorem estimateWrite_where_free {s : State} {l : LaneId} {n : Fin 192} {v : Word} (h : s.takesWrite l (Reg.lndEst n)) :
    ∃ u, exec (.estimateWrite l n v) s = .next u
      ∧ (u.lane l).reg (Reg.lndEst n) = (if (s.lane l).estimateFree n then v else (s.lane l).reg (Reg.lndEst n))
      ∧ ((s.lane l).estimateFree n = false → (s.lane l).oddMember n = false → (u.lane l).bit (Reg.lndEvent n) 5 = true)
      ∧ s.keeps u hideNone (inLane l (if (s.lane l).estimateFree n then [Reg.lndEst n] else [Reg.lndEvent n])) := by
  refine ⟨_, exec_estimateWrite_of_takesWrite v h, ?_⟩
  rw [State.settle_lane_reg, State.settle_lane_bit, State.lane_upd]
  cases hfree : (s.lane l).estimateFree n with
  | true =>
    have hwrite := Lane.writeLndEst_of_free v hfree
    refine ⟨?_, fun hf => absurd hf (by decide),
      State.keeps_settle (State.keeps_upd_regs (fun a ha => ?_) (by rw [hwrite, Lane.quiet_setReg]))⟩
    · rw [hwrite, Lane.reg_setReg, if_pos rfl, if_pos rfl]
    · rw [hwrite, Lane.reg_setReg, if_neg fun ha' => ha (by rw [ha']; exact List.mem_singleton_self _)]
  | false =>
    have hwrite := Lane.writeLndEst_of_moving v hfree
    have hreg : ∀ a, a ≠ Reg.lndEvent n → ((s.lane l).writeLndEst n v).reg a = (s.lane l).reg a := by
      intro a ha
      rw [hwrite]
      split
      · rfl
      · rw [Lane.reg_event, if_neg ha]
    refine ⟨?_, fun _ hodd => ?_, State.keeps_settle (State.keeps_upd_regs (fun a ha => hreg a fun ha' => ha ?_) ?_)⟩
    · exact (hreg _ (by simp [Reg.lndEst, Reg.lndEvent])).trans (if_neg Bool.false_ne_true).symm
    · rw [hwrite, hodd]
      exact Lane.bit_event _ _ _ (by decide)
    · rw [ha']
      exact List.mem_singleton_self _
    · rw [hwrite]
      split <;> rfl

theorem window_closes_missing {s : State} {n : Fin 192} {e : Event} (he : (s.chan n).ev = some e) (hd : e.detect.isSome = true)
    (hs : s.sampleSoon n = none) (ht : e.window.2 ≤ s.now) :
    ∃ u, exec (.landingWindowClose n) s = .next u ∧ u.chan n = { s.chan n with ev := some { e with detect := none } }
      ∧ (∀ m, (s.lane m).on = true → (u.lane m).landingQ = (s.lane m).landingQ ++ [⟨n, 2, 0, 0, s.chName n⟩])
      ∧ s.keeps u (hideChan n ∘ hideLandings) (inBoth []) := by
  refine ⟨(s.windowClose n).settle, rfl, ?_⟩
  rw [State.windowClose_of_open he hd hs ht]
  refine ⟨?_, fun m hm => ?_, s.landingVerdict_keeps n _ _ _⟩
  · rw [State.settle_chan, State.report_chan, State.chan_chanUpd s n.isLt]
  · rw [State.settle_lane_landingQ, State.report_landingQ _ _ (by rw [State.chanUpd_lane, hm]), State.chanUpd_lane]

/-- Settles O26. A report at a lane is the pop of its queue and `Lane.landing`, whose parts give the reads; the other rows are
one change each. -/
theorem landingReportsAndEstimates : Obligations.LandingReportsAndEstimates := by
  unfold Obligations.LandingReportsAndEstimates
  intro s l n v
  refine ⟨fun r hfront hruns hch => ?_, fun e he hd hs ht => window_closes_missing he hd hs ht,
    fun h hseed => seed_sets_estimate h hseed, fun h => estimateWrite_where_free h⟩
  obtain ⟨n, hn⟩ := n
  obtain rfl : r.ch = n := hch
  refine ⟨_, exec_landingReport_of_front hfront hruns, ?_, fun hodd hin => ?_, fun hodd hv hout => ?_,
    State.landingReport_keeps_of_odd, s.landingReport_keeps l r⟩
  · rw [State.settle_lane_landingQ, State.lane_upd, Lane.landing_landingQ, Lane.popLanding]
  · simp only [State.settle_lane_bit, State.settle_lane_fld, State.settle_lane_reg, State.lane_upd]
    exact Lane.landing_reads_of_withinClamp (L := (s.lane l).popLanding) hodd hin
  · rw [State.settle_lane_bit, State.settle_lane_fld, State.settle_lane_reg, State.lane_upd]
    exact Lane.landing_reads_of_refused (L := (s.lane l).popLanding) hn hodd hv hout

end Sys2Proof.Machine

/-! The two statements of 07_boost_rails.md: O17 and O18 hold. What a command does to a rail is one function of the rail; what it
reports is a row of changes that set event bits of one register and queue faults, and nothing else. -/

namespace Sys2Proof.Machine

/-! ### Rail k of a state -/

theorem State.rail_railUpd (s : State) {k : Nat} (hk : k < 4) (f : Rail → Rail) : (s.railUpd k f).rail k = f (s.rail k) :=
  vget_vmod_self _ _ _ _ hk

theorem State.rail_of_rails_eq {s u : State} (h : u.rails = s.rails) (k : Nat) : u.rail k = s.rail k := by
  rw [State.rail, h, State.rail]

theorem State.settle_rail (s : State) (k : Nat) : s.settle.rail k = s.rail k := State.rail_of_rails_eq s.settle_rails k

theorem hideRail_hideRail (k : Nat) (s : State) : hideRail k (hideRail k s) = hideRail k s := by
  simp only [hideRail, State.railUpd, vmod_vmod]

theorem State.keeps_railUpd (s : State) (k : Nat) (f : Rail → Rail) (as : LaneId → List Nat) :
    s.keeps (s.railUpd k f) (hideRail k) as := by
  refine ⟨fun l a _ => by rw [State.railUpd_lane], ?_⟩
  have hrail : ∀ t : State, hideRail k (t.railUpd k f) = hideRail k t := fun t => by
    simp only [hideRail, State.railUpd, vmod_vmod]
  exact hrail s.quiet

/-! ### Reports of an event register to both lanes -/

/-- A change of both running lanes in the registers listed, and in a part that is hidden. -/
theorem State.keeps_both_hiding (s : State) {f g : Lane → Lane} {as : List Nat}
    (hreg : ∀ L a, a ∉ as → (f L).reg a = L.reg a) (hrest : ∀ L : Lane, g (f L).quiet = g L.quiet) :
    s.keeps (s.both f) (hideInBoth g) (inBoth as) := by
  refine ⟨fun l a ha => ?_, ?_⟩
  · rw [State.both_lane]
    split
    · exact hreg _ a ha
    · rfl
  · have hl : ∀ L : Lane, g (if L.on then f L else L).quiet = g L.quiet := by
      intro L
      split
      · exact hrest L
      · rfl
    calc hideInBoth g (s.both f).quiet
        = { s.blank with
            laneA := g (Lane.quiet (if s.laneA.on then f s.laneA else s.laneA))
            laneB := g (Lane.quiet (if s.laneB.on then f s.laneB else s.laneB)) } := rfl
      _ = hideInBoth g s.quiet := by rw [hl, hl]; rfl

theorem Lane.quiet_raise (L : Lane) (k : Kind) (inst w1 : Nat) :
    { (L.raise k inst w1).quiet with fltQ := [], fltHeld := [] } = { L.quiet with fltQ := [], fltHeld := [] } := by
  unfold Lane.raise Lane.raiseBy
  obtain ⟨-, hq⟩ | ⟨-, -, hq⟩ | ⟨-, -, hq⟩ := L.queueFault_cases _ <;> rw [hq] <;> rfl

/-- State u is state s but for event bits of register a newly set in running lanes, and for fault messages. -/
structure State.reportsAt (a : Nat) (s u : State) : Prop where
  keeps : s.keeps u hideFaults (inBoth [a, Reg.fltLost])
  flags : ∀ l i, i < 32 → (s.lane l).bit a i = true → (u.lane l).bit a i = true

section Reports
variable {a : Nat} {s u v : State}

theorem State.reportsAt_refl (a : Nat) (s : State) : State.reportsAt a s s := ⟨⟨fun _ _ _ => rfl, rfl⟩, fun _ _ _ h => h⟩

theorem State.reportsAt_trans (h : State.reportsAt a s u) (g : State.reportsAt a u v) : State.reportsAt a s v :=
  ⟨State.keeps_trans h.keeps g.keeps, fun l i hi hb => g.flags l i hi (h.flags l i hi hb)⟩

theorem State.reportsAt_event (a i : Nat) (hi : i < 32) (s : State) : State.reportsAt a s (s.both fun L => L.event a i) := by
  refine ⟨State.keeps_both s (f := fun L => L.event a i) (fun _ => rfl) (fun L b hb => by rw [Lane.reg_event, if_neg hb])
    (List.mem_cons_self ..) _, fun l j hj hb => ?_⟩
  rw [State.both_lane]
  split
  · by_cases hji : j = i
    · rw [hji]
      exact Lane.bit_event _ _ _ hi
    · rw [Lane.bit_event_other _ _ _ _ _ hi hj (.inr hji), hb]
  · exact hb

theorem State.reportsAt_raiseBoth (ha : a ≠ Reg.fltLost) (s : State) (k : Kind) (inst w1 : Nat) :
    State.reportsAt a s (s.raiseBoth k inst w1) := by
  have hreg : ∀ (L : Lane) b, b ≠ Reg.fltLost → (L.raise k inst w1).reg b = L.reg b := fun L _ hb => L.reg_raise_of_ne k inst w1 hb
  refine ⟨s.keeps_both_hiding (f := fun L => L.raise k inst w1) (fun L b hb => hreg L b fun h => hb (by simp [h]))
    fun L => L.quiet_raise k inst w1, fun l i _ hb => ?_⟩
  refine (congrArg (Lane.bit · a i) (s.both_lane (fun L => L.raise k inst w1) l)).trans ?_
  split
  · rw [Lane.bit_of_reg_eq (hreg _ _ ha), hb]
  · exact hb

theorem State.reportsAt_ite {c : Prop} [Decidable c] {s u v : State} (hu : c → State.reportsAt a s u)
    (hv : ¬ c → State.reportsAt a s v) : State.reportsAt a s (if c then u else v) := by
  split
  · exact hu ‹_›
  · exact hv ‹_›

theorem State.reportsAt.rails (h : State.reportsAt a s u) : u.rails = s.rails := (congrArg State.rails h.keeps.2 :)

theorem State.reportsAt.on (h : State.reportsAt a s u) (l : LaneId) : (u.lane l).on = (s.lane l).on := by
  cases l
  · exact (congrArg (fun t : State => t.laneA.on) h.keeps.2 :)
  · exact (congrArg (fun t : State => t.laneB.on) h.keeps.2 :)

theorem State.reportsAt.reg (h : State.reportsAt a s u) {b : Nat} (hb : b ∉ [a, Reg.fltLost]) (l : LaneId) :
    (u.lane l).reg b = (s.lane l).reg b := h.keeps.1 l b hb

theorem State.flagged_both_event (s : State) (a : Nat) {i : Nat} (hi : i < 32) : s.flagged (s.both fun L => L.event a i) a i := by
  intro l hon
  rw [State.both_lane, if_pos hon]
  exact Lane.bit_event _ _ _ hi

theorem State.flagged_of_on {i : Nat} (hon : ∀ l, (u.lane l).on = (s.lane l).on) (h : u.flagged v a i) : s.flagged v a i :=
  fun l hl => h l ((hon l).trans hl)

/-- Later reports leave a flag set. -/
theorem State.reportsAt.flagged (h : State.reportsAt a u v) {i : Nat} (hi : i < 32) (hf : s.flagged u a i) : s.flagged v a i :=
  fun l hl => h.flags l i hi (hf l hl)

theorem State.flagged_settle {i : Nat} (h : s.flagged u a i) : s.flagged u.settle a i := fun l hl => by
  rw [State.settle_lane_bit, h l hl]

end Reports

/-- An event bit with its fault. -/
theorem State.reportsAt_event_raiseBoth {a i : Nat} (ha : a ≠ Reg.fltLost) (hi : i < 32) (s : State) (k : Kind) (inst : Nat) :
    State.reportsAt a s ((s.both fun L => L.event a i).raiseBoth k inst) :=
  State.reportsAt_trans (State.reportsAt_event a i hi s) (State.reportsAt_raiseBoth ha _ k inst 0)

theorem State.flagged_event_raiseBoth {a i : Nat} (ha : a ≠ Reg.fltLost) (hi : i < 32) (s : State) (k : Kind) (inst : Nat) :
    s.flagged ((s.both fun L => L.event a i).raiseBoth k inst) a i :=
  (State.reportsAt_raiseBoth ha _ k inst 0).flagged hi (s.flagged_both_event a hi)

theorem bstEvent_ne_fltLost (k : Nat) : Reg.bstEvent k ≠ Reg.fltLost := by
  simp only [Reg.bstEvent, Reg.fltLost]
  omega

/-- A change of rail k that is then reported. -/
theorem State.railReported_keeps {s u : State} {k : Nat} {f : Rail → Rail} (h : State.reportsAt (Reg.bstEvent k) (s.railUpd k f) u) :
    s.keeps u (hideRail k ∘ hideFaults) (inBoth [Reg.bstEvent k, Reg.fltLost]) :=
  State.keeps_trans
    (State.keeps_weaken (s.keeps_railUpd k f _) (fun x => hideRail_hideRail k (hideFaults x)) fun _ => List.Subset.refl _)
    (State.keeps_weaken h.keeps (fun _ => rfl) fun _ => List.Subset.refl _)

/-! ### A measurement at its rail (R160 to R165) -/

/-- The target of a rail that charges (R160, R162). -/
def Rail.target (r : Rail) (now : Nat) : Nat := if r.state == .ramp then r.rampTarget now else r.vset

/-- The ramp has reached VSET (R163). -/
def Rail.rampOver (r : Rail) (now : Nat) : Bool := r.state == .ramp && decide (r.vset ≤ r.target now)

/-- Over-voltage at a measurement of v (R164). -/
def Rail.overVoltage (r : Rail) (v : Nat) : Bool := if r.ov then decide (r.ovLevel ≤ v + r.win) else decide (r.ovLevel ≤ v)

/-- Charging after a measurement of v (R160). -/
def Rail.charges (r : Rail) (now v : Nat) : Bool :=
  (r.state == .ramp || r.state == .reg) && (if r.target now ≤ v then false else if v + r.win ≤ r.target now then true else r.charging)

/-- Measurements below UV in a row, with this one (R165). -/
def Rail.underRun (r : Rail) (v : Nat) : Nat :=
  if r.state == .reg && decide (v < bits r.thresh 9 9 * 8) then min (r.uvRun + 1) 11 else 0

/-- UV was raised, and the rail has not been at or above MIN since (R165). -/
def Rail.uvKnown (r : Rail) (v : Nat) : Bool := r.uvRaised && decide (v < bits r.thresh 0 9 * 8)

/-- The rail after a measurement of v. -/
def Rail.measured (r : Rail) (now v : Nat) : Rail :=
  { r with
    vPrev := if r.vAt < now then r.v else r.vPrev, v := v, vAt := now, ilimIn := r.ilim
    ov := r.overVoltage v
    uvRaised := r.underRun v == 10 || r.uvKnown v
    state := if r.rampOver now then .reg else r.state
    charging := r.charges now v
    chargeAt := if !r.charges now v then none else if r.rampOver now then some now else some (r.chargeAt.getD now)
    lagAt := if r.state == .ramp && !r.rampOver now && decide (v + 160 < r.target now) then some (r.lagAt.getD now) else none
    uvRun := r.underRun v }

/-- BSTk_MIN keeps the lowest value (R168). -/
def Lane.railMin (k v : Nat) (L : Lane) : Lane := if v < L.fld (Reg.bstMin k) 0 12 then L.setFld (Reg.bstMin k) 0 12 v else L

/-- What a measurement of rail k that was r reports: the end of the ramp, over-voltage as it begins, and UV. -/
def State.measureReports (s : State) (k : Nat) (r : Rail) (now v : Nat) : State :=
  let s := if r.rampOver now then s.rFlag k 0 else s
  let s := if r.overVoltage v && !r.ov then (s.rFlag k 2).raiseBoth .bstOv k else s
  if r.underRun v == 10 then (if r.uvKnown v then s.rFlag k 1 else (s.rFlag k 1).raiseBoth .bstUv k) else s

theorem State.railMeasure_eq (s : State) (k v : Nat) :
    s.railMeasure k v =
      ((s.railUpd k fun _ => (s.rail k).measured s.now v).both (Lane.railMin k v)).measureReports k (s.rail k) s.now v := by
  have hrail : (s.rail k).measured s.now v =
      let r3 := { (s.rail k).measured s.now v with uvRaised := (s.rail k).uvKnown v }
      if (s.rail k).underRun v == 10 then { r3 with uvRaised := true } else r3 := by
    dsimp only
    split <;> simp_all [Rail.measured]
  rw [hrail]
  rfl

/-! ### What a measurement reports -/

section Measured
variable (s : State) (k : Nat) (r : Rail) (now v : Nat)

theorem State.reportsAt_ovReport : State.reportsAt (Reg.bstEvent k) s ((s.rFlag k 2).raiseBoth .bstOv k) :=
  State.reportsAt_event_raiseBoth (bstEvent_ne_fltLost k) (by decide) s _ _

theorem State.reportsAt_uvReport :
    State.reportsAt (Reg.bstEvent k) s (if r.uvKnown v then s.rFlag k 1 else (s.rFlag k 1).raiseBoth .bstUv k) :=
  State.reportsAt_ite (fun _ => State.reportsAt_event _ 1 (by decide) s)
    fun _ => State.reportsAt_event_raiseBoth (bstEvent_ne_fltLost k) (by decide) s _ _

theorem State.flagged_uvReport :
    s.flagged (if r.uvKnown v then s.rFlag k 1 else (s.rFlag k 1).raiseBoth .bstUv k) (Reg.bstEvent k) 1 := by
  split
  · exact s.flagged_both_event _ (by decide)
  · exact State.flagged_event_raiseBoth (bstEvent_ne_fltLost k) (by decide) s _ _

theorem State.measureReports_reportsAt :
    State.reportsAt (Reg.bstEvent k) s (s.measureReports k r now v)
      ∧ (r.rampOver now = true → s.flagged (s.measureReports k r now v) (Reg.bstEvent k) 0)
      ∧ (r.overVoltage v = true → r.ov = false → s.flagged (s.measureReports k r now v) (Reg.bstEvent k) 2)
      ∧ (r.underRun v = 10 → s.flagged (s.measureReports k r now v) (Reg.bstEvent k) 1) := by
  unfold State.measureReports
  extract_lets s1 s2
  have h1 : State.reportsAt (Reg.bstEvent k) s s1 :=
    State.reportsAt_ite (fun _ => State.reportsAt_event _ 0 (by decide) s) fun _ => State.reportsAt_refl _ s
  have h2 : State.reportsAt (Reg.bstEvent k) s1 s2 :=
    State.reportsAt_ite (fun _ => s1.reportsAt_ovReport k) fun _ => State.reportsAt_refl _ s1
  have h3 : State.reportsAt (Reg.bstEvent k) s2
      (if r.underRun v == 10 then (if r.uvKnown v then s2.rFlag k 1 else (s2.rFlag k 1).raiseBoth .bstUv k) else s2) :=
    State.reportsAt_ite (fun _ => s2.reportsAt_uvReport k r v) fun _ => State.reportsAt_refl _ s2
  refine ⟨State.reportsAt_trans (State.reportsAt_trans h1 h2) h3, fun hramp => ?_, fun hov hnew => ?_, fun huv => ?_⟩
  · refine (State.reportsAt_trans h2 h3).flagged (by decide) ?_
    rw [show s1 = s.rFlag k 0 from if_pos hramp]
    exact s.flagged_both_event _ (by decide)
  · refine h3.flagged (by decide) (State.flagged_of_on h1.on ?_)
    rw [show s2 = (s1.rFlag k 2).raiseBoth .bstOv k from if_pos (by rw [hov, hnew]; rfl)]
    exact State.flagged_event_raiseBoth (bstEvent_ne_fltLost k) (by decide) s1 _ _
  · rw [if_pos (by rw [huv]; rfl)]
    exact State.flagged_of_on (State.reportsAt_trans h1 h2).on (s2.flagged_uvReport k r v)

end Measured

theorem Lane.reg_railMin (L : Lane) (k v : Nat) {a : Nat} (h : a ≠ Reg.bstMin k) : (L.railMin k v).reg a = L.reg a := by
  unfold Lane.railMin
  split
  · rw [Lane.reg_setFld, if_neg h]
  · rfl

theorem Lane.quiet_railMin (L : Lane) (k v : Nat) : (L.railMin k v).quiet = L.quiet := by
  unfold Lane.railMin
  split <;> rfl

theorem Lane.on_railMin (L : Lane) (k v : Nat) : (L.railMin k v).on = L.on := by
  unfold Lane.railMin
  split <;> rfl

theorem Lane.fld_railMin (L : Lane) (k : Nat) {v : Nat} (hv : v < 2 ^ 12) :
    (L.railMin k v).fld (Reg.bstMin k) 0 12 = min v (L.fld (Reg.bstMin k) 0 12) := by
  unfold Lane.railMin
  split
  · rw [Lane.fld_setFld_same _ _ _ (by decide), Nat.mod_eq_of_lt hv, Nat.min_eq_left (by omega)]
  · rw [Nat.min_eq_right (by omega)]

section Measurement
variable (s : State) (k v : Nat)

/-- The state in which a measurement of rail k reports: the rail has taken it, and BSTk_MIN is kept. -/
def State.railTaken : State := (s.railUpd k fun _ => (s.rail k).measured s.now v).both (Lane.railMin k v)

theorem State.railTaken_lane (l : LaneId) :
    (s.railTaken k v).lane l = if (s.lane l).on then (s.lane l).railMin k v else s.lane l := by
  rw [State.railTaken, State.both_lane, State.railUpd_lane]

theorem State.railTaken_on (l : LaneId) : ((s.railTaken k v).lane l).on = (s.lane l).on := by
  rw [State.railTaken_lane]
  split
  · exact Lane.on_railMin _ _ _
  · rfl

theorem State.railTaken_keeps : s.keeps (s.railTaken k v) (hideRail k) (inBoth [Reg.bstMin k]) :=
  State.keeps_trans (s.keeps_railUpd k _ _) (State.keeps_both _ (fun L => L.quiet_railMin k v)
    (fun L _ hb => L.reg_railMin k v hb) (List.mem_singleton_self _) _)

theorem State.railMeasure_reportsAt :
    State.reportsAt (Reg.bstEvent k) (s.railTaken k v) (s.railMeasure k v)
      ∧ ((s.rail k).rampOver s.now = true → s.flagged (s.railMeasure k v) (Reg.bstEvent k) 0)
      ∧ ((s.rail k).overVoltage v = true → (s.rail k).ov = false → s.flagged (s.railMeasure k v) (Reg.bstEvent k) 2)
      ∧ ((s.rail k).underRun v = 10 → s.flagged (s.railMeasure k v) (Reg.bstEvent k) 1) := by
  rw [State.railMeasure_eq]
  obtain ⟨h, hramp, hov, huv⟩ := (s.railTaken k v).measureReports_reportsAt k (s.rail k) s.now v
  have hon := State.railTaken_on s k v
  exact ⟨h, fun hc => State.flagged_of_on hon (hramp hc), fun hc hn => State.flagged_of_on hon (hov hc hn),
    fun hc => State.flagged_of_on hon (huv hc)⟩

theorem State.railMeasure_rail (hk : k < 4) : (s.railMeasure k v).rail k = (s.rail k).measured s.now v := by
  rw [State.rail_of_rails_eq (s.railMeasure_reportsAt k v).1.rails]
  exact s.rail_railUpd hk _

theorem State.railMeasure_bstMin {l : LaneId} (hon : (s.lane l).on = true) (hv : v < 2 ^ 12) :
    ((s.railMeasure k v).lane l).fld (Reg.bstMin k) 0 12 = min v ((s.lane l).fld (Reg.bstMin k) 0 12) := by
  have hmin : Reg.bstMin k ∉ [Reg.bstEvent k, Reg.fltLost] := by
    simp only [Reg.bstMin, Reg.bstEvent, Reg.fltLost, List.mem_cons, List.not_mem_nil, or_false]
    omega
  rw [Lane.fld_of_reg_eq ((s.railMeasure_reportsAt k v).1.reg hmin l), State.railTaken_lane, if_pos hon, Lane.fld_railMin _ _ hv]

theorem State.railMeasure_keeps :
    s.keeps (s.railMeasure k v) (hideRail k ∘ hideFaults) (inBoth [Reg.bstEvent k, Reg.bstMin k, Reg.fltLost]) :=
  State.keeps_trans
    (State.keeps_weaken (s.railTaken_keeps k v) (fun x => hideRail_hideRail k (hideFaults x)) fun _ => by simp [inBoth])
    (State.keeps_weaken (s.railMeasure_reportsAt k v).1.keeps (fun _ => rfl) fun _ => by simp [inBoth])

end Measurement

theorem Rail.target_eq (r : Rail) (now : Nat) : r.target now = if r.state = .ramp then r.rampTarget now else r.vset := by
  simp only [Rail.target, beq_iff_eq]

theorem Rail.rampOver_iff (r : Rail) (now : Nat) : r.rampOver now = true ↔ r.state = .ramp ∧ r.vset ≤ r.target now := by
  simp only [Rail.rampOver, Bool.and_eq_true, beq_iff_eq, decide_eq_true_eq]

theorem Rail.underRun_of_below {r : Rail} {v : Nat} (hreg : r.state = .reg) (hv : v < bits r.thresh 9 9 * 8) (h : r.uvRun = 9) :
    r.underRun v = 10 := by
  rw [Rail.underRun, hreg, h, decide_eq_true hv]
  rfl

/-! ### The switching cycle and the stops of a controller (R161, R163) -/

section Stops
variable {s : State} {k : Nat}

/-- The controller regulates: RAMP or REG. -/
theorem Rail.regulates_of {r : Rail} (h : r.state = .ramp ∨ r.state = .reg) : (r.state == .ramp || r.state == .reg) = true := by
  rcases h with h | h <;> rw [h] <;> rfl

theorem State.cycleStart_of_due (hstate : (s.rail k).state = .ramp ∨ (s.rail k).state = .reg) (hcharging : (s.rail k).charging = true)
    (hfet : (s.rail k).fet = false) (hov : (s.rail k).ov = false) (hoff : (s.rail k).fetAt + (s.rail k).toffIn ≤ s.now) :
    s.cycleStart k = s.railUpd k fun r => { r with fet := true, fetAt := s.now, toffIn := r.toff } :=
  if_pos (by simp only [Rail.regulates_of hstate, hcharging, hfet, hov, hoff, Bool.not_false, Bool.and_self, decide_true])

theorem State.fetOff_of_on {byLimit : Bool} {k : Fin 4} (hfet : (s.rail k).fet = true)
    (hlimit : byLimit = true → (s.rail k).fetAt + 4000 ≤ s.now ∧ Instr.boostFetOff k false ∉ s.pending) :
    s.fetOff k byLimit =
      s.railUpd k fun r => { r with fet := false, fetAt := s.now, limitRun := if byLimit then r.limitRun + 1 else 0 } := by
  unfold State.fetOff
  extract_lets r ilim
  cases byLimit with
  | false => exact if_neg (by simp [r, hfet])
  | true =>
    obtain ⟨hat, hnone⟩ := hlimit rfl
    have hilim : ilim = false := by
      refine List.any_eq_false.2 fun i hi => ?_
      split
      · rename_i k' b
        rintro h
        simp only [Bool.and_eq_true, beq_iff_eq, Bool.not_eq_true'] at h
        obtain ⟨hk, rfl⟩ := h
        exact hnone (Fin.ext hk ▸ hi)
      · exact Bool.false_ne_true
    exact if_neg (by simp [r, hfet, hilim, hat])

theorem State.senseFault_of_run (hstate : (s.rail k).state = .ramp ∨ (s.rail k).state = .reg) (hrun : 16 ≤ (s.rail k).limitRun) :
    s.senseFault k = s.railStop k 4 .bstSenseFault :=
  if_pos (by simp only [Rail.regulates_of hstate, hrun, Bool.and_self, decide_true])

/-- Since when a rail has lagged its ramp, or charges in REG. -/
def Rail.chargeSince (r : Rail) : Option Nat :=
  match r.state with
  | .ramp => r.lagAt
  | .reg => r.chargeAt
  | _ => none

theorem State.chgTimeout_of_late {k : Fin 4} {t : Nat} (hsince : (s.rail k).chargeSince = some t) (hlate : t + 4000000 ≤ s.now)
    (hnone : ∀ j v, Instr.railMeasurement j v ∈ s.pending → j ≠ k) : s.chgTimeout k = s.railStop k 3 .bstChgTimeout := by
  unfold State.chgTimeout
  extract_lets r soon late
  have hsoon : ∀ lim, soon lim = false := fun lim => by
    refine List.any_eq_false.2 fun i hi => ?_
    split
    · rename_i k' v
      simp only [Bool.and_eq_true, beq_iff_eq, not_and]
      exact fun hk => absurd (Fin.ext hk) (hnone k' v hi)
    · exact Bool.false_ne_true
  have hlate' : late (some t) = true := decide_eq_true hlate
  have hsince' : r.chargeSince = some t := hsince
  unfold Rail.chargeSince at hsince'
  cases hstate : r.state with
  | ramp | reg =>
    simp only [hstate] at hsince' ⊢
    simp only [hsince', hlate', hsoon, Bool.not_false, Bool.and_self, if_true]
  | off | stopped => simp [hstate] at hsince'

/-- A controller that stops is STOPPED with FET and charging off, and the flag is set. -/
theorem State.railStop_stops (hk : k < 4) {flag : Nat} (hflag : flag < 32) (kind : Kind) :
    ((s.railStop k flag kind).settle.rail k).state = .stopped ∧ ((s.railStop k flag kind).settle.rail k).fet = false
      ∧ ((s.railStop k flag kind).settle.rail k).charging = false ∧ s.flagged (s.railStop k flag kind).settle (Reg.bstEvent k) flag
      ∧ s.keeps (s.railStop k flag kind).settle (hideRail k ∘ hideFaults) (inBoth [Reg.bstEvent k, Reg.fltLost]) := by
  have hreport : State.reportsAt (Reg.bstEvent k) (s.railUpd k fun r => r.stop s.now) (s.railStop k flag kind) :=
    State.reportsAt_event_raiseBoth (bstEvent_ne_fltLost k) hflag _ kind k
  have hrail : (s.railStop k flag kind).settle.rail k = (s.rail k).stop s.now := by
    rw [State.settle_rail, State.rail_of_rails_eq hreport.rails, State.rail_railUpd _ hk]
  rw [hrail]
  refine ⟨rfl, rfl, rfl, State.flagged_settle (State.flagged_of_on (u := s.railUpd k fun r => r.stop s.now) (fun l => ?_) ?_),
    State.keeps_settle (State.railReported_keeps hreport)⟩
  · rw [State.railUpd_lane]
  · exact State.flagged_event_raiseBoth (bstEvent_ne_fltLost k) hflag _ kind k

/-- A change of rail k alone. -/
theorem State.railUpd_alone (s : State) (hk : k < 4) (f : Rail → Rail) :
    (s.railUpd k f).settle.rail k = f (s.rail k) ∧ s.keeps (s.railUpd k f).settle (hideRail k) (inBoth []) :=
  ⟨by rw [State.settle_rail, State.rail_railUpd _ hk], State.keeps_settle (s.keeps_railUpd k f _)⟩

end Stops

theorem exec_railMeasurement (k : Fin 4) (v : BitVec 12) (s : State) :
    exec (.railMeasurement k v) s = .next (s.railMeasure k v.toNat).settle := rfl

theorem exec_boostCycleStart (k : Fin 4) (s : State) : exec (.boostCycleStart k) s = .next (s.cycleStart k).settle := rfl

theorem exec_boostFetOff (k : Fin 4) (byLimit : Bool) (s : State) :
    exec (.boostFetOff k byLimit) s = .next (s.fetOff k byLimit).settle := rfl

theorem exec_senseFault (k : Fin 4) (s : State) : exec (.senseFault k) s = .next (s.senseFault k).settle := rfl

theorem exec_chgTimeout (k : Fin 4) (s : State) : exec (.chgTimeout k) s = .next (s.chgTimeout k).settle := rfl

/-- Settles O17. A measurement is `Rail.measured` at its rail with the reports of the rail as it was; the other rows are one
change of the rail each, and a stop has its report. -/
theorem railMeasurements : Obligations.RailMeasurements := by
  unfold Obligations.RailMeasurements
  intro s k v
  refine ⟨⟨_, exec_railMeasurement k v s, ?_⟩, fun hstate hcharging hfet hov hoff => ?_, fun byLimit hfet hlimit => ?_,
    fun hstate hrun => ?_, fun t hsince hlate hnone => ?_⟩
  · obtain ⟨-, hramp, hov, huv⟩ := s.railMeasure_reportsAt k v.toNat
    simp only [State.settle_rail, s.railMeasure_rail k v.toNat k.isLt, ← Rail.target_eq, ← Rail.rampOver_iff]
    refine ⟨rfl, rfl, rfl, fun hlt => if_pos hlt, rfl, rfl, fun hc => State.flagged_settle (hramp hc), rfl,
      fun hc hn => State.flagged_settle (hov hc hn), fun hreg hv hrun => State.flagged_settle (huv (Rail.underRun_of_below hreg hv hrun)),
      fun l hon => ?_, rfl, rfl, rfl, rfl, State.keeps_settle (s.railMeasure_keeps k v.toNat)⟩
    rw [State.settle_lane_fld, s.railMeasure_bstMin k v.toNat hon v.isLt]
  · rw [exec_boostCycleStart, State.cycleStart_of_due hstate hcharging hfet hov hoff]
    exact ⟨_, rfl, s.railUpd_alone k.isLt _⟩
  · rw [exec_boostFetOff, State.fetOff_of_on hfet hlimit]
    exact ⟨_, rfl, s.railUpd_alone k.isLt _⟩
  · rw [exec_senseFault, State.senseFault_of_run hstate hrun]
    exact ⟨_, rfl, State.railStop_stops k.isLt (by decide) _⟩
  · rw [exec_chgTimeout, State.chgTimeout_of_late hsince hlate fun j w hj hk => absurd (hnone _ hj) (by simp [hk])]
    exact ⟨_, rfl, State.railStop_stops k.isLt (by decide) _⟩

/-! ### Settings at a rail's controller (R159, R162, R163) -/

/-- The controller as settings reach it; `written`: BSTk_CTRL was written, `safe`: safe state, or VSUP absent. -/
def Rail.settled (r : Rail) (ctrl set thresh : Word) (written safe : Bool) (now : Nat) : Rail :=
  let r := { r with ctrl := ctrl, set := set, thresh := thresh, enOwed := false }
  if !ctrl.getLsbD 0 then (if written then r.toOff now else r)
  else if written && r.state == .off && !safe then { r with state := .ramp, enAt := now, v0 := r.v, lagAt := none, limitRun := 0 }
  else r

section Settled
variable (r : Rail) (ctrl set thresh : Word) (written safe : Bool) (now : Nat)

theorem Rail.settled_settings : (r.settled ctrl set thresh written safe now).ctrl = ctrl
    ∧ (r.settled ctrl set thresh written safe now).set = set ∧ (r.settled ctrl set thresh written safe now).thresh = thresh := by
  unfold Rail.settled
  dsimp only
  split
  · split <;> exact ⟨rfl, rfl, rfl⟩
  · split <;> exact ⟨rfl, rfl, rfl⟩

theorem Rail.settled_of_enable (hen : ctrl.getLsbD 0 = true) (hoff : r.state = .off) :
    (r.settled ctrl set thresh true false now).state = .ramp ∧ (r.settled ctrl set thresh true false now).enAt = now
      ∧ (r.settled ctrl set thresh true false now).v0 = r.v := by
  unfold Rail.settled
  dsimp only
  rw [if_neg (by rw [hen]; decide), if_pos (by rw [hoff]; rfl)]
  exact ⟨rfl, rfl, rfl⟩

theorem Rail.settled_of_disable (hen : ctrl.getLsbD 0 = false) :
    (r.settled ctrl set thresh true safe now).state = .off ∧ (r.settled ctrl set thresh true safe now).fet = false
      ∧ (r.settled ctrl set thresh true safe now).charging = false := by
  unfold Rail.settled
  dsimp only
  rw [if_pos (by rw [hen]; rfl), if_pos rfl]
  exact ⟨rfl, rfl, rfl⟩

end Settled

/-- A rail is not enabled in safe state at its die, or while VSUP is absent (R163, R426). -/
def State.railHeld (s : State) (k : Nat) : Bool := (s.die (3 * k)).auth == .safe || s.vsupLow

theorem State.railHeld_of {s : State} {k : Nat} (hauth : (s.die (3 * k)).auth ≠ .safe) (hv : s.vsupLow = false) :
    s.railHeld k = false := by
  rw [State.railHeld, hv, Bool.or_false]
  exact beq_false_of_ne hauth

theorem State.railApply_eq (s : State) (k : Nat) (ctrl set thresh : Word) (written : Bool) :
    s.railApply k ctrl set thresh written = s.railUpd k fun r => r.settled ctrl set thresh written (s.railHeld k) s.now := rfl

/-! ### The marks of what was sent -/

theorem putBit_putBit {w : Nat} (v : BitVec w) (i : Nat) (b : Bool) : putBit (putBit v i b) i false = putBit v i false := by
  apply BitVec.eq_of_getLsbD_eq
  intro j hj
  cases b <;> simp only [putBit, if_true, Bool.false_eq_true, if_false, BitVec.getLsbD_and, BitVec.getLsbD_or, BitVec.getLsbD_not]
    <;> cases (BitVec.ofNat w (2 ^ i)).getLsbD j <;> simp

theorem putBit_getLsbD {w : Nat} (v : BitVec w) {i : Nat} (hi : i < w) (b : Bool) : (putBit v i b).getLsbD i = b := by
  have hbit : (BitVec.ofNat w (2 ^ i)).getLsbD i = true := by
    rw [BitVec.getLsbD_ofNat, decide_eq_true hi, Nat.testBit_two_pow_self]
    rfl
  cases b <;> simp only [putBit, if_true, Bool.false_eq_true, if_false, BitVec.getLsbD_and, BitVec.getLsbD_or, BitVec.getLsbD_not, hbit]
    <;> simp

/-- A lane whose write of BSTk_CTRL is no longer marked as sent. -/
def Lane.unsent (k : Nat) (L : Lane) : Lane := { L with railSent := putBit L.railSent k false }

theorem Lane.unsent_unsent (k : Nat) (L : Lane) : (L.unsent k).unsent k = L.unsent k := by
  simp only [Lane.unsent, putBit_putBit]

theorem hideInBoth_unsent_twice (k : Nat) (s : State) :
    hideInBoth (Lane.unsent k) (hideInBoth (Lane.unsent k) s) = hideInBoth (Lane.unsent k) s := by
  simp only [hideInBoth, Lane.unsent_unsent]

/-- The marks of rail k go in both running lanes. -/
def State.clearSent (s : State) (k : Nat) : State := s.both (Lane.unsent k)

section ClearSent
variable (s : State) (k : Nat)

theorem State.clearSent_reg (l : LaneId) (a : Nat) : ((s.clearSent k).lane l).reg a = (s.lane l).reg a := by
  rw [State.clearSent, State.both_lane]
  split <;> rfl

theorem State.clearSent_rail (j : Nat) : (s.clearSent k).rail j = s.rail j := rfl

theorem State.clearSent_keeps (as : LaneId → List Nat) : s.keeps (s.clearSent k) (hideInBoth (Lane.unsent k)) as := by
  refine ⟨fun l a _ => s.clearSent_reg k l a, ?_⟩
  refine (s.keeps_both_hiding (f := Lane.unsent k) (g := Lane.unsent k) (as := []) (fun _ _ _ => rfl) fun L => ?_).2
  exact (Lane.unsent_unsent k L.quiet :)

end ClearSent

/-! ### The arrival of a rail's settings (R159) -/

/-- The registers that hold the settings of rail k. -/
def railSettingRegs (k : Nat) : List Nat := [Reg.bstCtrl k, Reg.bstSet k, Reg.bstThresh k]

theorem State.railAgree_iff (s : State) (k : Nat) :
    s.railAgree k = true ↔ s.compares (otherLane (s.sender (3 * k))) = false
      ∨ ∀ a ∈ railSettingRegs k, (s.lane (s.sender (3 * k))).reg a = (s.lane (otherLane (s.sender (3 * k)))).reg a := by
  simp only [State.railAgree, railSettingRegs, Bool.or_eq_true, Bool.not_eq_true', List.all_eq_true, beq_iff_eq]

section Settings
variable {s : State} {k : Nat}

theorem State.railSettings_of_mismatch (hon : (s.lane (s.sender (3 * k))).on = true) (h : s.railAgree k = false) :
    s.railSettings k = (((s.railUpd k fun r =>
        { r with enOwed := r.enOwed || (s.lane (s.sender (3 * k))).railSent.getLsbD k }).rFlag k 6).raiseBoth .bstSetErr k).clearSent k :=
  (if_neg (by rw [hon]; decide)).trans (if_pos (by rw [h]; rfl))

theorem State.railSettings_of_agree (hon : (s.lane (s.sender (3 * k))).on = true) (h : s.railAgree k = true) :
    s.railSettings k = (s.railUpd k fun r =>
        r.settled ((s.lane (s.sender (3 * k))).reg (Reg.bstCtrl k)) ((s.lane (s.sender (3 * k))).reg (Reg.bstSet k))
          ((s.lane (s.sender (3 * k))).reg (Reg.bstThresh k)) ((s.lane (s.sender (3 * k))).railSent.getLsbD k || (s.rail k).enOwed)
          (s.railHeld k) s.now).clearSent k :=
  (if_neg (by rw [hon]; decide)).trans ((if_neg (by rw [h]; decide)).trans
    (congrArg (State.clearSent · k) (s.railApply_eq k _ _ _ _)))

/-- A mismatch keeps the controller's settings, remembers a write of BSTk_CTRL, and is flagged. -/
theorem State.railSettings_mismatch (hk : k < 4) (hon : (s.lane (s.sender (3 * k))).on = true) (h : s.railAgree k = false) :
    (s.railSettings k).rail k = { s.rail k with enOwed := (s.rail k).enOwed || (s.lane (s.sender (3 * k))).railSent.getLsbD k }
      ∧ s.flagged (s.railSettings k) (Reg.bstEvent k) 6
      ∧ s.keeps (s.railSettings k) (hideRail k ∘ hideFaults ∘ hideInBoth (Lane.unsent k)) (inBoth [Reg.bstEvent k, Reg.fltLost]) := by
  rw [State.railSettings_of_mismatch hon h]
  generalize hf : (fun r : Rail => { r with enOwed := r.enOwed || (s.lane (s.sender (3 * k))).railSent.getLsbD k }) = f
  have hreport : State.reportsAt (Reg.bstEvent k) (s.railUpd k f) (((s.railUpd k f).rFlag k 6).raiseBoth .bstSetErr k) :=
    State.reportsAt_event_raiseBoth (bstEvent_ne_fltLost k) (by decide) _ _ _
  refine ⟨?_, fun l hl => ?_, State.keeps_trans
    (State.keeps_weaken (State.railReported_keeps hreport) (fun x => ?_) fun _ => List.Subset.refl _)
    (State.keeps_weaken (State.clearSent_keeps _ k _) (fun x => ?_) fun _ => List.Subset.refl _)⟩
  · rw [State.clearSent_rail, State.rail_of_rails_eq hreport.rails, State.rail_railUpd _ hk, ← hf]
  · rw [Lane.bit_of_reg_eq (State.clearSent_reg _ k l _)]
    exact State.flagged_event_raiseBoth (bstEvent_ne_fltLost k) (by decide) (s.railUpd k f) .bstSetErr k l
      (by rw [State.railUpd_lane, hl])
  · exact hideRail_hideRail k (hideFaults (hideInBoth (Lane.unsent k) x))
  · exact congrArg (hideRail k ∘ hideFaults) (hideInBoth_unsent_twice k x)

/-- Where the lanes agree the controller takes the sender's settings. -/
theorem State.railSettings_agree (hk : k < 4) (hon : (s.lane (s.sender (3 * k))).on = true) (h : s.railAgree k = true) :
    (s.railSettings k).rail k = (s.rail k).settled ((s.lane (s.sender (3 * k))).reg (Reg.bstCtrl k))
          ((s.lane (s.sender (3 * k))).reg (Reg.bstSet k)) ((s.lane (s.sender (3 * k))).reg (Reg.bstThresh k))
          ((s.lane (s.sender (3 * k))).railSent.getLsbD k || (s.rail k).enOwed) (s.railHeld k) s.now
      ∧ s.keeps (s.railSettings k) (hideRail k ∘ hideInBoth (Lane.unsent k)) (inBoth []) := by
  rw [State.railSettings_of_agree hon h]
  refine ⟨by rw [State.clearSent_rail, State.rail_railUpd _ hk], State.keeps_trans
    (State.keeps_weaken (s.keeps_railUpd k _ _) (fun x => ?_) fun _ => List.Subset.refl _)
    (State.keeps_weaken (State.clearSent_keeps _ k _) (fun x => ?_) fun _ => List.Subset.refl _)⟩
  · exact hideRail_hideRail k (hideInBoth (Lane.unsent k) x)
  · exact congrArg (hideRail k) (hideInBoth_unsent_twice k x)

end Settings

theorem exec_setErr_rail (k : Fin 4) (s : State) : exec (.setErr (.rail k)) s = .next (s.railSettings k).settle := rfl

/-- The clause of the arrival of a rail's settings. -/
theorem rail_settings_arrive {s : State} {k : Fin 4} (hon : (s.lane (s.sender (3 * k))).on = true) :
    let L := s.lane (s.sender (3 * k))
    let M := s.lane (otherLane (s.sender (3 * k)))
    let same := ∀ a ∈ [Reg.bstCtrl k, Reg.bstSet k, Reg.bstThresh k], L.reg a = M.reg a
    let cmp := s.compares (otherLane (s.sender (3 * k)))
    ∃ u, exec (.setErr (.rail k)) s = .next u
      ∧ (cmp = true → ¬same → u.rail k = { s.rail k with enOwed := (s.rail k).enOwed || L.railSent.getLsbD k }
          ∧ s.flagged u (Reg.bstEvent k) 6)
      ∧ (cmp = false ∨ same → (u.rail k).ctrl = L.reg (Reg.bstCtrl k) ∧ (u.rail k).set = L.reg (Reg.bstSet k)
          ∧ (u.rail k).thresh = L.reg (Reg.bstThresh k))
      ∧ s.keeps u (hideRail k ∘ hideFaults ∘ hideInBoth (Lane.unsent k)) (inBoth [Reg.bstEvent k, Reg.fltLost]) := by
  intro L M same cmp
  refine ⟨_, exec_setErr_rail k s, ?_⟩
  rw [State.settle_rail]
  cases h : s.railAgree k with
  | true =>
    obtain ⟨hrail, hkeeps⟩ := State.railSettings_agree k.isLt hon h
    refine ⟨fun hcmp hdiff => ?_, fun _ => ?_,
      State.keeps_settle ⟨fun l a _ => hkeeps.1 l a List.not_mem_nil, congrArg hideFaults hkeeps.2⟩⟩
    · rcases (s.railAgree_iff k).1 h with hno | hsame
      · exact absurd (hcmp.symm.trans hno) (by decide)
      · exact absurd hsame hdiff
    · rw [hrail]
      exact Rail.settled_settings ..
  | false =>
    obtain ⟨hrail, hflag, hkeeps⟩ := State.railSettings_mismatch k.isLt hon h
    refine ⟨fun _ _ => ⟨hrail, State.flagged_settle hflag⟩, fun hsame => ?_, State.keeps_settle hkeeps⟩
    exact absurd (((s.railAgree_iff k).2 hsame).symm.trans h) (by decide)

/-! ### A write of BSTk_CTRL (R159, R163) -/

theorem regDesc_bstCtrl {k : Nat} (hk : k < 4) :
    regDesc (Reg.bstCtrl k) = some { base := 0x10040000, s1 := 32, n1 := 4, rw := 0xffff01, reset := 0x1e0100 } := by
  have hblock : Reg.bstCtrl k / 0x10000 = 0x1004 := by simp only [Reg.bstCtrl]; omega
  have hcovers : RegDesc.covers { base := 0x10040000, s1 := 32, n1 := 4, rw := 0xffff01, reset := 0x1e0100 } (Reg.bstCtrl k) = true := by
    simp [RegDesc.covers, Reg.bstCtrl, hk]
  rw [regDesc, blockRegs, hblock]
  exact List.find?_cons_of_pos hcovers

/-- EN reads as it is written. -/
theorem Lane.written_bstCtrl_en (L : Lane) {k : Nat} (hk : k < 4) (v : Word) :
    (L.written (Reg.bstCtrl k) v).getLsbD 0 = v.getLsbD 0 := by
  simp [Lane.written, regDesc_bstCtrl hk]

/-- Lane l has written v to BSTk_CTRL. -/
def State.boostWritten (s : State) (l : LaneId) (k : Nat) (v : Word) : State :=
  s.upd l fun L => { L.setReg (Reg.bstCtrl k) (L.written (Reg.bstCtrl k) v) with railSent := putBit L.railSent k true }

section BoostWritten
variable (s : State) (l : LaneId) (k : Nat) (v : Word)

theorem State.boostWritten_bstCtrl : ((s.boostWritten l k v).lane l).reg (Reg.bstCtrl k) = (s.lane l).written (Reg.bstCtrl k) v := by
  rw [State.boostWritten, State.lane_upd]
  exact (Lane.reg_setReg ..).trans (if_pos rfl)

theorem State.boostWritten_reg {a : Nat} (h : a ≠ Reg.bstCtrl k) : ((s.boostWritten l k v).lane l).reg a = (s.lane l).reg a := by
  rw [State.boostWritten, State.lane_upd]
  exact (Lane.reg_setReg ..).trans (if_neg h)

theorem State.boostWritten_on (m : LaneId) : ((s.boostWritten l k v).lane m).on = (s.lane m).on := by
  cases l <;> cases m <;> rfl

theorem State.boostWritten_other : (s.boostWritten l k v).lane (otherLane l) = s.lane (otherLane l) :=
  State.lane_upd_other ..

theorem State.boostWritten_sent (hk : k < 4) : ((s.boostWritten l k v).lane l).railSent.getLsbD k = true := by
  rw [State.boostWritten, State.lane_upd]
  exact putBit_getLsbD _ hk true

theorem State.boostWritten_rail (j : Nat) : (s.boostWritten l k v).rail j = s.rail j :=
  State.rail_of_rails_eq (State.upd_rails ..) j

theorem State.boostWritten_now : (s.boostWritten l k v).now = s.now := State.upd_now ..

theorem State.boostWritten_railHeld (j : Nat) : (s.boostWritten l k v).railHeld j = s.railHeld j := by
  cases l <;> rfl

theorem State.boostWritten_sender (d : Nat) : (s.boostWritten l k v).sender d = s.sender d := by
  cases l <;> rfl

theorem State.boostWritten_compares : (s.boostWritten l k v).compares (otherLane l) = s.compares (otherLane l) := by
  cases l <;> rfl

theorem State.boostWritten_keeps : s.keeps (s.boostWritten l k v) (hideInBoth (Lane.unsent k)) (inLane l [Reg.bstCtrl k]) := by
  have hreg : ∀ a, a ∉ [Reg.bstCtrl k] → (Lane.reg { (s.lane l).setReg (Reg.bstCtrl k) ((s.lane l).written (Reg.bstCtrl k) v) with
      railSent := putBit (s.lane l).railSent k true } a) = (s.lane l).reg a := fun a ha =>
    (Lane.reg_setReg ..).trans (if_neg fun h => ha (List.mem_singleton.2 h))
  refine State.keeps_weaken (State.keeps_upd (g := Lane.unsent k) hreg ?_) (fun x => ?_) fun _ => List.Subset.refl _
  · exact congrArg (fun b => { (s.lane l).quiet with railSent := b }) (putBit_putBit _ k true)
  · cases l <;> simp only [hideInBoth, hideIn, State.upd, State.setLane, State.lane, Lane.unsent_unsent]

end BoostWritten

/-- The lanes' settings of rail k are equal once lane l has written v to BSTk_CTRL, or no lane is compared. -/
def State.agreesOn (s : State) (l : LaneId) (k : Nat) (v : Word) : Prop :=
  s.compares (otherLane l) = false ∨ (s.lane l).written (Reg.bstCtrl k) v = (s.lane (otherLane l)).reg (Reg.bstCtrl k)
    ∧ (s.lane l).reg (Reg.bstSet k) = (s.lane (otherLane l)).reg (Reg.bstSet k)
    ∧ (s.lane l).reg (Reg.bstThresh k) = (s.lane (otherLane l)).reg (Reg.bstThresh k)

theorem bstSet_ne_bstCtrl (k : Nat) : Reg.bstSet k ≠ Reg.bstCtrl k := by simp [Reg.bstSet, Reg.bstCtrl]

theorem bstThresh_ne_bstCtrl (k : Nat) : Reg.bstThresh k ≠ Reg.bstCtrl k := by simp [Reg.bstThresh, Reg.bstCtrl]

section BoostWrite
variable {s : State} {l : LaneId} {k : Nat} {v : Word}

theorem State.boostWritten_railAgree (hsender : s.sender (3 * k) = l) :
    (s.boostWritten l k v).railAgree k = true ↔ s.agreesOn l k v := by
  rw [State.railAgree_iff, State.boostWritten_sender, hsender, State.boostWritten_compares, State.boostWritten_other, State.agreesOn]
  simp only [railSettingRegs, List.forall_mem_cons, List.not_mem_nil, false_implies, implies_true, and_true,
    State.boostWritten_bstCtrl, State.boostWritten_reg _ _ _ _ (bstSet_ne_bstCtrl k),
    State.boostWritten_reg _ _ _ _ (bstThresh_ne_bstCtrl k)]

theorem State.boostRow_eq (hk : k < 4) (hheld : (s.lane l).held l (Reg.bstCtrl k) = false) :
    s.boostRow l k v = if (s.boostWritten l k v).railAgree k
        || ((s.boostWritten l k v).laneA.railSent.getLsbD k && (s.boostWritten l k v).laneB.railSent.getLsbD k)
      then (s.boostWritten l k v).railSettings k else s.boostWritten l k v := by
  have hwrite : (s.upd l fun L => { L.applyCodes (Reg.bstCtrl k) v with railSent := putBit L.railSent k true }) = s.boostWritten l k v := by
    simp only [State.boostWritten, Lane.applyCodes_of_unlocked _ v (regDesc_bstCtrl hk) (by decide) rfl]
  rw [State.boostRow, if_neg (by rw [hheld]; decide), State.boostWrite, hwrite]

/-- Both lanes have written BSTk_CTRL just where the other lane had. -/
theorem State.boostWritten_bothSent (hk : k < 4) :
    ((s.boostWritten l k v).laneA.railSent.getLsbD k && (s.boostWritten l k v).laneB.railSent.getLsbD k)
      = (s.lane (otherLane l)).railSent.getLsbD k := by
  have hl := s.boostWritten_sent l k v hk
  have hm := congrArg (·.railSent.getLsbD k) (s.boostWritten_other l k v)
  cases l with
  | a => exact (congrArg (· && _) hl).trans ((Bool.true_and _).trans hm)
  | b => exact (congrArg (_ && ·) hl).trans ((Bool.and_true _).trans hm)

/-- Where the lanes agree, the write is taken with the sender's settings. -/
theorem State.boostRow_agree (hk : k < 4) (h : s.takesWrite l (Reg.bstCtrl k)) (hsender : s.sender (3 * k) = l)
    (hagree : s.agreesOn l k v) :
    (s.boostRow l k v).rail k = (s.rail k).settled ((s.lane l).written (Reg.bstCtrl k) v) ((s.lane l).reg (Reg.bstSet k))
        ((s.lane l).reg (Reg.bstThresh k)) true (s.railHeld k) s.now
      ∧ s.keeps (s.boostRow l k v) (hideRail k ∘ hideInBoth (Lane.unsent k)) (inLane l [Reg.bstCtrl k])
      ∧ ((s.boostRow l k v).lane l).reg (Reg.bstCtrl k) = (s.lane l).written (Reg.bstCtrl k) v := by
  have hequal := (State.boostWritten_railAgree hsender).2 hagree
  have hto : (s.boostWritten l k v).sender (3 * k) = l := (s.boostWritten_sender l k v _).trans hsender
  have hon : ((s.boostWritten l k v).lane l).on = true := (s.boostWritten_on l k v l).trans h.1.2
  rw [State.boostRow_eq hk h.2, if_pos (by rw [hequal, Bool.true_or])]
  obtain ⟨hrail, hkeeps⟩ := State.railSettings_agree (s := s.boostWritten l k v) hk (by rw [hto, hon]) hequal
  refine ⟨?_, State.keeps_trans (State.keeps_weaken (s.boostWritten_keeps l k v) (fun x => ?_) fun _ => List.Subset.refl _)
    ⟨fun m a _ => hkeeps.1 m a List.not_mem_nil, hkeeps.2⟩, ?_⟩
  · rw [hrail, hto, State.boostWritten_bstCtrl, State.boostWritten_reg _ _ _ _ (bstSet_ne_bstCtrl k),
      State.boostWritten_reg _ _ _ _ (bstThresh_ne_bstCtrl k), State.boostWritten_sent _ _ _ _ hk, Bool.true_or,
      State.boostWritten_rail, State.boostWritten_railHeld, State.boostWritten_now]
  · exact congrArg (hideRail k) (hideInBoth_unsent_twice k x)
  · rw [hkeeps.1 l _ List.not_mem_nil, State.boostWritten_bstCtrl]

/-- Where they differ and the other lane has not written, its write is awaited. -/
theorem State.boostRow_wait (hk : k < 4) (h : s.takesWrite l (Reg.bstCtrl k)) (hsender : s.sender (3 * k) = l)
    (hdiff : ¬ s.agreesOn l k v) (hsent : (s.lane (otherLane l)).railSent.getLsbD k = false) :
    s.boostRow l k v = s.boostWritten l k v := by
  have hunequal := Bool.eq_false_iff.2 fun he => hdiff ((State.boostWritten_railAgree hsender).1 he)
  rw [State.boostRow_eq hk h.2, State.boostWritten_bothSent hk, if_neg (by rw [hunequal, hsent]; decide)]

/-- Where they differ once both lanes have written, the controller keeps its settings. -/
theorem State.boostRow_mismatch (hk : k < 4) (h : s.takesWrite l (Reg.bstCtrl k)) (hsender : s.sender (3 * k) = l)
    (hdiff : ¬ s.agreesOn l k v) (hsent : (s.lane (otherLane l)).railSent.getLsbD k = true) :
    (s.boostRow l k v).rail k = { s.rail k with enOwed := true } ∧ s.flagged (s.boostRow l k v) (Reg.bstEvent k) 6
      ∧ s.keeps (s.boostRow l k v) (hideRail k ∘ hideInBoth (Lane.unsent k) ∘ hideFaults)
          (fun m => [Reg.bstEvent k, Reg.fltLost] ++ inLane l [Reg.bstCtrl k] m)
      ∧ ((s.boostRow l k v).lane l).reg (Reg.bstCtrl k) = (s.lane l).written (Reg.bstCtrl k) v := by
  have hunequal := Bool.eq_false_iff.2 fun he => hdiff ((State.boostWritten_railAgree hsender).1 he)
  have hto : (s.boostWritten l k v).sender (3 * k) = l := (s.boostWritten_sender l k v _).trans hsender
  have hon : ((s.boostWritten l k v).lane l).on = true := (s.boostWritten_on l k v l).trans h.1.2
  have hctrl : Reg.bstCtrl k ∉ inBoth [Reg.bstEvent k, Reg.fltLost] l := by
    simp only [inBoth, Reg.bstCtrl, Reg.bstEvent, Reg.fltLost, List.mem_cons, List.not_mem_nil, or_false]
    omega
  rw [State.boostRow_eq hk h.2, State.boostWritten_bothSent hk, hsent, if_pos (Bool.or_true _)]
  obtain ⟨hrail, hflag, hkeeps⟩ := State.railSettings_mismatch (s := s.boostWritten l k v) hk (by rw [hto, hon]) hunequal
  refine ⟨?_, State.flagged_of_on (s.boostWritten_on l k v) hflag, State.keeps_trans
    (State.keeps_weaken (s.boostWritten_keeps l k v) (fun x => ?_) fun _ => List.subset_append_right _ _)
    (State.keeps_weaken hkeeps (fun x => ?_) fun _ => List.subset_append_left _ _), ?_⟩
  · rw [hrail, hto, State.boostWritten_sent _ _ _ _ hk, Bool.or_true, State.boostWritten_rail]
  · exact congrArg (hideRail k ∘ hideFaults) (hideInBoth_unsent_twice k x)
  · exact (congrArg (hideInBoth (Lane.unsent k) ∘ hideFaults) (hideRail_hideRail k (hideInBoth (Lane.unsent k) x))).trans
      (congrArg (hideRail k ∘ hideFaults) (hideInBoth_unsent_twice k x))
  · rw [hkeeps.1 l _ hctrl, State.boostWritten_bstCtrl]

end BoostWrite

theorem exec_boostRow_of_takesWrite {s : State} {l : LaneId} {k : Fin 4} {v : Word} (h : s.takesWrite l (Reg.bstCtrl k)) {c : Instr}
    (hc : c ∈ [Instr.boostEnable l k v, .boostDisable l k v]) : exec c s = .next (s.boostRow l k v).settle := by
  have hrow : exec c s = laneCmd l s fun s => s.boostRow l k v := by
    rcases List.mem_cons.1 hc with rfl | hc
    · rfl
    · rw [List.mem_singleton.1 hc]
      rfl
  rw [hrow, laneCmd_on l s _ h.1.1 h.1.2]

/-- The clause of BOOST_ENABLE and BOOST_DISABLE. -/
theorem boost_write_starts_and_stops {s : State} {l : LaneId} {k : Fin 4} {v : Word} (h : s.takesWrite l (Reg.bstCtrl k))
    (hsender : s.sender (3 * k) = l) {c : Instr} (hc : c ∈ [Instr.boostEnable l k v, .boostDisable l k v]) :
    ∃ u, exec c s = .next u
      ∧ (u.lane l).reg (Reg.bstCtrl k) = (s.lane l).written (Reg.bstCtrl k) v
      ∧ (s.agreesOn l k v → v.getLsbD 0 = true → (s.rail k).state = .off → (s.die (3 * k)).auth ≠ .safe → s.vsupLow = false →
          (u.rail k).state = .ramp ∧ (u.rail k).enAt = s.now ∧ (u.rail k).v0 = (s.rail k).v)
      ∧ (s.agreesOn l k v → v.getLsbD 0 = false →
          (u.rail k).state = .off ∧ (u.rail k).fet = false ∧ (u.rail k).charging = false)
      ∧ (s.agreesOn l k v → (u.rail k).ctrl = (s.lane l).written (Reg.bstCtrl k) v ∧ (u.rail k).set = (s.lane l).reg (Reg.bstSet k)
          ∧ (u.rail k).thresh = (s.lane l).reg (Reg.bstThresh k)
          ∧ s.keeps u (hideRail k ∘ hideInBoth (Lane.unsent k)) (inLane l [Reg.bstCtrl k]))
      ∧ (¬ s.agreesOn l k v → (s.lane (otherLane l)).railSent.getLsbD k = false →
          u.rail k = s.rail k ∧ (u.lane l).railSent.getLsbD k = true
          ∧ s.keeps u (hideInBoth (Lane.unsent k)) (inLane l [Reg.bstCtrl k]))
      ∧ (¬ s.agreesOn l k v → (s.lane (otherLane l)).railSent.getLsbD k = true →
          u.rail k = { s.rail k with enOwed := true } ∧ s.flagged u (Reg.bstEvent k) 6
          ∧ s.keeps u (hideRail k ∘ hideInBoth (Lane.unsent k) ∘ hideFaults)
              (fun m => [Reg.bstEvent k, Reg.fltLost] ++ inLane l [Reg.bstCtrl k] m)) := by
  refine ⟨_, exec_boostRow_of_takesWrite h hc, ?_⟩
  rw [State.settle_lane_reg, State.settle_lane_railSent, State.settle_rail]
  by_cases hagree : s.agreesOn l k v
  · obtain ⟨hrail, hkeeps, hctrl⟩ := State.boostRow_agree k.isLt h hsender hagree
    have hen := (s.lane l).written_bstCtrl_en k.isLt v
    rw [hrail]
    refine ⟨hctrl, fun _ hv hoff hauth hsup => ?_, fun _ hv => Rail.settled_of_disable _ _ _ _ _ _ (hen.trans hv), fun _ => ?_,
      fun hdiff => absurd hagree hdiff, fun hdiff => absurd hagree hdiff⟩
    · rw [State.railHeld_of hauth hsup]
      exact Rail.settled_of_enable _ _ _ _ _ (hen.trans hv) hoff
    · obtain ⟨hc, hset, hthresh⟩ := (s.rail k).settled_settings ((s.lane l).written (Reg.bstCtrl k) v)
        ((s.lane l).reg (Reg.bstSet k)) ((s.lane l).reg (Reg.bstThresh k)) true (s.railHeld k) s.now
      exact ⟨hc, hset, hthresh, State.keeps_settle hkeeps⟩
  · cases hsent : (s.lane (otherLane l)).railSent.getLsbD k with
    | false =>
      rw [State.boostRow_wait k.isLt h hsender hagree hsent]
      exact ⟨s.boostWritten_bstCtrl l k v, fun ha => absurd ha hagree, fun ha => absurd ha hagree, fun ha => absurd ha hagree,
        fun _ _ => ⟨s.boostWritten_rail l k v k, s.boostWritten_sent l k v k.isLt, State.keeps_settle (s.boostWritten_keeps l k v)⟩,
        fun _ ht => absurd ht (by decide)⟩
    | true =>
      obtain ⟨hrail, hflag, hkeeps, hctrl⟩ := State.boostRow_mismatch k.isLt h hsender hagree hsent
      exact ⟨hctrl, fun ha => absurd ha hagree, fun ha => absurd ha hagree, fun ha => absurd ha hagree,
        fun _ hf => absurd hf (by decide), fun _ _ => ⟨hrail, State.flagged_settle hflag, State.keeps_settle hkeeps⟩⟩

/-! ### The arrival of spark sets (R185) -/

/-- Spark sets are refused at one gate. -/
def State.setRefused (s : State) (g : Nat) : State := (s.gFlag g 10).raiseBoth .ignSetErr g

theorem ignEvent_ne_fltLost (g : Nat) : Reg.ignEvent g ≠ Reg.fltLost := by
  simp only [Reg.ignEvent, Reg.fltLost]
  omega

section SparkSets
variable {s : State} {d : Nat}

theorem State.setsArrive_of_mismatch (hon : (s.lane (s.sender d)).on = true) (hcmp : s.compares (otherLane (s.sender d)) = true)
    (hdiff : (s.lane (s.sender d)).sparkSets ≠ (s.lane (otherLane (s.sender d))).sparkSets) :
    s.setsArrive d = (List.range 4).foldl (fun s i => s.setRefused (4 * d + i)) s :=
  (if_neg (by rw [hon]; decide)).trans (if_pos (by rw [hcmp, Bool.true_and]; exact bne_iff_ne.2 hdiff))

theorem State.setsArrive_of_agree (hon : (s.lane (s.sender d)).on = true) (h : s.compares (otherLane (s.sender d)) = false
      ∨ (s.lane (s.sender d)).sparkSets = (s.lane (otherLane (s.sender d))).sparkSets) :
    s.setsArrive d = s.dieUpd d fun x => { x with sets := (s.lane (s.sender d)).sparkSets } := by
  refine (if_neg (by rw [hon]; decide)).trans (if_neg ?_)
  rcases h with h | h
  · rw [h, Bool.false_and]
    decide
  · rw [h, bne_self_eq_false, Bool.and_false]
    decide

theorem State.setRefused_reportsAt (s : State) (g : Nat) : State.reportsAt (Reg.ignEvent g) s (s.setRefused g) :=
  State.reportsAt_event_raiseBoth (ignEvent_ne_fltLost g) (by decide) s _ _

/-- The registers in which the arrival of spark sets at die d reports. -/
def setErrRegs (d : Nat) : List Nat := (List.range 4).map (fun i => Reg.ignEvent (4 * d + i)) ++ [Reg.fltLost]

theorem State.setsRefused_keeps (s : State) (d : Nat) :
    s.keeps ((List.range 4).foldl (fun s i => s.setRefused (4 * d + i)) s) hideFaults (inBoth (setErrRegs d)) := by
  refine State.keeps_foldl (g := fun s i => s.setRefused (4 * d + i)) (fun t i hi => ?_) s
  refine State.keeps_weaken (t.setRefused_reportsAt (4 * d + i)).keeps (fun _ => rfl) fun _ => ?_
  exact List.cons_subset.2 ⟨List.mem_append_left _ (List.mem_map_of_mem (f := fun i => Reg.ignEvent (4 * d + i)) hi),
    List.subset_append_right _ _⟩

/-- What a gate's flag of a refused set needs: which lanes run, and the flag in each. -/
def State.setErrView (g : Nat) (s : State) (l : LaneId) : Bool × Bool := ((s.lane l).on, (s.lane l).bit (Reg.ignEvent g) 10)

theorem State.setErrView_setRefused (s : State) {g h : Nat} (hg : h ≠ g) : (s.setRefused h).setErrView g = s.setErrView g := by
  have hreport := s.setRefused_reportsAt h
  have hreg : Reg.ignEvent g ∉ [Reg.ignEvent h, Reg.fltLost] := by
    simp only [Reg.ignEvent, Reg.fltLost, List.mem_cons, List.not_mem_nil, or_false]
    omega
  funext l
  rw [State.setErrView, State.setErrView, hreport.on, Lane.bit_of_reg_eq (hreport.reg hreg l)]

theorem State.setsRefused_flagged (s : State) (d : Nat) (i : Fin 4) :
    s.flagged ((List.range 4).foldl (fun s i => s.setRefused (4 * d + i)) s) (Reg.ignEvent (4 * d + i)) 10 := by
  obtain ⟨t, ht, hu⟩ := exists_foldl_view (fun (s : State) j => s.setRefused (4 * d + j)) (State.setErrView (4 * d + i))
    (fun u j hj => u.setErrView_setRefused (by omega)) (List.mem_range.2 i.isLt) List.nodup_range s
  intro l hl
  have hon : (t.lane l).on = true := (congrArg Prod.fst (congrFun ht l)).trans hl
  exact (congrArg Prod.snd (congrFun hu l)).trans
    (State.flagged_event_raiseBoth (ignEvent_ne_fltLost _) (by decide) t .ignSetErr (4 * d + i) l hon)

theorem Lane.sparkSets_get (L : Lane) (j : Fin 8) :
    vget L.sparkSets j (0, 0, 0, 0) = (L.reg (Reg.setDwell j), L.reg (Reg.setLimit j), L.reg (Reg.setDiag j), L.reg (Reg.setRs j)) := by
  simp [vget, Vector.getD, Lane.sparkSets]

theorem State.die_dieUpd (s : State) (hd : d < 12) (f : Die → Die) : (s.dieUpd d f).die d = f (s.die d) :=
  vget_vmod_self _ _ _ _ hd

/-- The spark sets of die d are those given. -/
def withSets (d : Nat) (sets : Vector (Word × Word × Word × Word) 8) (s : State) : State := s.dieUpd d fun x => { x with sets := sets }

theorem withSets_dieUpd (d : Nat) (sets other : Vector (Word × Word × Word × Word) 8) (s : State) :
    withSets d sets (withSets d other s) = withSets d sets s := by
  simp only [withSets, State.dieUpd, vmod_vmod]

theorem State.withSets_keeps (s : State) (d : Nat) (sets other : Vector (Word × Word × Word × Word) 8) (as : LaneId → List Nat) :
    s.keeps (withSets d other s) (withSets d sets) as :=
  ⟨fun l a _ => by rw [withSets, State.dieUpd_lane], withSets_dieUpd d sets other s.quiet⟩

end SparkSets

theorem exec_setErr_sparkSets (d : Fin 12) (s : State) : exec (.setErr (.sparkSets d)) s = .next (s.setsArrive d).settle := rfl

/-- The clause of the arrival of spark sets. -/
theorem spark_sets_arrive {s : State} {d : Fin 12} (hon : (s.lane (s.sender d)).on = true) :
    let L := s.lane (s.sender d)
    let M := s.lane (otherLane (s.sender d))
    let same := L.sparkSets = M.sparkSets
    let cmp := s.compares (otherLane (s.sender d))
    ∃ u, exec (.setErr (.sparkSets d)) s = .next u
      ∧ (cmp = true → ¬same → u.dies = s.dies ∧ ∀ i : Fin 4, s.flagged u (Reg.ignEvent (4 * d + i)) 10)
      ∧ (cmp = false ∨ same → ∀ j : Fin 8, vget (u.die d).sets j (0, 0, 0, 0) =
          (L.reg (Reg.setDwell j), L.reg (Reg.setLimit j), L.reg (Reg.setDiag j), L.reg (Reg.setRs j)))
      ∧ s.keeps u (withSets d (s.die d).sets ∘ hideFaults) (inBoth (setErrRegs d)) := by
  intro L M same cmp
  refine ⟨_, exec_setErr_sparkSets d s, ?_⟩
  by_cases h : cmp = false ∨ same
  · rw [State.setsArrive_of_agree hon h]
    refine ⟨fun hcmp hdiff => ?_, fun _ j => ?_, State.keeps_settle ?_⟩
    · rcases h with hno | hsame
      · exact absurd (hcmp.symm.trans hno) (by decide)
      · exact absurd hsame hdiff
    · rw [State.die, State.settle_dies]
      exact (congrArg (fun x : Die => vget x.sets j (0, 0, 0, 0)) (s.die_dieUpd d.isLt _)).trans (L.sparkSets_get j)
    · exact State.keeps_weaken (s.withSets_keeps d (s.die d).sets L.sparkSets _)
        (fun x => withSets_dieUpd d _ _ (hideFaults x)) fun _ => List.Subset.refl _
  · obtain ⟨hcmp, hdiff⟩ := not_or.1 h
    have hkeeps := s.setsRefused_keeps d
    rw [State.setsArrive_of_mismatch hon ((Bool.not_eq_false _).mp hcmp) hdiff]
    refine ⟨fun _ _ => ⟨?_, fun i => State.flagged_settle (s.setsRefused_flagged d i)⟩, fun hsame => absurd hsame h,
      State.keeps_settle (State.keeps_weaken hkeeps (fun _ => rfl) fun _ => List.Subset.refl _)⟩
    rw [State.settle_dies]
    exact (congrArg State.dies hkeeps.2 :)

/-- Settles O18. A write of BSTk_CTRL and the two arrivals of settings, each split where the lanes' settings agree. -/
theorem railSettings : Obligations.RailSettings := by
  unfold Obligations.RailSettings
  intro s l k d v
  exact ⟨fun h hsender _ hc => boost_write_starts_and_stops h hsender hc, fun hon => rail_settings_arrive hon,
    fun hon => spark_sets_arrive hon⟩

end Sys2Proof.Machine

/-! The four statements of 08_ignition.md: O13 to O16 hold. What a row does to a gate is one change of the gate, or one after
another; what it reports is one change of both lanes each. The effect of each part on the gate and its frame are stated once. -/

namespace Sys2Proof.Machine

/-! ### Gate g of a state -/

/-- Where IGg does not fall, the gate becomes what it is changed to (R182). -/
theorem Gate.becomes_of_not_falling {x y : Gate} (h : y.drive = .low → x.drive = .low) (now : Nat) : x.becomes y now = y := by
  have hfalls : (y.drive == .low && x.drive != .low) = false := by
    cases hy : y.drive
    case low => rw [h hy]; rfl
    all_goals rfl
  rw [Gate.becomes, hfalls]
  rfl

/-- Where IGg falls, the time is kept (R182). -/
theorem Gate.becomes_of_falling {x y : Gate} (hx : x.on = true) (hy : y.drive = .low) (now : Nat) :
    x.becomes y now = { y with leakAt := now } := by
  have hfalls : (y.drive == .low && x.drive != .low) = true := by
    rw [hy]
    cases hd : x.drive
    case low => simp [Gate.on, hd] at hx
    all_goals rfl
  rw [Gate.becomes, hfalls]
  rfl

theorem State.gate_gateUpd_not_falling {s : State} {g : Nat} (hg : g < 48) {f : Gate → Gate}
    (h : (f (s.gate g)).drive = .low → (s.gate g).drive = .low) : (s.gateUpd g f).gate g = f (s.gate g) := by
  rw [State.gate_gateUpd _ hg, Gate.becomes_of_not_falling h]

theorem State.gate_of_gates_eq {s u : State} (h : u.gates = s.gates) (g : Nat) : u.gate g = s.gate g := by
  rw [State.gate, h, State.gate]

theorem State.sparkSet_of_dies_eq {s u : State} (h : u.dies = s.dies) (g k : Nat) : u.sparkSet g k = s.sparkSet g k := by
  rw [State.sparkSet, State.die, h, ← State.die, ← State.sparkSet]

theorem hideGate_hideGate (g : Nat) (s : State) : hideGate g (hideGate g s) = hideGate g s := by
  simp only [hideGate, vmod_vmod]

/-- A change of gate g alone. -/
theorem State.keeps_gateUpd_settle (s : State) (g : Nat) (f : Gate → Gate) :
    s.keeps (s.gateUpd g f).settle (hideGate g) (inBoth []) := State.keeps_settle (s.keeps_gateUpd g f _)

/-- A frame of gate g, where faults are hidden as well and more registers are listed. -/
theorem State.keeps.andFaults {s u : State} {g : Nat} {as bs : LaneId → List Nat} (h : s.keeps u (hideGate g) as)
    (hregs : ∀ l, as l ⊆ bs l) : s.keeps u (hideGate g ∘ hideFaults) bs :=
  State.keeps_weaken h (fun x => hideGate_hideGate g (hideFaults x)) hregs

/-! ### Reports of a gate -/

/-- A change of both running lanes in the registers listed alone. -/
theorem State.keeps_both_regs (s : State) {f : Lane → Lane} {as : List Nat} (hreg : ∀ L a, a ∉ as → (f L).reg a = L.reg a)
    (hquiet : ∀ L, (f L).quiet = L.quiet) (hide : State → State) : s.keeps (s.both f) hide (inBoth as) :=
  State.keeps_weaken (s.keeps_both_hiding (g := id) hreg hquiet) (fun _ => rfl) fun _ => List.Subset.refl _

theorem ignEvent_ne_ignCnt (g : Nat) : Reg.ignEvent g ≠ Reg.ignCnt g := by simp [Reg.ignEvent, Reg.ignCnt]

theorem State.gFlag_keeps (s : State) (g i : Nat) {as : List Nat} (h : Reg.ignEvent g ∈ as) (hide : State → State) :
    s.keeps (s.gFlag g i) hide (inBoth as) :=
  s.keeps_both (f := fun L => L.event (Reg.ignEvent g) i) (fun _ => rfl) (fun L b hb => by rw [Lane.reg_event, if_neg hb]) h hide

/-- An event bit of gate g with its fault. -/
def State.gateFault (s : State) (g i : Nat) (k : Kind) (name : Nat) : State := (s.gFlag g i).raiseBoth k g name

section GateFault
variable (s : State) (g : Nat) {i : Nat} (hi : i < 32) (k : Kind) (name : Nat)
include hi

theorem State.gateFault_reportsAt : State.reportsAt (Reg.ignEvent g) s (s.gateFault g i k name) :=
  State.reportsAt_trans (State.reportsAt_event _ i hi s) (State.reportsAt_raiseBoth (ignEvent_ne_fltLost g) _ k g name)

theorem State.gateFault_flagged : s.flagged (s.gateFault g i k name) (Reg.ignEvent g) i :=
  (State.reportsAt_raiseBoth (ignEvent_ne_fltLost g) _ k g name).flagged hi (s.flagged_both_event _ hi)

theorem State.gateFault_keeps : s.keeps (s.gateFault g i k name) (hideGate g ∘ hideFaults) (inBoth [Reg.ignEvent g, Reg.fltLost]) :=
  State.keeps_weaken (s.gateFault_reportsAt g hi k name).keeps (fun _ => rfl) fun _ => List.Subset.refl _

end GateFault

theorem State.gateFault_gate (s : State) (g i : Nat) (k : Kind) (name m : Nat) : (s.gateFault g i k name).gate m = s.gate m := rfl

/-- Which lanes run stands in every frame of a gate. -/
theorem State.on_of_gateKeeps {s u : State} {g : Nat} {as : LaneId → List Nat} (h : s.keeps u (hideGate g) as) (l : LaneId) :
    (u.lane l).on = (s.lane l).on := by
  cases l
  · exact (congrArg (fun t : State => t.laneA.on) h.2 :)
  · exact (congrArg (fun t : State => t.laneB.on) h.2 :)

/-- A row that ends with an event bit of gate g and its fault leaves the gate as it was before them. -/
theorem State.gateFault_row {s t : State} {g i : Nat} {as bs : List Nat} (ht : s.keeps t (hideGate g) (inBoth as)) (has : as ⊆ bs)
    (hbs : [Reg.ignEvent g, Reg.fltLost] ⊆ bs) (hi : i < 32) (k : Kind) (name : Nat) :
    (t.gateFault g i k name).settle.gate g = t.gate g ∧ s.flagged (t.gateFault g i k name).settle (Reg.ignEvent g) i
      ∧ s.keeps (t.gateFault g i k name).settle (hideGate g ∘ hideFaults) (inBoth bs) :=
  ⟨by rw [State.settle_gate, State.gateFault_gate],
    State.flagged_settle (State.flagged_of_on (State.on_of_gateKeeps ht) (t.gateFault_flagged g hi k name)),
    State.keeps_settle (State.keeps_trans (ht.andFaults fun _ => has)
      (State.keeps_weaken (t.gateFault_keeps g hi k name) (fun x => hideGate_hideGate g (hideFaults x)) fun _ => hbs))⟩

/-- An event bit of gate g is set in the running lanes, whatever the gate has become. -/
theorem State.flagged_gateUpd_gFlag (s : State) (g : Nat) (f : Gate → Gate) {i : Nat} (hi : i < 32) :
    s.flagged ((s.gateUpd g f).gFlag g i) (Reg.ignEvent g) i :=
  State.flagged_of_on (fun l => by rw [State.gateUpd_lane]) (State.flagged_both_event (s.gateUpd g f) (Reg.ignEvent g) hi)

/-- A change of both lanes in other registers leaves a flag. -/
theorem State.flagged_both_of_reg_eq {s u : State} {a i : Nat} {f : Lane → Lane} (h : s.flagged u a i)
    (hf : ∀ L : Lane, (f L).reg a = L.reg a) : s.flagged (u.both f) a i := by
  intro l hon
  rw [State.both_lane]
  split
  · rw [Lane.bit_of_reg_eq (hf _), h l hon]
  · exact h l hon

/-! ### A soft abort (R180) -/

/-- The gate as a soft abort leaves it: IGg is ramped down from sense voltage i0. -/
def Gate.aborted (x : Gate) (now i0 : Nat) (after : GateState) : Gate :=
  { x with state := .soft, drive := .ramp, softAt := now, softI0 := i0, afterSoft := after, rsLeft := 0, heldTo := none }

section SoftAbort
variable (s : State) {g : Nat} (after : GateState)

theorem State.softAbort_gate (hg : g < 48) :
    (s.softAbort g after).gate g = (s.gate g).aborted s.now (s.gateSense g).toNat after :=
  State.gate_gateUpd_not_falling (f := fun x => x.aborted s.now (s.gateSense g).toNat after) hg fun h => by simp [Gate.aborted] at h

theorem State.softAbort_flagged : s.flagged (s.softAbort g after) (Reg.ignEvent g) 4 :=
  State.flagged_both_of_reg_eq
    (s.flagged_gateUpd_gFlag g (fun x => x.aborted s.now (s.gateSense g).toNat after) (by decide))
    fun L => by rw [Lane.reg_count, if_neg (ignEvent_ne_ignCnt g)]

end SoftAbort

/-- A dwell or a restrike that another cause than STOP or HALT ends is soft-aborted. -/
theorem State.quietGate_of_running {s : State} {g : Nat} (h : (s.gate g).state = .dwell ∨ (s.gate g).state = .restrike)
    (after : GateState) : s.quietGate g false after = s.softAbort g after := by
  unfold State.quietGate
  rcases h with h | h
  · simp only [h]
  · simp only [h, Bool.not_false, Bool.or_true, if_true]

/-- A gate on the ramp of a soft abort that is to end in FAULT. -/
def Gate.faultsAfter (x : Gate) : Gate := { x with afterSoft := .fault }

theorem State.quietGate_of_soft {s : State} {g : Nat} (h : (s.gate g).state = .soft) (stopHalt : Bool) :
    s.quietGate g stopHalt .fault = s.gateUpd g Gate.faultsAfter := by
  unfold State.quietGate
  simp only [h]
  rfl

/-- A gate at rest is left alone. -/
theorem State.quietGate_of_rest {s : State} {g : Nat} (h : (s.gate g).state = .idle ∨ (s.gate g).state = .fault) (stopHalt : Bool)
    (after : GateState) : s.quietGate g stopHalt after = s := by
  unfold State.quietGate
  rcases h with h | h <;> simp only [h]

/-! ### DWELL (R176) -/

/-- The gate as an accepted DWELL command of lane l leaves it. -/
def Gate.dwells (x : Gate) (l : LaneId) (c : DrvCmd) (now : Nat) : Gate :=
  { x with
    state := .dwell, drive := .high, td := now, heldTo := none, charged := none, openDone := false, peak := 0
    lane := l, set := c.slot, cyc := c.cyc, idx := c.idx }

/-- The dwell begins, its sense voltage not yet taken. -/
def State.dwellBegun (s : State) (l : LaneId) (g : Nat) (c : DrvCmd) : State := s.gateUpd g fun x => x.dwells l c s.now

section Dwell
variable {s : State} {l : LaneId} {g : Nat} {c : DrvCmd}

theorem State.onDwell_of_idle (hidle : (s.gate g).state = .idle)
    (hset : (s.sparkSet g c.slot).1.getLsbD 31 = true → setTgt (s.sparkSet g c.slot) ≠ 0) :
    s.onDwell l g c = (s.dwellBegun l g c).gateUpd g fun x =>
      { x with igs := (s.dwellBegun l g c).limited g (Config.senseAt g s.now), igsAt := some s.now } := by
  have hgood : ¬ ((s.sparkSet g c.slot).1.getLsbD 31 && decide (setTgt (s.sparkSet g c.slot) = 0)) = true := by
    simpa using hset
  unfold State.onDwell
  simp only [hidle]
  exact if_neg hgood

/-- In a dwell the sense voltage is limited at I_TGT (R174, R175). -/
theorem State.limited_le (hdwell : (s.gate g).state = .dwell) (htgt : setTgt (s.sparkSet g (s.gate g).set) ≠ 0) (v : BitVec 10) :
    (s.limited g v).toNat ≤ setTgt (s.sparkSet g (s.gate g).set) := by
  unfold State.limited
  simp only [hdwell, beq_self_eq_true, Bool.true_and, bne_iff_ne.2 htgt]
  split
  · rw [BitVec.toNat_ofNat]
    exact Nat.mod_le _ _
  · rename_i hle
    exact Nat.le_of_not_lt fun hlt => hle (decide_eq_true hlt)

theorem State.dwellBegun_gate (hg : g < 48) : (s.dwellBegun l g c).gate g = (s.gate g).dwells l c s.now :=
  State.gate_gateUpd_not_falling (f := fun x => x.dwells l c s.now) hg fun h => by simp [Gate.dwells] at h

theorem State.onDwell_gate (hg : g < 48) (hidle : (s.gate g).state = .idle)
    (hset : (s.sparkSet g c.slot).1.getLsbD 31 = true → setTgt (s.sparkSet g c.slot) ≠ 0) :
    (s.onDwell l g c).gate g = { (s.gate g).dwells l c s.now with
        igs := ((s.onDwell l g c).gate g).igs, igsAt := some s.now }
      ∧ (setTgt (s.sparkSet g c.slot) ≠ 0 → ((s.onDwell l g c).gate g).igs.toNat ≤ setTgt (s.sparkSet g c.slot)) := by
  have hbegun := State.dwellBegun_gate (s := s) (l := l) (c := c) hg
  have hgate : (s.onDwell l g c).gate g = { (s.gate g).dwells l c s.now with
      igs := (s.dwellBegun l g c).limited g (Config.senseAt g s.now), igsAt := some s.now } := by
    rw [State.onDwell_of_idle hidle hset, State.gate_gateUpd_not_falling hg id, hbegun]
  rw [hgate]
  refine ⟨rfl, fun htgt => ?_⟩
  have hsets : (s.dwellBegun l g c).sparkSet g ((s.dwellBegun l g c).gate g).set = s.sparkSet g c.slot := by
    rw [hbegun]
    rfl
  have hle := State.limited_le (s := s.dwellBegun l g c) (g := g) (by rw [hbegun]; rfl) (by rwa [hsets]) (Config.senseAt g s.now)
  rwa [hsets] at hle

theorem State.onDwell_keeps (hidle : (s.gate g).state = .idle)
    (hset : (s.sparkSet g c.slot).1.getLsbD 31 = true → setTgt (s.sparkSet g c.slot) ≠ 0) (as : LaneId → List Nat) :
    s.keeps (s.onDwell l g c) (hideGate g) as := by
  rw [State.onDwell_of_idle hidle hset]
  exact State.keeps_trans (s.keeps_gateUpd g _ as) (State.keeps_gateUpd _ g _ as)

end Dwell

/-! ### SPARK (R177) -/

/-- The gate as a spark leaves it, with rn restrikes to come. -/
def Gate.sparks (x : Gate) (rn now : Nat) : Gate :=
  { x with drive := .low, heldTo := none, rsLeft := rn, rsAt := now, state := if 0 < rn then .restrike else .idle }

/-- A lane notes the dwell and the peak current of a spark, and counts it. -/
def Lane.noteSpark (g dwell ipk : Nat) (L : Lane) : Lane :=
  ((L.setFld (Reg.ignLast g) 16 16 dwell).setFld (Reg.ignLast g) 0 10 ipk).count (Reg.ignCnt g) 16 16

/-- A charge-time report is on its way to a lane. -/
def Lane.queueCharge (r : ChargeReport) (L : Lane) : Lane := { L with chargeQ := L.chargeQ ++ [r] }

/-- The peak current that a spark of gate g records. -/
def State.sparkPeak (s : State) (g : Nat) : Nat :=
  let tgt := setTgt (s.sparkSet g (s.gate g).set)
  max (s.gate g).peak.toNat (if tgt = 0 then s.free.1.toNat % 1024 else min (s.free.1.toNat % 1024) tgt)

/-- The dwell in µs that a spark of gate g records. -/
def State.sparkDwell (s : State) (g : Nat) : Nat := min ((s.now - (s.gate g).td) / 400) 0xFFFF

/-- The spark of gate g, before its charge-time report. -/
def State.sparkNoted (s : State) (g : Nat) : State :=
  ((s.free.2.gateUpd g fun x => x.sparks (min (bits (s.sparkSet g (s.gate g).set).2.2.2 20 3) 4) s.now).gFlag g 0).both
    (Lane.noteSpark g (s.sparkDwell g) (s.sparkPeak g))

/-- A spark is noted, and in current mode reported (R175). -/
theorem State.doSpark_cases (s : State) (g : Nat) :
    s.doSpark g = s.sparkNoted g ∨ ∃ r, s.doSpark g = (s.sparkNoted g).free.2.both (Lane.queueCharge r) := by
  unfold State.doSpark
  dsimp only
  split
  · exact .inr ⟨_, rfl⟩
  · exact .inl rfl

section NoteSpark
variable (L : Lane) (g dwell ipk : Nat)

theorem Lane.noteSpark_reg {a : Nat} (ha : a ∉ [Reg.ignLast g, Reg.ignCnt g]) : (L.noteSpark g dwell ipk).reg a = L.reg a := by
  simp only [List.mem_cons, List.not_mem_nil, or_false, not_or] at ha
  obtain ⟨hlast, hcnt⟩ := ha
  rw [Lane.noteSpark, Lane.reg_count, if_neg hcnt, Lane.reg_setFld, if_neg hlast, Lane.reg_setFld, if_neg hlast]

theorem Lane.noteSpark_quiet : (L.noteSpark g dwell ipk).quiet = L.quiet := by
  rw [Lane.noteSpark, Lane.count, Lane.setFld, Lane.quiet_setReg, Lane.setFld, Lane.quiet_setReg, Lane.setFld, Lane.quiet_setReg]

theorem Lane.noteSpark_dwell (h : dwell ≤ 0xFFFF) : (L.noteSpark g dwell ipk).fld (Reg.ignLast g) 16 16 = dwell := by
  have hreg : (L.noteSpark g dwell ipk).reg (Reg.ignLast g)
      = ((L.setFld (Reg.ignLast g) 16 16 dwell).setFld (Reg.ignLast g) 0 10 ipk).reg (Reg.ignLast g) :=
    (Lane.reg_count ..).trans (if_neg (by simp [Reg.ignLast, Reg.ignCnt]))
  rw [Lane.fld_of_reg_eq hreg, Lane.fld_setFld_disjoint _ _ _ (by decide) (by decide) (by decide),
    Lane.fld_setFld_same _ _ _ (by decide), Nat.mod_eq_of_lt (by omega)]

theorem Lane.noteSpark_count : (L.noteSpark g dwell ipk).fld (Reg.ignCnt g) 16 16
    = min (L.fld (Reg.ignCnt g) 16 16 + 1) 0xFFFF := by
  have hreg : ((L.setFld (Reg.ignLast g) 16 16 dwell).setFld (Reg.ignLast g) 0 10 ipk).reg (Reg.ignCnt g)
      = L.reg (Reg.ignCnt g) := by
    rw [Lane.reg_setFld, if_neg (by simp [Reg.ignLast, Reg.ignCnt]), Lane.reg_setFld, if_neg (by simp [Reg.ignLast, Reg.ignCnt])]
  rw [Lane.noteSpark, Lane.fld_count_same _ _ (top := 0xFFFF) (by decide) rfl, Lane.fld_of_reg_eq hreg]

end NoteSpark

/-- Free values and charge-time reports on their way are hidden. -/
def hideReported : State → State := hideFree ∘ hideInBoth fun L => { L with chargeQ := [] }

/-- What a spark of gate g touches beside registers is hidden. -/
def hideSpark (g : Nat) : State → State := hideGate g ∘ hideReported

/-- The registers in which a spark of gate g is reported. -/
def sparkRegs (g : Nat) : List Nat := [Reg.ignEvent g, Reg.ignLast g, Reg.ignCnt g]

theorem hideSpark_hideGate (g : Nat) (s : State) : hideSpark g (hideGate g s) = hideSpark g s :=
  hideGate_hideGate g (hideReported s)

section Spark
variable (s : State) (g : Nat)

theorem State.free_keeps (as : LaneId → List Nat) : s.keeps s.free.2 (hideSpark g) as := ⟨fun l _ _ => by cases l <;> rfl, rfl⟩

theorem State.queueCharge_keeps (r : ChargeReport) (as : List Nat) :
    s.keeps (s.both (Lane.queueCharge r)) (hideSpark g) (inBoth as) :=
  State.keeps_weaken (s.keeps_both_hiding (f := Lane.queueCharge r) (g := fun L => { L with chargeQ := [] }) (as := as)
    (fun _ _ _ => rfl) fun _ => rfl) (fun _ => rfl) fun _ => List.Subset.refl _

theorem State.sparkNoted_keeps : s.keeps (s.sparkNoted g) (hideSpark g) (inBoth (sparkRegs g)) := by
  have hgate : ∀ (t : State) f, t.keeps (t.gateUpd g f) (hideSpark g) (inBoth (sparkRegs g)) := fun t f =>
    State.keeps_weaken (t.keeps_gateUpd g f _) (hideSpark_hideGate g) fun _ => List.Subset.refl _
  have hnote : ∀ t : State, t.keeps (t.both (Lane.noteSpark g (s.sparkDwell g) (s.sparkPeak g))) (hideSpark g)
      (inBoth (sparkRegs g)) := fun t =>
    State.keeps_both_regs t (fun L a ha => L.noteSpark_reg g _ _ fun hm => ha (List.mem_cons_of_mem _ hm))
      (fun L => L.noteSpark_quiet g _ _) _
  exact State.keeps_trans (State.keeps_trans (State.keeps_trans (s.free_keeps g _) (hgate _ _))
    (State.gFlag_keeps _ g 0 (List.mem_cons_self ..) _)) (hnote _)

theorem State.doSpark_keeps : s.keeps (s.doSpark g) (hideSpark g) (inBoth (sparkRegs g)) := by
  obtain hu | ⟨r, hu⟩ := s.doSpark_cases g <;> rw [hu]
  · exact s.sparkNoted_keeps g
  · exact State.keeps_trans (State.keeps_trans (s.sparkNoted_keeps g) (State.free_keeps _ g _)) (State.queueCharge_keeps _ g r _)

theorem State.sparkNoted_lane {l : LaneId} (hon : (s.lane l).on = true) : (s.sparkNoted g).lane l =
    ((s.lane l).event (Reg.ignEvent g) 0).noteSpark g (s.sparkDwell g) (s.sparkPeak g) := by
  have hfree : s.free.2.lane l = s.lane l := by cases l <;> rfl
  rw [State.sparkNoted, State.both_lane, State.gFlag, State.both_lane, State.gateUpd_lane, hfree, if_pos hon]
  exact if_pos hon

/-- The spark of gate g is as R177 says. -/
theorem State.sparked_sparkNoted (hg : g < 48) : s.sparked (s.sparkNoted g) g := by
  refine ⟨State.gate_gateUpd s.free.2 hg _, fun l hon => ?_⟩
  rw [s.sparkNoted_lane g hon]
  refine ⟨?_, Lane.noteSpark_dwell _ g _ _ (Nat.min_le_right _ _), ?_⟩
  · rw [Lane.bit_of_reg_eq (Lane.noteSpark_reg _ g _ _ (by simp [Reg.ignEvent, Reg.ignLast, Reg.ignCnt]))]
    exact Lane.bit_event _ _ _ (by decide)
  · have hreg : ((s.lane l).event (Reg.ignEvent g) 0).reg (Reg.ignCnt g) = (s.lane l).reg (Reg.ignCnt g) :=
      (Lane.reg_event ..).trans (if_neg (ignEvent_ne_ignCnt g).symm)
    rw [Lane.noteSpark_count, Lane.fld_of_reg_eq hreg]

end Spark

/-- What shows a spark: the gate and the lanes' registers. -/
theorem State.sparked_of_eq {s u v : State} {g : Nat} (h : s.sparked u g) (hgate : v.gate g = u.gate g)
    (hreg : ∀ l a, (v.lane l).reg a = (u.lane l).reg a) : s.sparked v g := by
  obtain ⟨hx, hl⟩ := h
  refine ⟨hgate.trans hx, fun l hon => ?_⟩
  rw [Lane.bit_of_reg_eq (hreg l _), Lane.fld_of_reg_eq (hreg l _), Lane.fld_of_reg_eq (hreg l _)]
  exact hl l hon

theorem State.doSpark_sparked (s : State) {g : Nat} (hg : g < 48) : s.sparked (s.doSpark g) g := by
  have hnoted := s.sparked_sparkNoted g hg
  obtain hu | ⟨r, hu⟩ := s.doSpark_cases g <;> rw [hu]
  · exact hnoted
  · generalize s.sparkNoted g = t at hnoted
    refine State.sparked_of_eq hnoted rfl fun l a => ?_
    rw [State.both_lane]
    split <;> cases l <;> rfl

/-! ### Commands that arrive at a gate -/

theorem hideLink_hideGate (l : LaneId) (d g : Nat) (s : State) : hideLink l d (hideGate g s) = hideGate g (hideLink l d s) := by
  cases l <;> rfl

theorem hideReported_hideLink (l : LaneId) (d : Nat) (s : State) :
    hideReported (hideLink l d s) = hideLink l d (hideReported s) := by
  cases l <;> rfl

theorem State.gates_of_linkKeeps {s u : State} {l : LaneId} {d : Nat} {as : LaneId → List Nat} (h : s.keeps u (hideLink l d) as) :
    u.gates = s.gates := by
  cases l <;> exact (congrArg State.gates h.2 :)

section PopLink
variable (s : State) (l : LaneId) (d g : Nat)

theorem State.popLink_sparkSet (k : Nat) : (s.popLink l d).sparkSet g k = s.sparkSet g k :=
  State.sparkSet_of_dies_eq (s.popLink_dies l d) g k

theorem State.popLink_shortSoon : (s.popLink l d).shortSoon g = s.shortSoon g := by cases l <;> rfl

theorem State.popLink_lane_reg (m : LaneId) (a : Nat) : ((s.popLink l d).lane m).reg a = (s.lane m).reg a :=
  (s.popLink_keeps l d (inBoth [])).1 m a List.not_mem_nil

/-- A spark after the pop of the link is a spark. -/
theorem State.sparked_of_popLink {u : State} (h : (s.popLink l d).sparked u g) : s.sparked u g := by
  unfold State.sparked at h ⊢
  simp only [State.popLink_gate, State.popLink_now, State.popLink_sparkSet, State.popLink_lane_on, Lane.fld,
    State.popLink_lane_reg] at h ⊢
  exact h

end PopLink

section Arrival
variable {s : State} {l : LaneId} {d : Fin 12} {e : LinkEntry}

theorem State.popLink_supplied (h : s.dieRuns l d e) : (s.popLink l d).vsupLow = false := by
  obtain ⟨-, hsupplied, -⟩ := h
  rw [State.popLink_vsupLow, hsupplied]

theorem State.popLink_alone (h : s.dieRuns l d e) : (s.popLink l d).partner d l e.cmd = none := by
  obtain ⟨-, -, -, -, -, hpartner, -⟩ := h
  rw [State.popLink_partner, hpartner]

/-- A good frame is executed at the die at once; what the die keeps of it is hidden by the link's frame. -/
theorem State.arrival_row (h : s.dieRuns l d e) {i : Instr} {kinds : List DrvKind}
    (hi : exec i s = anyCmd l s fun s => s.linkArrive l d kinds false) (hk : e.cmd.kind ∈ kinds) {x : State}
    (hx : (s.popLink l d).dieExec l d e.cmd = x) {more hide : State → State} {as : LaneId → List Nat}
    (hkeeps : (s.popLink l d).keeps x hide as) (hlink : ∀ y, more (hideLink l d y) = more y) (hhide : ∀ y, more (hide y) = more y) :
    ∃ u, exec i s = .next u ∧ (∀ g, u.gate g = x.gate g) ∧ (∀ m a, (u.lane m).reg a = (x.lane m).reg a)
      ∧ (u.lane l).sched.links = (x.lane l).sched.links ∧ s.keeps u more as := by
  obtain ⟨-, hlane, hkept⟩ := State.dieArrive_of_alone (State.popLink_auth h) (State.popLink_alone h) as
  rw [hx] at hlane hkept
  refine ⟨((s.popLink l d).dieArrive l d e.cmd).settle, ?_, fun g => ?_, fun m a => ?_, ?_, ?_⟩
  · rw [hi, anyCmd_fitted l s _ h.1, State.linkArrive_of_front h hk false, if_neg Bool.false_ne_true]
  · rw [State.settle_gate, State.gate_of_gates_eq (State.gates_of_linkKeeps hkept)]
  · rw [State.settle_lane_reg, hlane]
  · rw [State.settle_lane_sched_links, hlane]
  · exact State.keeps_settle (State.keeps_trans (State.keeps_trans
      (State.keeps_weaken (s.popLink_keeps l d as) hlink fun _ => List.Subset.refl _)
      (State.keeps_weaken hkeeps hhide fun _ => List.Subset.refl _)) (State.keeps_weaken hkept hlink fun _ => List.Subset.refl _))

theorem State.dieExec_of_dwell {c : DrvCmd} (hv : s.vsupLow = false) (hc : c.kind = .dwell) :
    s.dieExec l d c = s.onDwell l (4 * d + c.ch % 4) c := by
  simp only [State.dieExec, hv, hc]
  rfl

theorem State.dieExec_of_spark {c : DrvCmd} (hv : s.vsupLow = false) (hc : c.kind = .spark) :
    s.dieExec l d c = s.onSpark (4 * d + c.ch % 4) := by
  simp only [State.dieExec, hv, hc]
  rfl

/-- The DWELL clause (R174 to R176). -/
theorem dwell_begins (h : s.dieRuns l d e) (hk : e.cmd.kind = .dwell) {g : Nat} (hg : g = 4 * d + e.cmd.ch % 4)
    (hidle : (s.gate g).state = .idle)
    (hset : (s.sparkSet g e.cmd.slot).1.getLsbD 31 = true → setTgt (s.sparkSet g e.cmd.slot) ≠ 0) :
    ∃ u, exec (.dwell l ⟨d, false⟩) s = .next u
      ∧ u.gate g = { (s.gate g).dwells l e.cmd s.now with igs := (u.gate g).igs, igsAt := some s.now }
      ∧ (setTgt (s.sparkSet g e.cmd.slot) ≠ 0 → (u.gate g).igs.toNat ≤ setTgt (s.sparkSet g e.cmd.slot))
      ∧ vget (u.lane l).sched.links d [] = (vget (s.lane l).sched.links d []).tail
      ∧ s.keeps u (hideGate g ∘ hideLink l d) (inBoth []) := by
  have hlt : g < 48 := by omega
  have hx : (s.popLink l d).dieExec l d e.cmd = (s.popLink l d).onDwell l g e.cmd := by
    rw [hg, State.dieExec_of_dwell (State.popLink_supplied h) hk]
  rw [← s.popLink_gate l d] at hidle
  rw [← s.popLink_sparkSet l d] at hset
  obtain ⟨hgate, hlimit⟩ := State.onDwell_gate (l := l) hlt hidle hset
  obtain ⟨u, hu, hgates, -, hlinks, hkeeps⟩ := State.arrival_row h (i := .dwell l ⟨d, false⟩) rfl (List.mem_singleton.2 hk) hx
    (more := hideGate g ∘ hideLink l d) (State.onDwell_keeps hidle hset (inBoth []))
    (fun y => congrArg (hideGate g) (hideLink_hideLink l d y))
    fun y => by rw [Function.comp_apply, hideLink_hideGate, hideGate_hideGate, Function.comp_apply]
  rw [State.popLink_gate, State.popLink_now, ← hgates] at hgate
  rw [State.popLink_sparkSet, ← hgates] at hlimit
  refine ⟨u, hu, hgate, hlimit, ?_, hkeeps⟩
  rw [hlinks, State.onDwell_of_idle hidle hset, State.gateUpd_lane, State.dwellBegun, State.gateUpd_lane, s.popLink_links l d.isLt]

end Arrival

/-! ### SPARK at a dwelling gate -/

/-- A lane counts a spark held to the dwell floor, and notes its delay. -/
def Lane.noteLate (g delay : Nat) (L : Lane) : Lane := (L.count (Reg.ignLate g) 16 16).setFld (Reg.ignLate g) 0 16 delay

/-- The spark of gate g is held to time t. -/
def State.sparkHeld (s : State) (g t : Nat) : State :=
  ((s.gateUpd g fun x => { x with heldTo := some t }).gFlag g 3).both (Lane.noteLate g (min ((t - s.now + 39) / 40) 0xFFFF))

/-- The time at which the dwell of gate g reaches the floor. -/
def State.floorAt (s : State) (g : Nat) : Nat := (s.gate g).td + setFloor (s.sparkSet g (s.gate g).set)

section OnSpark
variable {s : State} {g : Nat}

theorem State.onSpark_of_dwell (hdwell : (s.gate g).state = .dwell) (hheld : (s.gate g).heldTo = none)
    (hshort : s.shortSoon g = false) :
    s.onSpark g = if s.now < max s.now (s.floorAt g) then s.sparkHeld g (max s.now (s.floorAt g))
      else s.doSpark g :=
  if_neg (by rw [hdwell, hheld, hshort]; decide)

theorem Lane.noteLate_reg (L : Lane) (delay : Nat) {a : Nat} (ha : a ≠ Reg.ignLate g) : (L.noteLate g delay).reg a = L.reg a := by
  rw [Lane.noteLate, Lane.reg_setFld, if_neg ha, Lane.reg_count, if_neg ha]

theorem Lane.noteLate_quiet (L : Lane) (delay : Nat) : (L.noteLate g delay).quiet = L.quiet := by
  rw [Lane.noteLate, Lane.setFld, Lane.quiet_setReg, Lane.count, Lane.setFld, Lane.quiet_setReg]

theorem State.sparkHeld_gate (hg : g < 48) (t : Nat) : (s.sparkHeld g t).gate g = { s.gate g with heldTo := some t } :=
  State.gate_gateUpd_not_falling (s := s) (f := fun x => { x with heldTo := some t }) hg id

theorem State.sparkHeld_flagged (t : Nat) : s.flagged (s.sparkHeld g t) (Reg.ignEvent g) 3 :=
  State.flagged_both_of_reg_eq (s.flagged_gateUpd_gFlag g (fun x => { x with heldTo := some t }) (by decide))
    fun L => L.noteLate_reg _ (by simp [Reg.ignEvent, Reg.ignLate])

theorem State.sparkHeld_keeps (t : Nat) : s.keeps (s.sparkHeld g t) (hideGate g) (inBoth [Reg.ignEvent g, Reg.ignLate g]) :=
  State.keeps_trans (State.keeps_trans (s.keeps_gateUpd g _ _) (State.gFlag_keeps _ g 3 (List.mem_cons_self ..) _))
    (State.keeps_both _ (f := Lane.noteLate g _) (fun L => L.noteLate_quiet _) (fun L _ hb => L.noteLate_reg _ hb)
      (List.mem_cons_of_mem _ (List.mem_singleton_self _)) _)

end OnSpark

section SparkArrival
variable {s : State} {l : LaneId} {d : Fin 12} {e : LinkEntry} {g : Nat}
  (h : s.dieRuns l d e) (hk : e.cmd.kind = .spark) (hg : g = 4 * d + e.cmd.ch % 4)
  (hdwell : (s.gate g).state = .dwell) (hheld : (s.gate g).heldTo = none) (hshort : s.shortSoon g = false)
include h hk hg hdwell hheld hshort

/-- SPARK arrives at a gate in DWELL, no spark held. -/
theorem State.spark_arrives : (s.popLink l d).dieExec l d e.cmd = if s.now < max s.now (s.floorAt g)
    then (s.popLink l d).sparkHeld g (max s.now (s.floorAt g)) else (s.popLink l d).doSpark g := by
  have hfloor : (s.popLink l d).floorAt g = s.floorAt g := by
    rw [State.floorAt, State.popLink_gate, State.popLink_sparkSet, State.floorAt]
  rw [hg, State.dieExec_of_spark (State.popLink_supplied h) hk, ← hg, State.onSpark_of_dwell (by rw [State.popLink_gate, hdwell])
    (by rw [State.popLink_gate, hheld]) (by rw [State.popLink_shortSoon, hshort]), State.popLink_now, hfloor]

/-- The SPARK clause once FLOOR has passed (R177). -/
theorem spark_after_floor (hfloor : s.floorAt g ≤ s.now) : ∃ u, exec (.spark l ⟨d, false⟩) s = .next u ∧ s.sparked u g
    ∧ s.keeps u (hideGate g ∘ hideLink l d ∘ hideReported) (inBoth (sparkRegs g)) := by
  have hx := State.spark_arrives h hk hg hdwell hheld hshort
  rw [if_neg (by omega)] at hx
  have hinner : ∀ y, hideLink l d (hideReported (hideSpark g y)) = hideGate g (hideLink l d (hideReported y)) := fun y =>
    hideLink_hideGate l d g (hideReported y)
  obtain ⟨u, hu, hgates, hregs, -, hkeeps⟩ := State.arrival_row h (i := .spark l ⟨d, false⟩) rfl (List.mem_singleton.2 hk) hx
    (more := hideGate g ∘ hideLink l d ∘ hideReported) (State.doSpark_keeps _ g)
    (fun y => congrArg (hideGate g) ((congrArg (hideLink l d) (hideReported_hideLink l d y)).trans (hideLink_hideLink l d _)))
    fun y => (congrArg (hideGate g) (hinner y)).trans (hideGate_hideGate g _)
  have hsparked := State.sparked_of_eq ((s.popLink l d).doSpark_sparked (by omega)) (hgates g) hregs
  exact ⟨u, hu, s.sparked_of_popLink l d g hsparked, hkeeps⟩

/-- The SPARK clause before FLOOR has passed (R177). -/
theorem spark_before_floor (hfloor : s.now < s.floorAt g) : ∃ u, exec (.spark l ⟨d, false⟩) s = .next u
    ∧ u.gate g = { s.gate g with heldTo := some (s.floorAt g) } ∧ s.flagged u (Reg.ignEvent g) 3
    ∧ s.keeps u (hideGate g ∘ hideLink l d) (inBoth [Reg.ignEvent g, Reg.ignLate g]) := by
  have hx := State.spark_arrives h hk hg hdwell hheld hshort
  rw [Nat.max_eq_right (Nat.le_of_lt hfloor), if_pos hfloor] at hx
  obtain ⟨u, hu, hgates, hregs, -, hkeeps⟩ := State.arrival_row h (i := .spark l ⟨d, false⟩) rfl (List.mem_singleton.2 hk) hx
    (more := hideGate g ∘ hideLink l d)
    (State.sparkHeld_keeps (s := s.popLink l d) _) (fun y => congrArg (hideGate g) (hideLink_hideLink l d y))
    fun y => (congrArg (hideGate g) (hideLink_hideGate l d g y)).trans (hideGate_hideGate g _)
  refine ⟨u, hu, ?_, fun m hon => ?_, hkeeps⟩
  · rw [hgates, State.sparkHeld_gate (by omega), State.popLink_gate]
  · rw [Lane.bit_of_reg_eq (hregs m _)]
    exact State.sparkHeld_flagged (s := s.popLink l d) _ m (by rw [State.popLink_lane_on, hon])

end SparkArrival

/-- Settles O13. DWELL at an idle gate, and SPARK at a gate in DWELL, split at the dwell floor. -/
theorem dwellAndSparkCommands : Obligations.DwellAndSparkCommands := by
  unfold Obligations.DwellAndSparkCommands
  intro s l d e h
  exact ⟨fun hk => dwell_begins h hk rfl, fun hk hdwell hheld hshort =>
    ⟨spark_after_floor h hk rfl hdwell hheld hshort, spark_before_floor h hk rfl hdwell hheld hshort⟩⟩

/-! ### Held sparks and restrikes (R177, R178) -/

theorem exec_lateSpark (g : Fin 48) (s : State) : exec (.lateSpark g) s = .next (s.lateSpark g).settle := rfl

theorem exec_restrikeGapEnd (g : Fin 48) (s : State) : exec (.restrikeGapEnd g) s = .next (s.gapEnd g).settle := rfl

theorem exec_restrikeDwellEnd (g : Fin 48) (s : State) : exec (.restrikeDwellEnd g) s = .next (s.restrikeSpark g).settle := rfl

section Restrikes
variable {s : State} {g : Nat}

theorem State.lateSpark_of_due {t : Nat} (hheld : (s.gate g).heldTo = some t) (hdwell : (s.gate g).state = .dwell)
    (ht : t ≤ s.now) : s.lateSpark g = s.doSpark g := by
  unfold State.lateSpark
  simp only [hheld, hdwell, ht, beq_self_eq_true, decide_true, Bool.and_self, if_true]

theorem State.gapEnd_of_due (hstate : (s.gate g).state = .restrike) (hoff : (s.gate g).on = false)
    (ht : (s.gate g).rsAt + bits (s.sparkSet g (s.gate g).set).2.2.2 10 10 * 400 ≤ s.now) :
    s.gapEnd g = s.gateUpd g fun x => { x with drive := .high, rsAt := s.now } :=
  if_pos (by simp [hstate, hoff, ht])

/-- The gate after a restrike spark. -/
def Gate.restrikes (x : Gate) (now : Nat) : Gate :=
  { x with drive := .low, rsAt := now, rsLeft := x.rsLeft - 1, state := if x.rsLeft ≤ 1 then .idle else .restrike }

theorem State.restrikeSpark_of_due (hstate : (s.gate g).state = .restrike) (hon : (s.gate g).on = true)
    (ht : (s.gate g).rsAt + bits (s.sparkSet g (s.gate g).set).2.2.2 0 10 * 400 ≤ s.now) :
    s.restrikeSpark g = s.gateUpd g fun x => x.restrikes s.now :=
  if_pos (by simp [hstate, hon, ht])

end Restrikes

/-- Settles O14. Each row is due, and is a spark or one change of the gate. -/
theorem heldSparkAndRestrikes : Obligations.HeldSparkAndRestrikes := by
  unfold Obligations.HeldSparkAndRestrikes
  intro s g
  refine ⟨fun t hheld hdwell ht => ?_, fun hstate hoff ht => ?_, fun hstate hon ht => ?_⟩
  · rw [exec_lateSpark, State.lateSpark_of_due hheld hdwell ht]
    exact ⟨_, rfl, State.sparked_of_eq (s.doSpark_sparked g.isLt) (State.settle_gate ..) fun l a => State.settle_lane_reg ..,
      State.keeps_settle (s.doSpark_keeps g)⟩
  · rw [exec_restrikeGapEnd, State.gapEnd_of_due hstate hoff ht]
    refine ⟨_, rfl, ?_, s.keeps_gateUpd_settle g _⟩
    rw [State.settle_gate, State.gate_gateUpd_not_falling g.isLt]
    exact nofun
  · rw [exec_restrikeDwellEnd, State.restrikeSpark_of_due hstate hon ht]
    refine ⟨_, rfl, ?_, s.keeps_gateUpd_settle g _⟩
    rw [State.settle_gate, State.gate_gateUpd _ g.isLt, Gate.becomes_of_falling hon rfl]
    rfl

/-! ### A sample of the sense voltage (R170, R174, R182) -/

/-- I_TGT is reached in a dwell. -/
def Gate.reaches (x : Gate) (tgt : Nat) (igs : BitVec 10) : Bool := x.state == .dwell && tgt != 0 && decide (tgt ≤ igs.toNat)

/-- The gate with a sample of its sense voltage taken. -/
def Gate.sensed (x : Gate) (tgt : Nat) (igs : BitVec 10) (now : Nat) : Gate :=
  { x with
    igs := igs, igsAt := some now
    leakAt := if x.drive == .low && decide (igs.toNat ≤ bits x.ctrl 16 10) then now else x.leakAt
    peak := if x.state == .dwell && decide (x.peak.toNat < igs.toNat) then igs else x.peak
    charged := if x.reaches tgt igs then some (x.charged.getD (now - x.td)) else x.charged
    drive := if x.reaches tgt igs && x.drive == .high then .limit else x.drive }

/-- A sample ends no drive of IGg, and only limits it in a dwell. -/
theorem Gate.sensed_drive_low (x : Gate) (tgt : Nat) (igs : BitVec 10) (now : Nat) (h : (x.sensed tgt igs now).drive = .low) :
    x.drive = .low := by
  unfold Gate.sensed at h
  dsimp only at h
  split at h
  · cases h
  · exact h

theorem Gate.sensed_drive_of_not_dwell {x : Gate} (h : x.state ≠ .dwell) (tgt : Nat) (igs : BitVec 10) (now : Nat) :
    (x.sensed tgt igs now).drive = x.drive := by
  have hreach : x.reaches tgt igs = false := by rw [Gate.reaches, beq_false_of_ne h]; rfl
  unfold Gate.sensed
  rw [hreach]
  rfl

theorem Gate.sensed_drive_of_low {x : Gate} (h : x.drive = .low) (tgt : Nat) (igs : BitVec 10) (now : Nat) :
    (x.sensed tgt igs now).drive = .low := by
  have hlimit : (x.reaches tgt igs && x.drive == .high) = false := by
    rw [h]
    exact Bool.and_false _
  unfold Gate.sensed
  rw [hlimit]
  exact h

theorem Gate.sensed_leakAt_of_above {x : Gate} {igs : BitVec 10} (h : bits x.ctrl 16 10 < igs.toNat) (tgt now : Nat) :
    (x.sensed tgt igs now).leakAt = x.leakAt := if_neg (by simp [h])

section Sense
variable (s : State) {g : Nat} (igs : BitVec 10)

theorem State.senseGate_gate (hg : g < 48) : (s.senseGate g igs).gate g =
    (s.gate g).sensed (setTgt (s.sparkSet g (s.gate g).set)) igs s.now :=
  State.gate_gateUpd_not_falling (f := fun x => x.sensed (setTgt (s.sparkSet g (s.gate g).set)) igs s.now) hg
    ((s.gate g).sensed_drive_low _ igs s.now)

theorem State.senseGate_keeps (as : LaneId → List Nat) : s.keeps (s.senseGate g igs) (hideGate g) as := s.keeps_gateUpd g _ as

theorem State.senseGate_sparkSet (k : Nat) : (s.senseGate g igs).sparkSet g k = s.sparkSet g k := rfl

end Sense

/-! ### Overdwell and the end of a soft abort (R179, R180) -/

theorem exec_overdwell (g : Fin 48) (s : State) : exec (.overdwell g) s = .next (s.overdwell g).settle := rfl

theorem exec_softAbortEnd (g : Fin 48) (s : State) : exec (.softAbortEnd g) s = .next (s.softEnd g).settle := rfl

section Aborts
variable {s : State} {g : Nat}

theorem spark_of_arrivalOf {i : Instr} {l : LaneId} {d : Nat} {kinds : List DrvKind} (h : arrivalOf i = some (l, d, kinds))
    (hk : DrvKind.spark ∈ kinds) : ∃ l x, i = .spark l x := by
  unfold arrivalOf at h
  split at h
  case h_4 => exact ⟨_, _, rfl⟩
  case h_5 => cases h
  all_goals
    cases h
    exact absurd hk (by decide)

/-- Where no SPARK waits in the queue, none arrives in this cycle. -/
theorem State.linkSoon_of_no_spark (h : ∀ l x, Instr.spark l x ∉ s.pending) (d : Nat) {p : LaneId → DrvCmd → Bool}
    (hp : ∀ l c, p l c = true → c.kind = .spark) : s.linkSoon d p = false := by
  refine List.any_eq_false.2 fun i hi => ?_
  split
  · rename_i l d' kinds harr
    intro hsoon
    obtain ⟨-, hfront⟩ := Bool.and_eq_true_iff.1 hsoon
    split at hfront
    · obtain ⟨hkinds, hpe⟩ := Bool.and_eq_true_iff.1 hfront
      have hmem := List.contains_iff_mem.1 (Bool.and_eq_true_iff.1 hkinds).2
      obtain ⟨l, x, rfl⟩ := spark_of_arrivalOf harr (hp _ _ hpe ▸ hmem)
      exact h l x hi
    · cases hfront
  · exact Bool.false_ne_true

theorem State.overdwell_of_late (hdwell : (s.gate g).state = .dwell) (hheld : (s.gate g).heldTo = none)
    (hnone : ∀ l x, Instr.spark l x ∉ s.pending) (ht : (s.gate g).td + setMax (s.sparkSet g (s.gate g).set) ≤ s.now) :
    s.overdwell g = (s.softAbort g .idle).gateFault g 5 .ignOverdwell (s.gName g) := by
  have hsoon := State.linkSoon_of_no_spark hnone (g / 4)
    (p := fun l c => c.kind == .spark && c.ch == g % 4 && s.executesEnd (g / 4) l c) fun l c hp => by
      simp only [Bool.and_eq_true, beq_iff_eq] at hp
      obtain ⟨⟨hkind, -⟩, -⟩ := hp
      exact hkind
  refine if_pos ?_
  rw [hsoon, hdwell, hheld, decide_eq_true ht]
  rfl

/-- The OVERDWELL clause (R179). -/
theorem overdwell_soft_aborts {g : Fin 48} (hdwell : (s.gate g).state = .dwell) (hheld : (s.gate g).heldTo = none)
    (hnone : ∀ l x, Instr.spark l x ∉ s.pending) (ht : (s.gate g).td + setMax (s.sparkSet g (s.gate g).set) ≤ s.now) :
    ∃ u, exec (.overdwell g) s = .next u
      ∧ u.gate g = { s.gate g with state := .soft, drive := .ramp, softAt := s.now, softI0 := (s.gateSense g).toNat,
                                   afterSoft := .idle, rsLeft := 0 }
      ∧ s.flagged u (Reg.ignEvent g) 4 ∧ s.flagged u (Reg.ignEvent g) 5
      ∧ s.keeps u (hideGate g ∘ hideFaults) (inBoth [Reg.ignEvent g, Reg.ignCnt g, Reg.fltLost]) := by
  obtain ⟨hgate, hflag, hkeeps⟩ := State.gateFault_row (i := 5) (s.softAbort_keeps g .idle)
    (bs := [Reg.ignEvent g, Reg.ignCnt g, Reg.fltLost]) (by simp) (by simp) (by decide) .ignOverdwell (s.gName g)
  rw [exec_overdwell, State.overdwell_of_late hdwell hheld hnone ht]
  refine ⟨_, rfl, ?_, ?_, hflag, hkeeps⟩
  · rw [hgate, s.softAbort_gate .idle g.isLt, Gate.aborted, ← hheld]
  · exact State.flagged_settle ((State.gateFault_reportsAt _ g (by decide) _ _).flagged (by decide) (s.softAbort_flagged .idle))

/-- The gate at the end of the ramp. -/
def Gate.rampDone (x : Gate) : Gate := { x with state := if x.afterSoft == .fault then .fault else .idle, drive := .low, igs := 0 }

/-- The gate turns off at rest with EN 0. -/
def Gate.rests (x : Gate) : Gate := if x.state == .idle && !x.ctrl.getLsbD 0 then { x with state := .off } else x

theorem Gate.rests_drive (x : Gate) : x.rests.drive = x.drive := by
  unfold Gate.rests
  split <;> rfl

theorem State.gateRest_gate (hg : g < 48) : (s.gateRest g).gate g = (s.gate g).rests :=
  State.gate_gateUpd_not_falling (f := Gate.rests) hg fun h => (s.gate g).rests_drive ▸ h

theorem State.softEnd_of_due (hsoft : (s.gate g).state = .soft) (ht : (s.gate g).softAt + 800000 ≤ s.now) :
    s.softEnd g = (s.gateUpd g Gate.rampDone).gateRest g :=
  if_pos (by rw [hsoft, decide_eq_true ht]; rfl)

/-- The SOFT_ABORT_END clause (R180, R184). -/
theorem soft_abort_ends {g : Fin 48} (hsoft : (s.gate g).state = .soft) (ht : (s.gate g).softAt + 800000 ≤ s.now) :
    ∃ u, exec (.softAbortEnd g) s = .next u
      ∧ u.gate g = (s.gate g).becomes { s.gate g with
          state := if (s.gate g).afterSoft = .fault then .fault else if (s.gate g).ctrl.getLsbD 0 then .idle else .off
          drive := .low, igs := 0 } s.now
      ∧ s.keeps u (hideGate g) (inBoth []) := by
  rw [exec_softAbortEnd, State.softEnd_of_due hsoft ht]
  refine ⟨_, rfl, ?_, State.keeps_settle (State.keeps_trans (s.keeps_gateUpd g _ _) (State.keeps_gateUpd _ g _ _))⟩
  rw [State.settle_gate, State.gateRest_gate g.isLt, State.gate_gateUpd s g.isLt]
  unfold Gate.rests Gate.becomes Gate.rampDone
  by_cases hfault : (s.gate g).afterSoft = .fault
  · simp [hfault]
  · cases (s.gate g).ctrl.getLsbD 0 <;> simp [hfault]

end Aborts

/-! ### The checks of R182 -/

theorem exec_gateOpenCheck (g : Fin 48) (igs : BitVec 10) (s : State) :
    exec (.gateOpenCheck g igs) s = .next (s.openCheckGate g igs).settle := rfl

theorem exec_gateShort (g : Fin 48) (igs : BitVec 10) (s : State) :
    exec (.gateShort g igs) s = .next (s.shortGate g igs).settle := rfl

theorem exec_stuckOn (g : Fin 48) (igs : BitVec 10) (s : State) : exec (.stuckOn g igs) s = .next (s.stuckOn g igs).settle := rfl

section Checks
variable {s : State} {g : Fin 48} {igs : BitVec 10}

/-- The open check of this dwell has run. -/
def Gate.openChecked (x : Gate) : Gate := { x with openDone := true }

/-- A gate found open: IGg low, no spark held. -/
def Gate.foundOpen (x : Gate) : Gate := { x with state := .idle, drive := .low, heldTo := none }

theorem State.openCheckGate_of_open (hdwell : (s.gate g).state = .dwell) (hdiag : (s.gate g).ctrl.getLsbD 6 = true)
    (hfirst : (s.gate g).openDone = false) (ht : (s.gate g).td + bits (s.sparkSet g (s.gate g).set).2.2.1 0 12 * 400 ≤ s.now)
    (hlow : igs.toNat < bits (s.sparkSet g (s.gate g).set).2.2.1 12 10) : ∃ name, s.openCheckGate g igs =
      (((s.senseGate g igs).gateUpd g Gate.openChecked).gateUpd g Gate.foundOpen).gateFault g 6 .ignOpen name := by
  unfold State.openCheckGate
  simp only [s.senseGate_gate igs g.isLt, State.senseGate_sparkSet]
  refine ⟨_, (if_pos ?_).trans (if_pos hlow)⟩
  rw [Bool.and_eq_true, Bool.and_eq_true, Bool.and_eq_true]
  exact ⟨⟨⟨beq_iff_eq.2 hdwell, hdiag⟩, congrArg not hfirst⟩, decide_eq_true ht⟩

/-- The GATE_OPEN_CHECK clause (R182). -/
theorem open_gate_goes_idle (hdwell : (s.gate g).state = .dwell) (hdiag : (s.gate g).ctrl.getLsbD 6 = true)
    (hfirst : (s.gate g).openDone = false) (ht : (s.gate g).td + bits (s.sparkSet g (s.gate g).set).2.2.1 0 12 * 400 ≤ s.now)
    (hlow : igs.toNat < bits (s.sparkSet g (s.gate g).set).2.2.1 12 10) :
    ∃ u, exec (.gateOpenCheck g igs) s = .next u ∧ (u.gate g).state = .idle ∧ (u.gate g).drive = .low
      ∧ (u.gate g).openDone = true ∧ (u.gate g).igs = igs ∧ s.flagged u (Reg.ignEvent g) 6
      ∧ s.keeps u (hideGate g ∘ hideFaults) (inBoth [Reg.ignEvent g, Reg.fltLost]) := by
  obtain ⟨name, hrow⟩ := State.openCheckGate_of_open hdwell hdiag hfirst ht hlow
  obtain ⟨hgate, hflag, hkeeps⟩ := State.gateFault_row (i := 6) (as := []) (State.keeps_trans (State.keeps_trans
      (s.senseGate_keeps igs (inBoth [])) (State.keeps_gateUpd _ g Gate.openChecked _))
      (State.keeps_gateUpd _ g Gate.foundOpen _)) (List.nil_subset _) (List.Subset.refl _) (by decide) .ignOpen name
  rw [exec_gateOpenCheck, hrow]
  refine ⟨_, rfl, ?_⟩
  rw [hgate, State.gate_gateUpd _ g.isLt, State.gate_gateUpd _ g.isLt, s.senseGate_gate igs g.isLt]
  exact ⟨rfl, rfl, rfl, rfl, hflag, hkeeps⟩

/-- I_TRIP is reached in a state that GATE_SHORT is judged in. -/
theorem State.shortGate_of_trip (hacts : (s.gate g).state = .dwell ∨ (s.gate g).state = .restrike
      ∨ (s.gate g).state = .soft ∧ (s.gate g).afterSoft ≠ .fault)
    (htrip : bits (s.sparkSet g (s.gate g).set).2.2.1 22 10 ≤ igs.toNat) : ∃ name,
      s.shortGate g igs = ((s.senseGate g igs).quietGate g false .fault).gateFault g 7 .ignShort name := by
  unfold State.shortGate
  simp only [s.senseGate_gate igs g.isLt, State.senseGate_sparkSet]
  refine ⟨_, if_pos ?_⟩
  have htrip' : decide (bits (s.sparkSet g ((s.gate g).sensed (setTgt (s.sparkSet g (s.gate g).set)) igs s.now).set).2.2.1 22 10
    ≤ igs.toNat) = true := decide_eq_true htrip
  rw [htrip', Bool.and_true]
  obtain h | h | ⟨h, hafter⟩ := hacts
  · simp [Gate.sensed, h]
  · simp [Gate.sensed, h]
  · simp [Gate.sensed, h, hafter]

/-- The GATE_SHORT clause of a gate in DWELL or RESTRIKE (R182). -/
theorem short_soft_aborts (hrun : (s.gate g).state = .dwell ∨ (s.gate g).state = .restrike)
    (htrip : bits (s.sparkSet g (s.gate g).set).2.2.1 22 10 ≤ igs.toNat) :
    ∃ u, exec (.gateShort g igs) s = .next u ∧ (u.gate g).state = .soft ∧ (u.gate g).drive = .ramp
      ∧ (u.gate g).softAt = s.now ∧ (u.gate g).afterSoft = .fault ∧ (u.gate g).igs = igs ∧ s.flagged u (Reg.ignEvent g) 7
      ∧ s.keeps u (hideGate g ∘ hideFaults) (inBoth [Reg.ignEvent g, Reg.ignCnt g, Reg.fltLost]) := by
  obtain ⟨name, hrow⟩ := State.shortGate_of_trip (hrun.imp_right .inl) htrip
  have hsensed : ((s.senseGate g igs).gate g).state = (s.gate g).state := by rw [s.senseGate_gate igs g.isLt]; rfl
  rw [State.quietGate_of_running (by rwa [hsensed])] at hrow
  obtain ⟨hgate, hflag, hkeeps⟩ := State.gateFault_row (i := 7)
    (State.keeps_trans (s.senseGate_keeps igs _) ((s.senseGate g igs).softAbort_keeps g .fault))
    (bs := [Reg.ignEvent g, Reg.ignCnt g, Reg.fltLost]) (by simp) (by simp) (by decide) .ignShort name
  rw [exec_gateShort, hrow]
  refine ⟨_, rfl, ?_⟩
  rw [hgate, State.softAbort_gate _ _ g.isLt, s.senseGate_gate igs g.isLt]
  exact ⟨rfl, rfl, rfl, rfl, rfl, hflag, hkeeps⟩

/-- The GATE_SHORT clause of a gate in SOFT (R182, R184). -/
theorem short_on_ramp_faults (hsoft : (s.gate g).state = .soft) (hafter : (s.gate g).afterSoft ≠ .fault)
    (htrip : bits (s.sparkSet g (s.gate g).set).2.2.1 22 10 ≤ igs.toNat) :
    ∃ u, exec (.gateShort g igs) s = .next u ∧ (u.gate g).state = .soft ∧ (u.gate g).drive = (s.gate g).drive
      ∧ (u.gate g).softAt = (s.gate g).softAt ∧ (u.gate g).afterSoft = .fault ∧ s.flagged u (Reg.ignEvent g) 7
      ∧ s.keeps u (hideGate g ∘ hideFaults) (inBoth [Reg.ignEvent g, Reg.fltLost]) := by
  obtain ⟨name, hrow⟩ := State.shortGate_of_trip (.inr (.inr ⟨hsoft, hafter⟩)) htrip
  have hsensed : ((s.senseGate g igs).gate g).state = .soft := by rw [s.senseGate_gate igs g.isLt, ← hsoft]; rfl
  rw [State.quietGate_of_soft hsensed] at hrow
  obtain ⟨hgate, hflag, hkeeps⟩ := State.gateFault_row (i := 7) (as := [])
    (State.keeps_trans (s.senseGate_keeps igs _) (State.keeps_gateUpd _ g Gate.faultsAfter _))
    (List.nil_subset _) (List.Subset.refl _) (by decide) .ignShort name
  rw [exec_gateShort, hrow]
  refine ⟨_, rfl, ?_⟩
  rw [hgate, State.gate_gateUpd _ g.isLt, s.senseGate_gate igs g.isLt]
  exact ⟨hsoft, Gate.sensed_drive_of_not_dwell (by simp [hsoft]) _ igs s.now, rfl, rfl, hflag, hkeeps⟩

/-- A gate whose stage is stuck on. -/
def Gate.stuck (x : Gate) : Gate := { x with state := .fault, rsLeft := 0 }

theorem State.stuckOn_of_leak (hlow : (s.gate g).drive = .low) (hleak : bits (s.gate g).ctrl 16 10 < igs.toNat)
    (ht : (s.gate g).leakAt + 4000 ≤ s.now) : ∃ name, s.stuckOn g igs =
      ((s.senseGate g igs).gateUpd g Gate.stuck).gateFault g 8 .ignStuckOn name := by
  unfold State.stuckOn
  refine ⟨_, if_pos ?_⟩
  rw [s.senseGate_gate igs g.isLt, Gate.sensed_drive_of_low hlow, Gate.sensed_leakAt_of_above hleak,
    Bool.and_eq_true, Bool.and_eq_true]
  exact ⟨⟨rfl, decide_eq_true hleak⟩, decide_eq_true ht⟩

/-- The STUCK_ON clause (R182, R184). -/
theorem stuck_gate_faults (hlow : (s.gate g).drive = .low) (hleak : bits (s.gate g).ctrl 16 10 < igs.toNat)
    (ht : (s.gate g).leakAt + 4000 ≤ s.now) :
    ∃ u, exec (.stuckOn g igs) s = .next u ∧ (u.gate g).state = .fault ∧ (u.gate g).drive = .low ∧ (u.gate g).igs = igs
      ∧ s.flagged u (Reg.ignEvent g) 8 ∧ s.keeps u (hideGate g ∘ hideFaults) (inBoth [Reg.ignEvent g, Reg.fltLost]) := by
  obtain ⟨name, hrow⟩ := State.stuckOn_of_leak hlow hleak ht
  obtain ⟨hgate, hflag, hkeeps⟩ := State.gateFault_row (i := 8) (as := [])
    (State.keeps_trans (s.senseGate_keeps igs _) (State.keeps_gateUpd _ g Gate.stuck _))
    (List.nil_subset _) (List.Subset.refl _) (by decide) .ignStuckOn name
  rw [exec_stuckOn, hrow]
  refine ⟨_, rfl, ?_⟩
  rw [hgate, State.gate_gateUpd _ g.isLt, s.senseGate_gate igs g.isLt]
  exact ⟨rfl, Gate.sensed_drive_of_low hlow _ igs s.now, rfl, hflag, hkeeps⟩

end Checks

/-- Settles O15. Each row is due, and is a change of the gate with its event bit and fault; GATE_SHORT is split at a gate already
on the ramp. -/
theorem gateProtections : Obligations.GateProtections := by
  unfold Obligations.GateProtections
  intro s g igs
  exact ⟨overdwell_soft_aborts, soft_abort_ends, open_gate_goes_idle, short_soft_aborts, short_on_ramp_faults, stuck_gate_faults⟩

/-! ### A write of IGNg_CTRL (R180, R184, R185) -/

theorem regDesc_ignCtrl {g : Nat} (hg : g < 48) :
    regDesc (Reg.ignCtrl g) = some { base := 0x10030000, s1 := 32, n1 := 48, rw := 0x3ffff41, reset := 0xa0000 } := by
  have hblock : Reg.ignCtrl g / 0x10000 = 0x1003 := by simp only [Reg.ignCtrl]; omega
  have hcovers : RegDesc.covers { base := 0x10030000, s1 := 32, n1 := 48, rw := 0x3ffff41, reset := 0xa0000 } (Reg.ignCtrl g)
      = true := by
    simp [RegDesc.covers, Reg.ignCtrl, hg]
  rw [regDesc, blockRegs, hblock]
  exact List.find?_cons_of_pos hcovers

/-- Lane l has written v to IGNg_CTRL. -/
def State.gateCtrlWritten (s : State) (l : LaneId) (g : Nat) (v : Word) : State :=
  s.upd l fun L => L.setReg (Reg.ignCtrl g) (L.written (Reg.ignCtrl g) v)

section GateCtrlWritten
variable (s : State) (l : LaneId) (g : Nat) (v : Word)

theorem State.gateCtrlWritten_gate : (s.gateCtrlWritten l g v).gate g = s.gate g := State.gate_of_gates_eq (State.upd_gates ..) g

theorem State.gateCtrlWritten_die (d : Nat) : (s.gateCtrlWritten l g v).die d = s.die d := by
  rw [State.die, State.gateCtrlWritten, State.upd_dies, State.die]

theorem State.gateCtrlWritten_on (m : LaneId) : ((s.gateCtrlWritten l g v).lane m).on = (s.lane m).on := by
  cases l <;> cases m <;> rfl

theorem State.gateCtrlWritten_reg :
    ((s.gateCtrlWritten l g v).lane l).reg (Reg.ignCtrl g) = (s.lane l).written (Reg.ignCtrl g) v := by
  rw [State.gateCtrlWritten, State.lane_upd, Lane.reg_setReg, if_pos rfl]

theorem State.gateCtrlWritten_keeps : s.keeps (s.gateCtrlWritten l g v) (hideGate g) (inLane l [Reg.ignCtrl g]) :=
  State.keeps_weaken (State.keeps_upd_regs (fun a ha => by rw [Lane.reg_setReg, if_neg fun h => ha (List.mem_singleton.2 h)]) rfl)
    (fun _ => rfl) fun _ => List.Subset.refl _

end GateCtrlWritten

/-- A write of IGNg_CTRL that the gate takes goes to the lane's register, and then to the gate. -/
theorem State.regWrite_ignCtrl {s : State} {l : LaneId} {g : Nat} (v : Word) (hg : g < 48)
    (hheld : (s.lane l).held l (Reg.ignCtrl g) = false) (htakes : s.gateTakes g l = true) :
    s.regWrite l (Reg.ignCtrl g) v = (s.gateCtrlWritten l g v).dieGateCtrl g v := by
  have hblock : Reg.ignCtrl g / 0x10000 = 0x1003 := by simp only [Reg.ignCtrl]; omega
  have hoffset : Reg.ignCtrl g - 0x10030000 = 32 * g := by simp only [Reg.ignCtrl]; omega
  have hign : s.regWrite l (Reg.ignCtrl g) v = s.writeIgn l (Reg.ignCtrl g) v := by
    simp [State.regWrite, State.writeReg, hheld, hblock]
  have hwrite : (s.upd l fun L => L.applyCodes (Reg.ignCtrl g) v) = s.gateCtrlWritten l g v := by
    simp only [State.gateCtrlWritten, Lane.applyCodes_of_unlocked _ v (regDesc_ignCtrl hg) (by decide) rfl]
  have htakes' : (s.gateCtrlWritten l g v).gateTakes g l = true := by cases l <;> exact htakes
  rw [hign, State.writeIgn, hoffset, if_pos ⟨by omega, by omega⟩, Nat.mul_div_cancel_left g (by decide),
    State.writeGateCtrl, hwrite, if_pos htakes']

theorem exec_gateCtrl_of_takesWrite {s : State} {l : LaneId} {g : Fin 48} {v : Word} (h : s.takesWrite l (Reg.ignCtrl g))
    (htakes : s.gateTakes g l = true) {c : Instr} (hc : c ∈ [Instr.gateEnable l g v, .gateDisable l g v, .gateClear l g v]) :
    exec c s = .next ((s.gateCtrlWritten l g v).dieGateCtrl g v).settle := by
  have hrow : exec c s = laneCmd l s fun s => s.regWrite l (Reg.ignCtrl g) v := by
    simp only [List.mem_cons, List.not_mem_nil, or_false] at hc
    rcases hc with rfl | rfl | rfl <;> rfl
  rw [hrow, laneCmd_on l s _ h.1.1 h.1.2, State.regWrite_ignCtrl v g.isLt h.2 htakes]

/-- The settings that the gate takes. -/
def Gate.withCtrl (v : Word) (x : Gate) : Gate := { x with ctrl := v &&& 0x03FFFF41 }

/-- EN is a bit of the settings taken. -/
theorem Gate.withCtrl_en (x : Gate) (v : Word) : (x.withCtrl v).ctrl.getLsbD 0 = v.getLsbD 0 :=
  BitVec.getLsbD_and.trans (Bool.and_true _)

/-- EN 1 takes the gate out of OFF. -/
def Gate.wakes (x : Gate) : Gate := if x.state == .off then { x with state := .idle } else x

/-- The gate is IDLE. -/
def Gate.idles (x : Gate) : Gate := { x with state := .idle }

/-- The gate takes IGNg_CTRL but for CLR. -/
def State.gateEnTaken (s : State) (g : Nat) (v : Word) : State :=
  let s := s.gateUpd g (Gate.withCtrl v)
  if v.getLsbD 0 then s.gateUpd g Gate.wakes else (s.quietGate g false .idle).gateRest g

section DieGateCtrl
variable (s : State) {g : Nat} {v : Word}

theorem State.gateEnTaken_of_enable (hen : v.getLsbD 0 = true) :
    s.gateEnTaken g v = (s.gateUpd g (Gate.withCtrl v)).gateUpd g Gate.wakes := if_pos hen

theorem State.gateEnTaken_of_disable (hen : v.getLsbD 0 = false) :
    s.gateEnTaken g v = ((s.gateUpd g (Gate.withCtrl v)).quietGate g false .idle).gateRest g := if_neg (by rw [hen]; decide)

theorem State.dieGateCtrl_eq (g : Nat) (v : Word) : s.dieGateCtrl g v =
    if v.getLsbD 7 && ((s.gateEnTaken g v).gate g).state == .fault && !((s.gateEnTaken g v).die (g / 4)).fenced
    then (s.gateEnTaken g v).gateUpd g Gate.idles else s.gateEnTaken g v := rfl

theorem State.dieGateCtrl_of_no_clear (hclr : v.getLsbD 7 = false) : s.dieGateCtrl g v = s.gateEnTaken g v := by
  rw [State.dieGateCtrl_eq, hclr]
  rfl

theorem State.withCtrl_gate (hg : g < 48) (v : Word) : (s.gateUpd g (Gate.withCtrl v)).gate g = (s.gate g).withCtrl v :=
  State.gate_gateUpd_not_falling hg id

/-- In FAULT the gate takes its settings and stays (R184). -/
theorem State.gateEnTaken_of_fault (hg : g < 48) (hfault : (s.gate g).state = .fault) (v : Word) :
    ((s.gateEnTaken g v).gate g).state = .fault ∧ ∃ f, s.gateEnTaken g v = (s.gateUpd g (Gate.withCtrl v)).gateUpd g f := by
  have hctrl := s.withCtrl_gate hg v
  have hstate : ((s.gate g).withCtrl v).state = .fault := hfault
  cases hen : v.getLsbD 0 with
  | true =>
    have hstays : ((s.gate g).withCtrl v).wakes = (s.gate g).withCtrl v := if_neg (by rw [hstate]; decide)
    rw [s.gateEnTaken_of_enable hen, State.gate_gateUpd _ hg, hctrl, hstays]
    exact ⟨hfault, _, rfl⟩
  | false =>
    have hstays : ((s.gate g).withCtrl v).rests = (s.gate g).withCtrl v := if_neg (by rw [hstate]; exact Bool.false_ne_true)
    rw [s.gateEnTaken_of_disable hen, State.quietGate_of_rest (.inr (by rw [hctrl, hstate])), State.gateRest_gate hg, hctrl, hstays]
    exact ⟨hfault, Gate.rests, rfl⟩

/-- EN 0 takes an idle gate to OFF (R184). -/
theorem State.gateEnTaken_of_idle (hg : g < 48) (hen : v.getLsbD 0 = false) (hidle : (s.gate g).state = .idle) :
    ((s.gateEnTaken g v).gate g).state = .off := by
  have hctrl := s.withCtrl_gate hg v
  have hstate : ((s.gate g).withCtrl v).state = .idle := hidle
  have hrests : ((s.gate g).withCtrl v).rests = { (s.gate g).withCtrl v with state := .off } :=
    if_pos (by rw [hstate, Gate.withCtrl_en, hen]; rfl)
  rw [s.gateEnTaken_of_disable hen, State.quietGate_of_rest (.inl (by rw [hctrl, hstate])), State.gateRest_gate hg, hctrl, hrests]

/-- EN 0 soft-aborts a dwell (R180). -/
theorem State.gateEnTaken_of_dwell (hg : g < 48) (hen : v.getLsbD 0 = false) (hdwell : (s.gate g).state = .dwell) :
    ((s.gateEnTaken g v).gate g).state = .soft ∧ ((s.gateEnTaken g v).gate g).drive = .ramp
      ∧ ((s.gateEnTaken g v).gate g).afterSoft = .idle ∧ s.flagged (s.gateEnTaken g v) (Reg.ignEvent g) 4 := by
  have hstate : ((s.gateUpd g (Gate.withCtrl v)).gate g).state = .dwell := by rw [s.withCtrl_gate hg v, ← hdwell]; rfl
  rw [s.gateEnTaken_of_disable hen, State.quietGate_of_running (.inl hstate), State.gateRest_gate hg, State.softAbort_gate _ _ hg]
  refine ⟨rfl, rfl, rfl, fun m hm => ?_⟩
  rw [State.gateRest, State.gateUpd_lane]
  exact State.softAbort_flagged _ .idle m (by rw [State.gateUpd_lane, hm])

theorem State.gateEnTaken_keeps (v : Word) : s.keeps (s.gateEnTaken g v) (hideGate g) (inBoth [Reg.ignEvent g, Reg.ignCnt g]) := by
  have hctrl := s.keeps_gateUpd g (Gate.withCtrl v) (inBoth [Reg.ignEvent g, Reg.ignCnt g])
  cases hen : v.getLsbD 0 with
  | true =>
    rw [s.gateEnTaken_of_enable hen]
    exact State.keeps_trans hctrl (State.keeps_gateUpd _ g _ _)
  | false =>
    rw [s.gateEnTaken_of_disable hen]
    exact State.keeps_trans (State.keeps_trans hctrl (State.quietGate_keeps _ g false .idle)) (State.keeps_gateUpd _ g _ _)

/-- CLR leaves FAULT whatever EN is (R184). -/
theorem State.dieGateCtrl_of_clear (hg : g < 48) (hclr : v.getLsbD 7 = true) (hfault : (s.gate g).state = .fault)
    (hfenced : (s.die (g / 4)).fenced = false) :
    ∃ f, s.dieGateCtrl g v = ((s.gateUpd g (Gate.withCtrl v)).gateUpd g f).gateUpd g Gate.idles := by
  obtain ⟨hstate, f, hf⟩ := s.gateEnTaken_of_fault hg hfault v
  have hdie : ((s.gateEnTaken g v).die (g / 4)).fenced = false := by rw [hf]; exact hfenced
  rw [State.dieGateCtrl_eq, if_pos (by rw [hclr, hstate, hdie]; rfl), hf]
  exact ⟨f, rfl⟩

end DieGateCtrl

section GateCtrl
variable {s : State} {l : LaneId} {g : Fin 48} {v : Word} (h : s.takesWrite l (Reg.ignCtrl g)) (htakes : s.gateTakes g l = true)
include h htakes

/-- The EN 1 clause (R184). -/
theorem gate_enables (hen : v.getLsbD 0 = true) (hclr : v.getLsbD 7 = false) (hoff : (s.gate g).state = .off) :
    ∃ u, exec (.gateEnable l g v) s = .next u ∧ (u.gate g).state = .idle ∧ (u.gate g).ctrl = v &&& 0x03FFFF41
      ∧ (u.lane l).reg (Reg.ignCtrl g) = (s.lane l).written (Reg.ignCtrl g) v
      ∧ s.keeps u (hideGate g) (inLane l [Reg.ignCtrl g]) := by
  rw [exec_gateCtrl_of_takesWrite (v := v) h htakes (by simp), State.dieGateCtrl_of_no_clear _ hclr,
    State.gateEnTaken_of_enable _ hen]
  have hwakes : ((s.gate g).withCtrl v).wakes = ((s.gate g).withCtrl v).idles := if_pos (beq_iff_eq.2 hoff)
  refine ⟨_, rfl, ?_⟩
  rw [State.settle_gate, State.gate_gateUpd _ g.isLt, State.withCtrl_gate _ g.isLt v, State.gateCtrlWritten_gate, hwakes,
    State.settle_lane_reg, State.gateUpd_lane, State.gateUpd_lane, State.gateCtrlWritten_reg]
  exact ⟨rfl, rfl, rfl, State.keeps_settle (State.keeps_trans (State.keeps_trans (s.gateCtrlWritten_keeps l g v)
    (State.keeps_gateUpd _ g _ _)) (State.keeps_gateUpd _ g _ _))⟩

/-- The EN 0 clause (R180, R184). -/
theorem gate_disables (hen : v.getLsbD 0 = false) (hclr : v.getLsbD 7 = false) :
    ∃ u, exec (.gateDisable l g v) s = .next u
      ∧ ((s.gate g).state = .idle → (u.gate g).state = .off)
      ∧ ((s.gate g).state = .dwell → (u.gate g).state = .soft ∧ (u.gate g).drive = .ramp ∧ (u.gate g).afterSoft = .idle
          ∧ s.flagged u (Reg.ignEvent g) 4)
      ∧ s.keeps u (hideGate g) (fun m => [Reg.ignEvent g, Reg.ignCnt g] ++ inLane l [Reg.ignCtrl g] m) := by
  rw [exec_gateCtrl_of_takesWrite (v := v) h htakes (by simp), State.dieGateCtrl_of_no_clear _ hclr]
  have hgate := s.gateCtrlWritten_gate l g v
  refine ⟨_, rfl, fun hidle => ?_, fun hdwell => ?_, State.keeps_settle (State.keeps_trans
    (State.keeps_weaken (s.gateCtrlWritten_keeps l g v) (hideGate_hideGate g) fun _ => List.subset_append_right _ _)
    (State.keeps_weaken (State.gateEnTaken_keeps _ v) (hideGate_hideGate g) fun _ => List.subset_append_left _ _))⟩
  · rw [State.settle_gate]
    exact State.gateEnTaken_of_idle _ g.isLt hen (by rw [hgate, hidle])
  · obtain ⟨hstate, hdrive, hafter, hflag⟩ := (s.gateCtrlWritten l g v).gateEnTaken_of_dwell g.isLt hen (by rw [hgate, hdwell])
    rw [State.settle_gate]
    exact ⟨hstate, hdrive, hafter, State.flagged_settle (State.flagged_of_on (s.gateCtrlWritten_on l g v) hflag)⟩

/-- The CLR clause (R184). -/
theorem gate_clears (hclr : v.getLsbD 7 = true) (hfault : (s.gate g).state = .fault) (hfenced : (s.die (g / 4)).fenced = false) :
    ∃ u, exec (.gateClear l g v) s = .next u ∧ (u.gate g).state = .idle
      ∧ s.keeps u (hideGate g) (inLane l [Reg.ignCtrl g]) := by
  obtain ⟨f, hrow⟩ := (s.gateCtrlWritten l g v).dieGateCtrl_of_clear g.isLt hclr (by rw [State.gateCtrlWritten_gate, hfault])
    (by rw [State.gateCtrlWritten_die, hfenced])
  rw [exec_gateCtrl_of_takesWrite (v := v) h htakes (by simp), hrow]
  refine ⟨_, rfl, ?_, State.keeps_settle (State.keeps_trans (State.keeps_trans (State.keeps_trans (s.gateCtrlWritten_keeps l g v)
    (State.keeps_gateUpd _ g _ _)) (State.keeps_gateUpd _ g _ _)) (State.keeps_gateUpd _ g _ _))⟩
  rw [State.settle_gate, State.gate_gateUpd _ g.isLt]
  rfl

end GateCtrl

/-! ### CHARGE_REPORT (R175) -/

/-- A lane that has taken the front charge-time report off its queue. -/
def Lane.popCharge (L : Lane) : Lane := { L with chargeQ := L.chargeQ.tail }

section Charge
variable {s : State} {l : LaneId} {r : ChargeReport}

theorem Lane.chargeArrive_of_front {L : Lane} (h : L.chargeQ.head? = some r) : L.chargeArrive = L.popCharge.chargeReport r := by
  obtain ⟨rest, hq⟩ := List.head?_eq_some_iff.1 h
  simp only [Lane.chargeArrive, Lane.popCharge, hq, List.tail_cons]

theorem exec_chargeReport_of_front (h : (s.lane l).chargeQ.head? = some r) (hruns : s.runs l) :
    exec (.chargeReport l) s = .next (s.upd l fun L => L.popCharge.chargeReport r).settle := by
  refine (show _ = execChargeReport l s from rfl).trans ((laneCmd_on l s _ hruns.1 hruns.2).trans ?_)
  rw [State.upd, Lane.chargeArrive_of_front h, State.upd]

/-- The estimate that a report asks for, before FLOOR and DW_MAX. -/
def Lane.chargeEstimate (L : Lane) (r : ChargeReport) : Nat :=
  match r.x with
  | some x => x + L.fld (Reg.setRs r.set) 24 8 * 4000
  | none => L.fld (Reg.ignDwest r.gate) 0 24 + L.fld (Reg.ignDwest r.gate) 0 24 / 8

/-- A word holds a number of 24 bits. -/
theorem toNat_ofNat_min_24 (n : Nat) : (BitVec.ofNat 32 (min n (2 ^ 24 - 1))).toNat = min n (2 ^ 24 - 1) := by
  rw [BitVec.toNat_ofNat, Nat.mod_eq_of_lt (by omega)]

/-- The clause of a charge-time report. -/
theorem charge_report_moves_estimate (h : (s.lane l).chargeQ.head? = some r) (hruns : s.runs l) :
    ∃ u, exec (.chargeReport l) s = .next u ∧ (u.lane l).chargeQ = (s.lane l).chargeQ.tail
      ∧ ((u.lane l).reg (Reg.ignDwest r.gate)).toNat =
          min (max ((s.lane l).fld (Reg.setLimit r.set) 0 16 * 400)
            (min ((s.lane l).chargeEstimate r) ((s.lane l).fld (Reg.setLimit r.set) 16 16 * 400))) (2 ^ 24 - 1)
      ∧ s.keeps u (hideIn l fun L => { L with chargeQ := [] }) (inLane l [Reg.ignDwest r.gate]) := by
  rw [exec_chargeReport_of_front h hruns]
  have hrest : { (s.lane l).popCharge.chargeReport r with chargeQ := [] }.quiet = { s.lane l with chargeQ := [] }.quiet :=
    (Lane.quiet_setReg { (s.lane l).popCharge with chargeQ := [] } _ _ :)
  refine ⟨_, rfl, ?_, ?_, State.keeps_settle (State.keeps_upd (fun a ha => ?_) hrest)⟩
  · rw [State.settle_lane_chargeQ, State.lane_upd]
    rfl
  · rw [State.settle_lane_reg, State.lane_upd, Lane.chargeReport, Lane.reg_setReg, if_pos rfl, toNat_ofNat_min_24]
    rfl
  · rw [Lane.chargeReport, Lane.reg_setReg, if_neg fun heq => ha (List.mem_singleton.2 heq)]
    rfl

end Charge

/-- Settles O16. The write goes to the register and to the gate, split at EN and CLR; a charge-time report is one register. -/
theorem gateControlAndChargeReports : Obligations.GateControlAndChargeReports := by
  unfold Obligations.GateControlAndChargeReports
  intro s l g v
  exact ⟨fun h htakes => ⟨gate_enables h htakes, fun hen hclr _ => gate_disables h htakes hen hclr, gate_clears h htakes⟩,
    fun _ => charge_report_moves_estimate⟩

end Sys2Proof.Machine
